-- ==== Sys2Proof/Word.lean ====
section
/-! DEFINITION. The byte, and the largest values of the widths that the spec's saturating quantities have
(00_scope, Conventions: "a saturating quantity that would pass its maximum is held at that value"). -/

namespace Sys2Proof

/-- One byte of a frame, of a segment image or of a body. -/
abbrev Byte := BitVec 8

/-- The largest 32-bit value, 4,294,967,295. -/
abbrev max32 : Nat := 4294967295

/-- The largest 64-bit value. -/
abbrev max64 : Nat := 18446744073709551615

/-- Addition of a saturating quantity whose largest value is `limit`. -/
def satAdd (limit a b : Nat) : Nat := min limit (a + b)

/-- A table held sparsely: (key, value) pairs with keys strictly rising. -/
abbrev NMap (α : Type) := List (Nat × α)

end Sys2Proof
end

