-- ==== Sys2Proof/Config.lean ====
section
/-! DEFINITION. The capacities, identity codes and parameter ranges that the spec fixes for this LSI. It leaves no result
of a command without a value, so there is no free value among them. -/

namespace Sys2Proof.Config

/-- Segment Catalog entries, ids 0..262,143 (R108). -/
abbrev catalogEntries : Nat := 262144
/-- Open Segment List capacity (R90). -/
abbrev openSegmentLimit : Nat := 16
/-- Control queue capacity (R169). -/
abbrev controlQueueLimit : Nat := 4
/-- Report Queue capacity (R180). -/
abbrev reportQueueLimit : Nat := 64
/-- Report entries that make the threshold condition hold (R181). -/
abbrev reportThreshold : Nat := 48
/-- Report entries that one bundle carries at most (R181). -/
abbrev bundleLimit : Nat := 8
/-- Recent Files capacity (R38). -/
abbrev recentFilesLimit : Nat := 64
/-- Pending Audit Hold list capacity (R148). -/
abbrev pendingHoldLimit : Nat := 8
/-- Hold Table entries (R134). -/
abbrev holdEntries : Nat := 64
/-- Duplicate Filter buckets (R62). -/
abbrev filterBuckets : Nat := 32768
/-- Ways of one filter bucket (R63). -/
abbrev filterWays : Nat := 8
/-- Records a segment holds at most (R83). -/
abbrev segmentRecordLimit : Nat := 4096
/-- Bytes a segment body holds at most (R83). -/
abbrev segmentBodyLimit : Nat := 65496
/-- Bytes of an image, and of the read buffer (R87, R131). -/
abbrev imageLimit : Nat := 65536
/-- Image bytes of one Store link frame (R122, R123). -/
abbrev partLimit : Nat := 16384
/-- Call records of one RECORD BLOCK (R23). -/
abbrev blockRecordLimit : Nat := 170
/-- Failed writes, or failed deletions, before an entry is given up (R103, R114). -/
abbrev attemptLimit : Nat := 3
/-- Highest archive day (00_scope, Terms). -/
abbrev lastDay : Nat := 65535
/-- Highest current day (R9). -/
abbrev lastCurrentDay : Nat := 65534
/-- Seconds of a day (R5). -/
abbrev secondsPerDay : Nat := 86400
/-- Longest valid duration of a record, in seconds (R3). -/
abbrev durationLimit : Nat := 172800
/-- Digit positions of a number (R1). -/
abbrev digitPositions : Nat := 20
/-- DELETE tags the Expiry Sweeper may hold (R125). -/
abbrev sweeperTagLimit : Nat := 4
/-- READ tags the Verifier may hold (R125). -/
abbrev verifierTagLimit : Nat := 1
/-- The Time Base wraps here (R178). -/
abbrev timeModulus : Nat := 4294967296
/-- Milliseconds without a sent frame after which a locked port sends LINK KEEP (R183). -/
abbrev linkKeepInterval : Nat := 10
/-- Milliseconds without a good frame after which an UP port becomes DOWN (R183). -/
abbrev linkSilenceLimit : Nat := 50
/-- The segment header's marker (R86). -/
abbrev headerMarker : Nat := 0xA5C3
/-- The segment format (R86). -/
abbrev segmentFormat : Nat := 1
/-- Bytes of a segment header (R86). -/
abbrev headerLength : Nat := 40
/-- Vendor code of QUERY IDENT (R184). -/
abbrev vendorCode : Nat := 0xB4
/-- Part code of QUERY IDENT (R184). -/
abbrev partCode : Nat := 0x0420
/-- Revision of QUERY IDENT (R184). -/
abbrev revision : Nat := 1

end Sys2Proof.Config
end

