-- ==== Sys2Proof/Syntax.lean ====
section
/-! DEFINITION. The commands of the CA-420: one constructor of `Instr` for each row of the table of operations and
events, with the fields of the frame (chapter 12) or the thing whose timer expires as operands. -/

namespace Sys2Proof

/-- The two frame ports (R183). -/
inductive PortId where
  | feed
  | store
  deriving DecidableEq, Repr

/-- Why an UP port becomes DOWN (R183): its receiver loses lock, or 50 ms pass without a good frame. -/
inductive LossCause where
  | lockLost
  | silence
  deriving DecidableEq, Repr

/-- A party number as received: a digit count and the 20 digit positions (R1). -/
structure Number where
  count : Nat
  digits : List Nat
  deriving DecidableEq, Repr

/-- A call record as received (R1). -/
structure CallRecord where
  kind : Nat
  cause : Nat
  switchId : Nat
  service : Nat
  trunk : Nat
  sequence : Nat
  startTime : Nat
  duration : Nat
  charge : Nat
  flags : Nat
  calling : Number
  called : Number
  deriving DecidableEq, Repr

/-- The status of a STORE ACK (R123). -/
inductive AckStatus where
  | ok
  | notFound
  | full
  | error
  deriving DecidableEq, Repr

/-- The entries of a TABLE_WRITE, by the table it names (R47, R184). A switch entry is its enabled byte and its offset. -/
inductive TableEntries where
  | serviceMap (classes : List Nat)
  | classTable (retentions : List Nat)
  | switchTable (entries : List (Nat × Int))
  | prefixDictionary (entries : List Number)
  deriving DecidableEq, Repr

/-- One entry of a CATALOG_LOAD (R118), in the fields of the layout of chapter 12 that are read. -/
structure LoadEntry where
  segmentId : Nat
  edition : Nat
  cls : Nat
  day : Nat
  bank : Nat
  generation : Nat
  late : Bool
  recordCount : Nat
  bodyLength : Nat
  checkValue : Nat
  durationSum : Nat
  firstStart : Nat
  lastStart : Nat
  expiryDay : Nat
  verifyCode : Nat
  reasonCode : Nat
  switches : List Nat
  deriving DecidableEq, Repr

/-- The parameters of SET, in the order of R174. -/
inductive Param where
  | reportHoldoff
  | lateWindow
  | sealTimeout
  | storeTimeout
  | fullRetry
  | sweepBurst
  | sweepRest
  | autoSweep
  | verifyRest
  | verifyScope
  deriving DecidableEq, Repr

/-- The kinds of QUERY, in the order of R175, each with its argument. -/
inductive Query where
  | ident
  | status
  | lane (lane : Nat)
  | recent (position : Nat)
  | banks
  | catalog (segmentId : Nat)
  | day (day switchWord : Nat)
  | holds
  | params
  deriving DecidableEq, Repr

/-- A control request that enters the control queue (R169), with its arguments as received. A request that names no
request of the table, or whose payload length does not match, is `unknown` with its request code. -/
inductive Request where
  | start (day : Nat)
  | catalogLoad (entries : List LoadEntry)
  | tableBegin (bank force : Nat)
  | tableWrite (bank : Nat) (startIndex : Option Nat) (entries : TableEntries)
  | tableEnd (bank supplied generation : Nat)
  | tableSelect (bank mode : Nat)
  | tableCancel
  | dayClose
  | holdAdd (switchWord firstDay lastDay classSet : Nat)
  | holdRelease (holdId : Nat)
  | sweepStart (mode : Nat)
  | sweepStop
  | verifyStart (mode : Nat)
  | verifyStop
  | segmentRetry (segmentId edition : Nat)
  | segmentDiscard (segmentId edition : Nat)
  | set (parameter : Param) (value : Nat)
  | query (kind : Query)
  | unknown (code : Nat) (arguments : List Byte)
  deriving DecidableEq, Repr

/-- The commands: one constructor per row of the table. `tag` of a control request is its control tag (R169). -/
inductive Instr where
  | powerOnReset
  | resetWarm (tag : Nat)
  | resetCold (tag : Nat)
  | feedLinkLoss (cause : LossCause)
  | feedLinkUp
  | storeLinkLoss (cause : LossCause)
  | storeLinkUp
  | linkKeep (port : PortId)
  | linkKeepSend (port : PortId)
  | fileOpen (lane : Fin 16) (continueFlag : Bool) (switchId fileNumber : Nat)
  | recordBlock (lane : Fin 16) (blockNumber : Nat) (records : List CallRecord)
  | fileClose (lane : Fin 16) (recordCount durationSum chargeSum : Nat)
  | fileAbort (lane : Fin 16)
  | storeAck (tag : Fin 8) (segmentId edition : Nat) (status : AckStatus)
  | readData (tag : Fin 8) (last : Bool) (bytes : List Byte)
  | parseRecord
  | sealTimeout (segmentId : Nat)
  | tagTimeout (tag : Fin 8)
  | fullWaitExpiry (segmentId : Nat)
  | sweepRestExpiry
  | verifyRestExpiry
  | holdoffTimerExpiry
  | validationComplete
  | startComputationComplete
  | start (tag day : Nat)
  | catalogLoad (tag : Nat) (entries : List LoadEntry)
  | tableBegin (tag bank force : Nat)
  | tableWrite (tag bank : Nat) (startIndex : Option Nat) (entries : TableEntries)
  | tableEnd (tag bank supplied generation : Nat)
  | tableSelect (tag bank mode : Nat)
  | tableCancel (tag : Nat)
  | dayClose (tag : Nat)
  | holdAdd (tag switchWord firstDay lastDay classSet : Nat)
  | holdRelease (tag holdId : Nat)
  | sweepStart (tag mode : Nat)
  | sweepStop (tag : Nat)
  | verifyStart (tag mode : Nat)
  | verifyStop (tag : Nat)
  | segmentRetry (tag segmentId edition : Nat)
  | segmentDiscard (tag segmentId edition : Nat)
  | setReportHoldoff (tag value : Nat)
  | setLateWindow (tag value : Nat)
  | setSealTimeout (tag value : Nat)
  | setStoreTimeout (tag value : Nat)
  | setFullRetry (tag value : Nat)
  | setSweepBurst (tag value : Nat)
  | setSweepRest (tag value : Nat)
  | setAutoSweep (tag value : Nat)
  | setVerifyRest (tag value : Nat)
  | setVerifyScope (tag value : Nat)
  | queryIdent (tag : Nat)
  | queryStatus (tag : Nat)
  | queryLane (tag lane : Nat)
  | queryRecent (tag position : Nat)
  | queryBanks (tag : Nat)
  | queryCatalog (tag segmentId : Nat)
  | queryDay (tag day switchWord : Nat)
  | queryHolds (tag : Nat)
  | queryParams (tag : Nat)
  | unknownControlRequest (tag code : Nat) (arguments : List Byte)
  | frameCheckFailed (port : PortId)
  | malformedFrame (port : PortId)
  | receiverLocked (port : PortId)
  | receiverLockLost (port : PortId)
  deriving DecidableEq, Repr

end Sys2Proof
end

