-- ==== Sys2Proof/Decode.lean ====
section
/-! DEFINITION. The commands that a word spells by the bits of the table. No row of the table gives bits, so no word spells
a command (log entry 34). The frames' own bytes are read in Machine/Receive.lean. -/

namespace Sys2Proof

/-- The command that `nbits` bits of value `w` spell: none, since no row of the table has bits. -/
def decodeTableWord (_nbits _w : Nat) : Option Instr := none

end Sys2Proof
end

