-- ==== Sys2Proof/Machine/State.lean ====
section
/-! DEFINITION. The state of the CA-420, block by block as its chapters name it, the reasons a step can stop, and the
state right after power-on reset. Large tables are held sparsely (`NMap`, keys strictly rising). -/

namespace Sys2Proof.Machine

/-- No rule of the spec stops the CA-420: a refused request, a stray frame or a dropped report is an effect like any
other. The type therefore has no constructor, and no command can fault. -/
inductive Fault : Type
  deriving DecidableEq, Repr

/-- Reasons a command has no meaning here. -/
inductive Refusal where
  /-- Raised by `exec` for a command that has no meaning yet; safe, since the machine stops. No arm raises it. -/
  | notModelled (mnemonic : String)
  deriving DecidableEq, Repr

/-- Device states (R172). -/
inductive DeviceState where
  | starting
  | running
  deriving DecidableEq, Repr

/-- Verify scope parameter (R174). -/
inductive VerifyScope where
  | unverified
  | all
  deriving DecidableEq, Repr

/-- The operating parameters of R174 but the late window, which the Day Clock holds. The seal timeout is kept in
milliseconds (00_scope, Conventions). -/
structure Params where
  reportHoldoff : Nat := 1
  sealTimeoutMs : Nat := 300000
  storeTimeout : Nat := 2000
  fullRetry : Nat := 1000
  sweepBurst : Nat := 8
  sweepRest : Nat := 50
  autoSweep : Bool := true
  verifyRest : Nat := 200
  verifyScope : VerifyScope := .unverified
  deriving DecidableEq, Repr

/-- A request in the control queue with its control tag (R169). -/
structure QueuedRequest where
  tag : Nat
  request : Request
  deriving DecidableEq, Repr

/-- One port: its link state, its receiver, its three frame counts (R182) and the run times that the 10 ms and 50 ms of
R183 are counted from. -/
structure Port where
  up : Bool := false
  locked : Bool := false
  good : Nat := 0
  checkFailed : Nat := 0
  malformed : Nat := 0
  lastGood : Nat := 0
  lastSent : Nat := 0
  deriving DecidableEq, Repr

/-- The Day Clock (R9). It is set exactly while the current day is present. -/
structure DayClock where
  currentDay : Option Nat := none
  lateWindow : Nat := 2
  pendingLate : Option Nat := none
  deriving DecidableEq, Repr

/-- Reject reasons, in the order of the tests (R2). -/
inductive RejectReason where
  | badField
  | switchMismatch
  | timeRange
  | serviceUnmapped
  deriving DecidableEq, Repr

/-- What validation gives a record (R1): a reject reason or none, a class and an assigned day. -/
structure Verdict where
  reason : Option RejectReason
  cls : Nat
  day : Nat
  deriving DecidableEq, Repr

/-- The trailer of a FILE CLOSE (R33). -/
structure Trailer where
  recordCount : Nat
  durationSum : Nat
  chargeSum : Nat
  deriving DecidableEq, Repr

/-- A file context (R16). -/
structure FileContext where
  switch : Nat
  fileNumber : Nat
  bank : Fin 4
  generation : Nat
  resend : Bool := false
  continued : Bool := false
  expectedBlock : Nat := 0
  blocksReceived : Nat := 0
  blockGaps : Nat := 0
  announced : Nat := 0
  stored : Nat := 0
  rejected : Nat := 0
  duplicates : Nat := 0
  lost : Nat := 0
  pending : Nat := 0
  durationSum : Nat := 0
  chargeSum : Nat := 0
  minDay : Option Nat := none
  maxDay : Option Nat := none
  lastSequence : Option Nat := none
  sequenceGaps : Nat := 0
  overrun : Bool := false
  fileDay : Option Nat := none
  trailer : Option Trailer := none
  deriving DecidableEq, Repr

/-- Lane states (R15). -/
inductive LaneState where
  | idle
  | opened
  | draining
  deriving DecidableEq, Repr

/-- The two buffers of a lane (R22). -/
inductive BufId where
  | a
  | b
  deriving DecidableEq, Repr

/-- Who owns a lane buffer (R22). -/
inductive Owner where
  | link
  | parser
  deriving DecidableEq, Repr

/-- A lane buffer: its owner and, while the parser owns it, the records of the block that filled it. -/
structure LaneBuffer where
  owner : Owner := .link
  records : List CallRecord := []
  deriving DecidableEq, Repr

/-- A lane (R15). -/
structure Lane where
  state : LaneState := .idle
  context : Option FileContext := none
  bufA : LaneBuffer := {}
  bufB : LaneBuffer := {}
  lastFilled : BufId := .b
  paused : Bool := false
  strayReport : Bool := false
  strayFrames : Nat := 0
  deriving DecidableEq, Repr

/-- File outcomes (R38). -/
inductive FileOutcome where
  | reconciled
  | unreconciled
  | aborted
  deriving DecidableEq, Repr

/-- A Recent Files entry (R38). -/
structure RecentEntry where
  context : FileContext
  outcome : FileOutcome
  deriving DecidableEq, Repr

/-- The Record Parser's state with what it has in hand (R28): the lane and buffer, the position of the record in hand,
and while STALLED that record's validation results. -/
inductive ParserPhase where
  | idle
  | parsing (lane : Fin 16) (buffer : BufId) (position : Nat)
  | stalled (lane : Fin 16) (buffer : BufId) (position : Nat) (record : CallRecord) (verdict : Verdict)
  deriving DecidableEq, Repr

/-- The Record Parser (R28). -/
structure Parser where
  phase : ParserPhase := .idle
  lastLane : Fin 16 := 15
  deriving DecidableEq, Repr

/-- Bank states (R43). -/
inductive BankState where
  | empty
  | loading
  | ready
  | active
  | draining
  deriving DecidableEq, Repr

/-- The four tables of a bank (R41). -/
inductive TableName where
  | serviceMap
  | classTable
  | switchTable
  | prefixDictionary
  deriving DecidableEq, Repr

/-- A switch table entry (R41). -/
structure SwitchEntry where
  enabled : Bool := false
  offset : Int := 0
  deriving DecidableEq, Repr

/-- A table bank (R40, R41). An unlisted entry of a table holds its default; a dictionary entry is its digit string, and
the empty string stands for an unused entry. -/
structure Bank where
  state : BankState := .empty
  generation : Option Nat := none
  boundFiles : Nat := 0
  references : Nat := 0
  lastTable : Option TableName := none
  writeIndex : Nat := 0
  serviceMap : NMap Nat := []
  classTable : NMap Nat := []
  switchTable : NMap SwitchEntry := []
  dictionary : NMap (List Nat) := []
  deriving DecidableEq, Repr

/-- Selection modes (R53). -/
inductive SelectMode where
  | nextFile
  | dayClose
  deriving DecidableEq, Repr

/-- A pending selection (R53). -/
structure Selection where
  bank : Fin 4
  mode : SelectMode
  deriving DecidableEq, Repr

/-- An entry of a filter way (R63). A way not listed in the filter is empty. -/
structure Way where
  switch : Nat
  sequence : Nat
  startTime : Nat
  day : Nat
  deriving DecidableEq, Repr

/-- The fields of a reference record that the encoding context keeps (R71). The zero record has every field 0. -/
structure Reference where
  kind : Nat := 0
  cause : Nat := 0
  switchId : Nat := 0
  service : Nat := 0
  trunk : Nat := 0
  sequence : Nat := 0
  startTime : Nat := 0
  flags : Nat := 0
  deriving DecidableEq, Repr

/-- The encoding context of an open segment (R71). -/
structure EncodingContext where
  reference : Reference := {}
  recordCount : Nat := 0
  bodyLength : Nat := 0
  checkA : Nat := 0
  checkB : Nat := 0
  firstStart : Option Nat := none
  lastStart : Option Nat := none
  durationSum : Nat := 0
  deriving DecidableEq, Repr

/-- The key shared by every record of a segment (R90). -/
structure SegmentKey where
  cls : Nat
  day : Nat
  bank : Fin 4
  generation : Nat
  deriving DecidableEq, Repr

/-- An entry of the Open Segment List (R90). The switch set is kept in ascending order. -/
structure OpenSegment where
  key : SegmentKey
  segmentId : Nat
  edition : Nat
  buffer : Fin 32
  late : Bool
  deadline : Nat
  switches : List Nat := []
  context : EncodingContext := {}
  deriving DecidableEq, Repr

/-- Segment buffer states (R91). -/
inductive BufferState where
  | free
  | filling
  | sealed
  | failed
  deriving DecidableEq, Repr

/-- A segment buffer: its state, the segment id it is held for, and its bytes: the body so far while FILLING, the whole
image while SEALED or FAILED (R87, R91). -/
structure SegmentBuffer where
  state : BufferState := .free
  segmentId : Nat := 0
  bytes : List Byte := []
  deriving DecidableEq, Repr

/-- Stall causes (R94). -/
inductive StallCause where
  | noId
  | noBuffer
  deriving DecidableEq, Repr

/-- Stall states of the encoder (R94). -/
inductive StallState where
  | runningFree
  | stalled (cause : StallCause)
  deriving DecidableEq, Repr

/-- A running FULL wait (R104). -/
structure FullWait where
  segmentId : Nat
  expiry : Nat
  deriving DecidableEq, Repr

/-- Lifecycle states of a catalog entry, in the order of R108. -/
inductive EntryState where
  | free
  | opened
  | writing
  | writeFailed
  | stored
  | verifying
  | deleting
  | deleteFailed
  deriving DecidableEq, Repr

/-- Reasons of a DAMAGED result, in the order of R108. -/
inductive DamageReason where
  | check
  | count
  | duration
  | header
  | decode
  | missing
  deriving DecidableEq, Repr

/-- Verify results (R108). -/
inductive VerifyResult where
  | none
  | fullOk
  | checkOnlyOk
  | damaged (reason : DamageReason)
  deriving DecidableEq, Repr

/-- The fields a catalog entry has from its opening (R108). -/
structure Opening where
  key : SegmentKey
  late : Bool
  deriving DecidableEq, Repr

/-- The fields a catalog entry has from its seal (R108). The switch set is kept in ascending order. -/
structure Figures where
  recordCount : Nat
  bodyLength : Nat
  checkValue : Nat
  durationSum : Nat
  firstStart : Nat
  lastStart : Nat
  switches : List Nat
  expiryDay : Nat
  writeAttempts : Nat := 0
  deleteAttempts : Nat := 0
  verify : VerifyResult := .none
  deriving DecidableEq, Repr

/-- A catalog entry (R108): which fields are present depends on its state. -/
structure CatalogEntry where
  edition : Nat := 0
  state : EntryState := .free
  opening : Option Opening := none
  figures : Option Figures := none
  deriving DecidableEq, Repr

/-- Store operations (R124). -/
inductive StoreOperation where
  | write
  | read
  | delete
  deriving DecidableEq, Repr

/-- What an OUTSTANDING tag holds (R124). The bytes received of a READ are those in the Verifier's read buffer. -/
structure Outstanding where
  operation : StoreOperation
  segmentId : Nat
  edition : Nat
  expiry : Nat
  overlong : Bool := false
  deriving DecidableEq, Repr

/-- The turn between the two background requesters (R125). -/
inductive Turn where
  | sweeper
  | verifier
  deriving DecidableEq, Repr

/-- Kinds of holds (R134). -/
inductive HoldKind where
  | legal
  | audit
  deriving DecidableEq, Repr

/-- What a hold covers (R134): `none` as switch is ANY, bit n of the class set is class n. -/
structure HoldSelector where
  switch : Option Nat
  firstDay : Nat
  lastDay : Nat
  classes : BitVec 8
  deriving DecidableEq, Repr

/-- A Hold Table entry in use (R134). -/
structure Hold where
  kind : HoldKind
  selector : HoldSelector
  deriving DecidableEq, Repr

/-- Phases of the Expiry Sweeper and the Verifier (R135, R163). -/
inductive WalkPhase where
  | idle
  | running
  | resting
  | extendedRest
  | stopped
  deriving DecidableEq, Repr

/-- The sweeper's pass counts (R135). -/
structure SweepCounts where
  examined : Nat := 0
  deleted : Nat := 0
  held : Nat := 0
  busy : Nat := 0
  notYetExpired : Nat := 0
  failed : Nat := 0
  deriving DecidableEq, Repr

/-- The Expiry Sweeper (R135). While `suspended`, its state is SUSPENDED and `phase` is its resume state (R149, R150);
otherwise `phase` is its state and there is no resume state. -/
structure Sweeper where
  phase : WalkPhase := .idle
  suspended : Bool := false
  cursor : Nat := 0
  anotherPass : Bool := false
  burstCount : Nat := 0
  restExpiry : Option Nat := none
  counts : SweepCounts := {}
  deriving DecidableEq, Repr

/-- The verifier's pass counts (R163). -/
structure VerifyCounts where
  examined : Nat := 0
  fullOk : Nat := 0
  checkOnly : Nat := 0
  damaged : Nat := 0
  busy : Nat := 0
  failed : Nat := 0
  deriving DecidableEq, Repr

/-- The Verifier (R163). -/
structure Verifier where
  phase : WalkPhase := .idle
  cursor : Nat := 0
  restExpiry : Option Nat := none
  counts : VerifyCounts := {}
  readBuffer : List Byte := []
  deriving DecidableEq, Repr

/-- The nine accumulators of a switch row, of the totals of a day and of the unplaced totals, in the order of R155. -/
inductive Accumulator where
  | stored
  | rejected
  | duplicates
  | lost
  | evictions
  | durationSum
  | chargeSum
  | filesClosed
  | filesUnreconciled
  deriving DecidableEq, Repr

/-- Values of the nine accumulators (R155). -/
structure Totals where
  stored : Nat := 0
  rejected : Nat := 0
  duplicates : Nat := 0
  lost : Nat := 0
  evictions : Nat := 0
  durationSum : Nat := 0
  chargeSum : Nat := 0
  filesClosed : Nat := 0
  filesUnreconciled : Nat := 0
  deriving DecidableEq, Repr

/-- A switch row (R155). -/
structure SwitchRow where
  totals : Totals := {}
  saturated : Bool := false
  deriving DecidableEq, Repr

/-- States of a day record (R154). -/
inductive DayState where
  | opened
  | closed
  deriving DecidableEq, Repr

/-- A day record (R154), its rows keyed by switch id. -/
structure DayRecord where
  day : Nat
  state : DayState
  amendments : Nat := 0
  totals : Totals := {}
  rows : NMap SwitchRow := []
  deriving DecidableEq, Repr

/-- The report kinds, in the order of their codes (chapter 12, section 12.7). -/
inductive ReportKind where
  | fileClosed
  | fileAborted
  | fileRefused
  | laneOverrun
  | strayBlock
  | dayClosed
  | dayAmended
  | dayFinal
  | bankActive
  | bankRetired
  | segWriteFailed
  | storeFull
  | segDeleteFailed
  | segDamaged
  | sweepDone
  | sweepSuspended
  | verifyDone
  | holdMissed
  | holdPlaced
  | holdNotPlaced
  | catalogFull
  | catalogSpace
  | strayAck
  | accumSaturated
  | reportsLost
  deriving DecidableEq, Repr

/-- A report entry (R179), its subject and values coded as section 12.7 writes them. -/
structure Report where
  kind : ReportKind
  stamp : Nat
  archiveDay : Option Nat
  subject : Option Nat
  value1 : Nat
  value2 : Nat
  value3 : Nat
  deriving DecidableEq, Repr

/-- The Report Queue (R180) with its holdoff timer (R181): `timer` is the run time of its expiry while it runs. -/
structure ReportQueue where
  entries : List Report := []
  lost : Nat := 0
  timer : Option Nat := none
  due : Bool := false
  deriving DecidableEq, Repr

/-- Response codes, in the order of their codes (section 12.6). -/
inductive ResponseCode where
  | done
  | refusedBusy
  | badRequest
  | badState
  | inUse
  | noRoom
  | notFound
  deriving DecidableEq, Repr

/-- What QUERY BANKS returns of one bank (R60). -/
structure BankView where
  state : BankState
  generation : Option Nat
  boundFiles : Nat
  references : Nat
  lastTable : Option TableName
  writeIndex : Nat
  deriving DecidableEq, Repr

/-- What QUERY STATUS returns (R175 and the rules it names). `holdoffTimer` and `holdoffDue` are its holdoff state (log
entry 38). -/
structure StatusView where
  device : DeviceState
  runTime : Nat
  clock : DayClock
  controlLength : Nat
  reportLength : Nat
  reportsLost : Nat
  holdoffTimer : Option Nat
  holdoffDue : Bool
  feed : Port
  store : Port
  openSegments : Nat
  buffersFree : Nat
  buffersFilling : Nat
  buffersSealed : Nat
  buffersFailed : Nat
  stall : StallState
  catalogFull : Bool
  storeFull : Bool
  writeQueueLength : Nat
  writesOutstanding : Nat
  fullWaits : Nat
  freeIds : Nat
  tags : List (Option Outstanding)
  strayFrames : Nat
  sweeper : Sweeper
  autoSweep : Bool
  verifierPhase : WalkPhase
  verifierCursor : Nat
  verifierCounts : VerifyCounts
  verifyScope : VerifyScope
  verifyRest : Nat
  deriving DecidableEq, Repr

/-- What QUERY DAY returns (R162). The row is present when a switch was named; it is `some none` when that switch has no
row on the day. -/
structure DayView where
  state : DayState
  amendments : Nat
  totals : Totals
  rowCount : Nat
  exceptions : Nat
  row : Option (Option SwitchRow)
  unplaced : Totals
  deriving DecidableEq, Repr

/-- The results of a response (section 12.6). -/
inductive Results where
  | none
  | position (entry : Nat)
  | index (index : Nat)
  | bankReady (bank generation : Nat)
  | holdId (holdId : Nat)
  | valueTaken (value : Nat)
  | removed (count : Nat)
  | ident (device : DeviceState) (runTime : Nat)
  | status (view : StatusView)
  | lane (lane : Lane)
  | recent (entry : RecentEntry)
  | banks (active : Option (Fin 4)) (selection : Option Selection) (loadCounter : Nat) (banks : List BankView)
  | catalog (segmentId : Nat) (entry : CatalogEntry) (counts : List Nat) (freeIds : Nat)
  | day (view : DayView)
  | holds (inUse : List (Nat × Hold)) (waiting : List HoldSelector)
  | params (params : Params) (lateWindow : Nat) (pendingLate : Option Nat)
  deriving DecidableEq, Repr

/-- Frames sent on the Feed link (section 12.1). A response carries the request code as received. -/
inductive FeedFrame where
  | linkKeep
  | lanePause (lane : Fin 16)
  | laneResume (lane : Fin 16)
  | response (tag requestCode : Nat) (code : ResponseCode) (results : Results)
  | bundle (entries : List Report)
  deriving DecidableEq, Repr

/-- Frames sent on the Store link (R122). -/
inductive StoreFrame where
  | linkKeep
  | segmentWrite (tag : Fin 8) (segmentId edition part : Nat) (last : Bool) (bytes : List Byte)
  | segmentRead (tag : Fin 8) (segmentId edition : Nat)
  | segmentDelete (tag : Fin 8) (segmentId edition : Nat)
  deriving DecidableEq, Repr

/-- The state of the CA-420. `pending`, `feedTx` and `storeTx` are the model's own: the commands that wait, and the
frames sent so far on each link, oldest first. -/
structure State where
  pending : List Instr := []
  feedTx : List FeedFrame := []
  storeTx : List StoreFrame := []
  device : DeviceState := .starting
  runTime : Nat := 0
  params : Params := {}
  control : List QueuedRequest := []
  reports : ReportQueue := {}
  feed : Port := {}
  store : Port := {}
  clock : DayClock := {}
  lanes : Vector Lane 16 := Vector.replicate 16 {}
  recent : List RecentEntry := []
  parser : Parser := {}
  banks : Vector Bank 4 := Vector.replicate 4 {}
  selection : Option Selection := none
  loadCounter : Nat := 0
  filter : NMap Way := []
  openSegments : List OpenSegment := []
  buffers : Vector SegmentBuffer 32 := Vector.replicate 32 {}
  stall : StallState := .runningFree
  catalogFull : Bool := false
  storeFull : Bool := false
  writeQueue : List Nat := []
  fullWaits : List FullWait := []
  catalog : NMap CatalogEntry := []
  stateCounts : Vector Nat 8 := #v[262144, 0, 0, 0, 0, 0, 0, 0]
  freeIds : List Nat := []
  tags : Vector (Option Outstanding) 8 := Vector.replicate 8 none
  lastTag : Fin 8 := 7
  turn : Turn := .sweeper
  strayFrames : Nat := 0
  holds : Vector (Option Hold) 64 := Vector.replicate 64 none
  pendingHolds : List HoldSelector := []
  sweeper : Sweeper := {}
  verifier : Verifier := {}
  days : List DayRecord := []
  unplaced : Totals := {}
  deriving DecidableEq, Repr

/-- The state after power-on reset: every piece of state at the value its chapter gives (R9, R15, R28, R38, R44, R63,
R90, R91, R94, R95, R100, R104, R109, R115, R124, R134, R135, R148, R154, R163, R169, R172, R174, R178, R180 to R183). -/
def State.reset : State := {}

end Sys2Proof.Machine
end

