-- ==== Sys2Proof/Machine/Maps.lean ====
section
/-! DEFINITION. Sparse tables: reading, writing and removing one entry, and the canonical form (keys strictly rising, and
for a table with a default value no entry equal to it). -/

namespace Sys2Proof.Machine

/-- The value listed at key `k`, if any. -/
def NMap.find? {α : Type} : NMap α → Nat → Option α
  | [], _ => none
  | (j, v) :: rest, k => if k < j then none else if k = j then some v else NMap.find? rest k

/-- `m` with `v` listed at key `k`. -/
def NMap.insert {α : Type} : NMap α → Nat → α → NMap α
  | [], k, v => [(k, v)]
  | (j, w) :: rest, k, v =>
    if k < j then (k, v) :: (j, w) :: rest
    else if k = j then (k, v) :: rest
    else (j, w) :: NMap.insert rest k v

/-- `m` with nothing listed at key `k`. -/
def NMap.erase {α : Type} : NMap α → Nat → NMap α
  | [], _ => []
  | (j, w) :: rest, k =>
    if k < j then (j, w) :: rest else if k = j then rest else (j, w) :: NMap.erase rest k

/-- What a table whose unlisted entries hold `d` reads as at key `k`. -/
def NMap.read {α : Type} (d : α) (m : NMap α) (k : Nat) : α := (NMap.find? m k).getD d

/-- A table whose unlisted entries hold `d`, with entry `k` set to `v`. -/
def NMap.write {α : Type} [DecidableEq α] (d : α) (m : NMap α) (k : Nat) (v : α) : NMap α :=
  if v = d then NMap.erase m k else NMap.insert m k v

/-- Keys strictly rising, all of them at least `low`. -/
def NMap.risingFrom {α : Type} : Nat → NMap α → Bool
  | _, [] => true
  | low, (j, _) :: rest => decide (low ≤ j) && NMap.risingFrom (j + 1) rest

/-- Keys strictly rising. -/
def NMap.rising {α : Type} (m : NMap α) : Bool := NMap.risingFrom 0 m

/-- Canonical form of a table whose unlisted entries hold `d`: keys strictly rising, no entry equal to `d`. -/
def NMap.canonical {α : Type} [DecidableEq α] (d : α) (m : NMap α) : Bool :=
  NMap.rising m && m.all (fun p => !decide (p.2 = d))

/-- Every key below `n`. -/
def NMap.keysBelow {α : Type} (n : Nat) (m : NMap α) : Bool := m.all (fun p => decide (p.1 < n))

/-- `x` as a member of a set kept as a list in ascending order. -/
def insertMember (x : Nat) : List Nat → List Nat
  | [] => [x]
  | y :: rest => if x < y then x :: y :: rest else if x = y then y :: rest else y :: insertMember x rest

end Sys2Proof.Machine
end

