-- ==== Sys2Proof/Machine/Ops.lean ====
section
/-! DEFINITION. The named operations over State that every chapter uses: reading and replacing one lane, bank, buffer,
tag or hold; the Time Base's arithmetic (R178); sending a frame on a link (R173); and raising a report (R179, R180). -/

namespace Sys2Proof.Machine

/-! ### Fixed banks of things -/

/-- Lane `l`. -/
def State.lane (s : State) (l : Fin 16) : Lane := s.lanes[l]

/-- `s` with lane `l` replaced. -/
def State.setLane (s : State) (l : Fin 16) (x : Lane) : State := { s with lanes := s.lanes.set l x }

/-- Bank `b`. -/
def State.bank (s : State) (b : Fin 4) : Bank := s.banks[b]

/-- `s` with bank `b` replaced. -/
def State.setBank (s : State) (b : Fin 4) (x : Bank) : State := { s with banks := s.banks.set b x }

/-- Segment buffer `i`. -/
def State.buffer (s : State) (i : Fin 32) : SegmentBuffer := s.buffers[i]

/-- `s` with segment buffer `i` replaced. -/
def State.setBuffer (s : State) (i : Fin 32) (x : SegmentBuffer) : State := { s with buffers := s.buffers.set i x }

/-- Store link tag `t`; `none` is FREE. -/
def State.tag (s : State) (t : Fin 8) : Option Outstanding := s.tags[t]

/-- `s` with store link tag `t` replaced. -/
def State.setTag (s : State) (t : Fin 8) (x : Option Outstanding) : State := { s with tags := s.tags.set t x }

/-- Hold Table entry `h`; `none` is free. -/
def State.hold (s : State) (h : Fin 64) : Option Hold := s.holds[h]

/-- `s` with Hold Table entry `h` replaced. -/
def State.setHold (s : State) (h : Fin 64) (x : Option Hold) : State := { s with holds := s.holds.set h x }

/-- The port of a link. -/
def State.port (s : State) : PortId → Port
  | .feed => s.feed
  | .store => s.store

/-- `s` with the port of a link replaced. -/
def State.setPort (s : State) (p : PortId) (x : Port) : State :=
  match p with
  | .feed => { s with feed := x }
  | .store => { s with store := x }

/-! ### Time (R178) -/

/-- The run time `ms` milliseconds ahead, across a wrap (R178). -/
def State.after (s : State) (ms : Nat) : Nat := (s.runTime + ms) % Config.timeModulus

/-- Milliseconds since run time `t`, across a wrap (R178). -/
def State.since (s : State) (t : Nat) : Nat := (s.runTime + Config.timeModulus - t) % Config.timeModulus

/-- The run time has reached the expiry `t` (R178; log entry 2): every interval is far below half the wrap, so a
difference below half the wrap means that `t` is not ahead. -/
def State.reached (s : State) (t : Nat) : Bool := decide (s.since t < 2147483648)

/-- One millisecond passes: the run time goes up by one and wraps to 0 (R178). -/
def State.tick (s : State) : State := { s with runTime := (s.runTime + 1) % Config.timeModulus }

/-! ### Sending frames (R173, R122) -/

/-- A frame due on the Feed link is sent while the link is UP and discarded while it is DOWN (R173, R26). -/
def sendFeed (f : FeedFrame) (s : State) : State :=
  if s.feed.up then { s with feedTx := s.feedTx ++ [f], feed := { s.feed with lastSent := s.runTime } } else s

/-- Frames are sent on the Store link only while it is UP (R122). -/
def sendStore (fs : List StoreFrame) (s : State) : State :=
  if s.store.up then { s with storeTx := s.storeTx ++ fs, store := { s.store with lastSent := s.runTime } } else s

/-- The response to a control request: sent while the Feed link is UP, else discarded (R173). -/
def respond (tag requestCode : Nat) (code : ResponseCode) (results : Results) (s : State) : State :=
  sendFeed (.response tag requestCode code results) s

/-! ### Raising reports (R179, R180) -/

/-- An absent, none or ANY value of a report (section 12.7). -/
def absentValue : Nat := 0xFFFFFFFF

/-- A value that may be absent, as a report writes it (section 12.7). -/
def optionValue (v : Option Nat) : Nat := v.getD absentValue

/-- An entry enters the Report Queue at the tail. It starts the holdoff timer when the holdoff is 2..255, the timer is
stopped and due is clear (R181). -/
def enterReport (r : Report) (s : State) : State :=
  let q := s.reports
  let starts := decide (2 ≤ s.params.reportHoldoff) && q.timer.isNone && !q.due
  { s with reports := { q with
      entries := q.entries ++ [r]
      timer := if starts then some (s.after s.params.reportHoldoff) else q.timer } }

/-- A report with a given archive day is raised: it enters the queue, or is dropped and counted when the queue holds 64
entries (R180). -/
def raiseOn (archiveDay : Option Nat) (kind : ReportKind) (subject : Option Nat) (v1 v2 v3 : Nat) (s : State) : State :=
  if s.reports.entries.length < Config.reportQueueLimit then
    enterReport { kind, stamp := s.runTime, archiveDay, subject, value1 := v1, value2 := v2, value3 := v3 } s
  else { s with reports := { s.reports with lost := satAdd max32 s.reports.lost 1 } }

/-- A report is raised with the current day as its archive day (R179). -/
def raise (kind : ReportKind) (subject : Option Nat) (v1 v2 v3 : Nat) (s : State) : State :=
  raiseOn s.clock.currentDay kind subject v1 v2 v3 s

end Sys2Proof.Machine
end

