-- ==== Sys2Proof/Machine/Reports.lean ====
section
/-! DEFINITION. The Report Queue's bundles and holdoff timer (R180, R181). -/

namespace Sys2Proof.Machine

/-- The urgent kinds (R179). -/
def ReportKind.urgent : ReportKind → Bool
  | .fileRefused | .laneOverrun | .segWriteFailed | .storeFull | .segDamaged | .sweepSuspended | .holdMissed
  | .holdNotPlaced | .catalogFull | .reportsLost => true
  | .fileClosed | .fileAborted | .strayBlock | .dayClosed | .dayAmended | .dayFinal | .bankActive | .bankRetired
  | .segDeleteFailed | .sweepDone | .verifyDone | .holdPlaced | .catalogSpace | .strayAck | .accumSaturated => false

/-- One of the send conditions of R181 holds. -/
def sendCondition (s : State) : Bool :=
  s.reports.entries.any (fun r => r.kind.urgent)
  || decide (Config.reportThreshold ≤ s.reports.entries.length)
  || decide (s.params.reportHoldoff = 1)
  || (decide (2 ≤ s.params.reportHoldoff) && s.reports.due)

/-- A bundle is due: the Feed link is UP, the queue is not empty and a send condition holds (R181). -/
def bundleDue (s : State) : Bool := s.feed.up && !s.reports.entries.isEmpty && sendCondition s

/-- When the queue is empty, due is cleared and the timer stopped (R181). -/
def quietIfEmpty (s : State) : State :=
  if s.reports.entries.isEmpty then { s with reports := { s.reports with timer := none, due := false } } else s

/-- A REPORTS_LOST entry enters when the lost count is above 0, and the count becomes 0 (R180). -/
def enterLost (s : State) : State :=
  if 0 < s.reports.lost then
    enterReport { kind := .reportsLost, stamp := s.runTime, archiveDay := s.clock.currentDay, subject := none,
                  value1 := s.reports.lost, value2 := 0, value3 := 0 }
      { s with reports := { s.reports with lost := 0 } }
  else s

/-- One REPORT BUNDLE: up to 8 of the oldest entries leave the queue (R181), then R180 places any REPORTS_LOST entry. -/
def sendBundle (s : State) : State :=
  let sent := sendFeed (.bundle (s.reports.entries.take Config.bundleLimit)) s
  quietIfEmpty (enterLost { sent with reports := { sent.reports with entries := sent.reports.entries.drop Config.bundleLimit } })

/-- Bundles follow one another while one is due. -/
def sendBundles : Nat → State → State
  | 0, s => s
  | n + 1, s => if bundleDue s then sendBundles n (sendBundle s) else s

/-- The bundles due at an event (R181). Each bundle removes an entry and one REPORTS_LOST entry at most enters, so the
entries queued and one more bound the bundles. -/
def flushReports (s : State) : State := sendBundles (s.reports.entries.length + 2) s

/-- The holdoff timer's expiry: the timer stops and due is set (R181). -/
def holdoffExpires (s : State) : State := { s with reports := { s.reports with timer := none, due := true } }

/-- A SET of the report holdoff acts on the timer: it is stopped and due cleared; then it starts if the queue is not empty
and the new value is 2..255 (R181). -/
def restartHoldoff (value : Nat) (s : State) : State :=
  let starts := !s.reports.entries.isEmpty && decide (2 ≤ value)
  { s with
    params := { s.params with reportHoldoff := value }
    reports := { s.reports with due := false, timer := if starts then some (s.after value) else none } }

end Sys2Proof.Machine
end

