-- ==== Sys2Proof/Machine/Records.lean ====
section
/-! DEFINITION. Chapter 1: the day window (R10), the archive day (R5) and the validation of a record (R2 to R8). -/

namespace Sys2Proof.Machine

/-- The day window: first and last day, while the Day Clock is set (R10). Subtraction stops at 0. -/
def DayClock.window (c : DayClock) : Option (Nat × Nat) := c.currentDay.map (fun d => (d - c.lateWindow, d + 1))

/-- The day lies inside the day window (R10). While the clock is unset there is no window. -/
def DayClock.inWindow (c : DayClock) (day : Nat) : Bool :=
  match c.window with
  | none => false
  | some (first, last) => decide (first ≤ day) && decide (day ≤ last)

/-- Adopting a pending late window (R11, R13). -/
def DayClock.adopt (c : DayClock) : DayClock := { c with lateWindow := c.pendingLate.getD c.lateWindow, pendingLate := none }

/-- The Day Clock set to day `d`, adopting a pending late window (R11, R13). -/
def DayClock.setDay (c : DayClock) (d : Nat) : DayClock := { c.adopt with currentDay := some d }

/-- The digits of a number inside its digit count (R3). -/
def countedDigits (n : Number) : List Nat := n.digits.take n.count

/-- A number that fails the BAD_FIELD test (R3). -/
def badNumber (n : Number) : Bool := decide (Config.digitPositions < n.count) || (countedDigits n).any (fun d => decide (9 < d))

/-- The BAD_FIELD test (R3). -/
def badField (r : CallRecord) : Bool :=
  decide (r.kind = 0) || decide (15 < r.kind) || badNumber r.calling || badNumber r.called || decide (Config.durationLimit < r.duration)

/-- The archive day of a start time under an offset in minutes, when it is computable (R5). -/
def archiveDay (startTime : Nat) (offset : Int) : Option Nat :=
  let adjusted : Int := (startTime : Int) + 60 * offset
  if adjusted < 0 then none
  else
    let day := adjusted.toNat / Config.secondsPerDay
    if Config.lastDay < day then none else some day

/-- The class that a bank's service map gives a service code; 0 is unmapped (R41). -/
def Bank.classOf (b : Bank) (service : Nat) : Nat := NMap.read 0 b.serviceMap service

/-- The retention that a bank's class table gives a class (R41). -/
def Bank.retentionOf (b : Bank) (cls : Nat) : Nat := NMap.read 1 b.classTable cls

/-- A bank's switch table entry (R41). -/
def Bank.switchOf (b : Bank) (switch : Nat) : SwitchEntry := NMap.read {} b.switchTable switch

/-- A dictionary entry's digits; the empty string is an unused entry (R41). -/
def Bank.stringOf (b : Bank) (index : Nat) : List Nat := NMap.read [] b.dictionary index

/-- A computable archive day that lies inside the day window. -/
def dayInWindow (c : DayClock) (day : Option Nat) : Bool :=
  match day with
  | none => false
  | some d => c.inWindow d

/-- The reason of the first of the four tests that a record fails (R2 to R7). -/
def rejectReason (c : DayClock) (bank : Bank) (fileSwitch : Nat) (r : CallRecord) : Option RejectReason :=
  let day := archiveDay r.startTime (bank.switchOf fileSwitch).offset
  if badField r then some .badField
  else if r.switchId ≠ fileSwitch then some .switchMismatch
  else if !dayInWindow c day then some .timeRange
  else if bank.classOf r.service = 0 then some .serviceUnmapped
  else none

/-- The assigned day: the archive day when it is computable and inside the window, else the current day (R8). A valid
record passed the TIME_RANGE test, so its archive day is inside. -/
def assignedDay (c : DayClock) (bank : Bank) (fileSwitch : Nat) (r : CallRecord) : Nat :=
  let day := archiveDay r.startTime (bank.switchOf fileSwitch).offset
  if dayInWindow c day then day.getD 0 else c.currentDay.getD 0

/-- Validation (R2): the reject reason, the class and the assigned day of a record. -/
def validate (c : DayClock) (bank : Bank) (fileSwitch : Nat) (r : CallRecord) : Verdict :=
  let reason := rejectReason c bank fileSwitch r
  { reason
    cls := match reason with
      | none => bank.classOf r.service
      | some _ => 0
    day := assignedDay c bank fileSwitch r }

end Sys2Proof.Machine
end

