-- ==== Sys2Proof/Machine/Filter.lean ====
section
/-! DEFINITION. Chapter 4: the Duplicate Filter. Way w of bucket b is listed at key 8 b + w. -/

namespace Sys2Proof.Machine

/-- The bucket of a record's key (R62). -/
def bucketOf (r : CallRecord) : Nat :=
  (r.sequence + 3 * r.startTime + 40503 * r.switchId) % Config.filterBuckets

/-- Way `w` of a bucket; `none` is empty (R63). -/
def wayAt (filter : NMap Way) (bucket w : Nat) : Option Way := NMap.find? filter (bucket * Config.filterWays + w)

/-- A way's entry holds the record's key (R61). -/
def Way.holdsKey (w : Way) (r : CallRecord) : Bool :=
  decide (w.switch = r.switchId) && decide (w.sequence = r.sequence) && decide (w.startTime = r.startTime)

/-- A way is live: it holds an entry whose day lies inside the day window (R64). -/
def liveWay (c : DayClock) (w : Option Way) : Bool :=
  match w with
  | none => false
  | some e => c.inWindow e.day

/-- A look-up hits when a live way of the record's bucket holds the record's key (R65). -/
def filterHit (c : DayClock) (filter : NMap Way) (r : CallRecord) : Bool :=
  (List.range Config.filterWays).any fun w =>
    match wayAt filter (bucketOf r) w with
    | none => false
    | some e => c.inWindow e.day && e.holdsKey r

/-- The day of the entry in a way, for the choice of the lowest day (R67). -/
def wayDay (filter : NMap Way) (bucket w : Nat) : Nat := ((wayAt filter bucket w).map Way.day).getD 0

/-- The lowest-numbered way of the lowest day among ways `w` and the best so far (R67 step 2). -/
def oldestWay (filter : NMap Way) (bucket : Nat) : Nat :=
  (List.range Config.filterWays).foldl
    (fun best w => if wayDay filter bucket w < wayDay filter bucket best then w else best) 0

/-- The way an insertion writes, and whether it evicts a live entry (R67, R68). -/
def chooseWay (c : DayClock) (filter : NMap Way) (bucket : Nat) : Nat × Bool :=
  match (List.range Config.filterWays).find? (fun w => !liveWay c (wayAt filter bucket w)) with
  | some w => (w, false)
  | none => (oldestWay filter bucket, true)

/-- The filter with a record's key and day inserted (R67). -/
def filterWith (c : DayClock) (filter : NMap Way) (r : CallRecord) (day : Nat) : NMap Way :=
  NMap.insert filter (bucketOf r * Config.filterWays + (chooseWay c filter (bucketOf r)).1)
    { switch := r.switchId, sequence := r.sequence, startTime := r.startTime, day }

/-- The insertion of a record accepted by the encoder: none when its day lies outside the day window (R67). -/
def filterInsert (r : CallRecord) (day : Nat) (s : State) : State :=
  if s.clock.inWindow day then { s with filter := filterWith s.clock s.filter r day } else s

/-- The insertion writes over a live way (R68). -/
def insertionEvicts (r : CallRecord) (day : Nat) (s : State) : Bool :=
  s.clock.inWindow day && (chooseWay s.clock s.filter (bucketOf r)).2

end Sys2Proof.Machine
end

