-- ==== Sys2Proof/Machine/Catalog.lean ====
section
/-! DEFINITION. Chapter 7: catalog entries and their state counts, the free-id list, reference counts, the stall state that
follows the resources (R94), and the freeing of an entry. -/

namespace Sys2Proof.Machine

/-- The code of an entry state, in the order of R108. -/
def EntryState.code : EntryState → Fin 8
  | .free => 0
  | .opened => 1
  | .writing => 2
  | .writeFailed => 3
  | .stored => 4
  | .verifying => 5
  | .deleting => 6
  | .deleteFailed => 7

/-- The catalog entry of a segment id. An unlisted entry is FREE with edition 0 (R109). -/
def State.entry (s : State) (id : Nat) : CatalogEntry := NMap.read {} s.catalog id

/-- The state counts after an entry goes from one state to another (R108, R110). -/
def moveCount (counts : Vector Nat 8) (old new : EntryState) : Vector Nat 8 :=
  let lowered := counts.set old.code (counts[old.code] - 1)
  lowered.set new.code (lowered[new.code] + 1)

/-- `s` with a catalog entry replaced and the state counts adjusted at the same event (R110). -/
def State.setEntry (s : State) (id : Nat) (e : CatalogEntry) : State :=
  { s with
    catalog := NMap.write {} s.catalog id e
    stateCounts := moveCount s.stateCounts (s.entry id).state e.state }

/-- The entry in another state, its fields kept. -/
def State.moveEntry (s : State) (id : Nat) (state : EntryState) : State :=
  s.setEntry id { s.entry id with state }

/-- The entry with its figures changed. -/
def CatalogEntry.mapFigures (e : CatalogEntry) (f : Figures → Figures) : CatalogEntry := { e with figures := e.figures.map f }

/-- A bank holds generation `g`: its state is READY, ACTIVE or DRAINING and its generation is `g` (R40). -/
def Bank.holdsGeneration (b : Bank) (g : Nat) : Bool :=
  match b.state with
  | .ready | .active | .draining => decide (b.generation = some g)
  | .empty | .loading => false

/-- The lowest-numbered FREE segment buffer (R91). -/
def State.freeBuffer (s : State) : Option (Fin 32) := (List.finRange 32).find? (fun i => decide ((s.buffer i).state = .free))

/-- The number of segment buffers in a state (R91). -/
def State.bufferCount (s : State) (state : BufferState) : Nat :=
  (List.finRange 32).countP (fun i => decide ((s.buffer i).state = state))

/-- The buffer that a segment id holds (R91). -/
def State.bufferOf (s : State) (id : Nat) : Option (Fin 32) :=
  (List.finRange 32).find? (fun i => decide ((s.buffer i).state ≠ .free) && decide ((s.buffer i).segmentId = id))

/-- The segment's buffer changed, where it holds one (R91). -/
def State.updateBufferOf (s : State) (id : Nat) (f : SegmentBuffer → SegmentBuffer) : State :=
  match s.bufferOf id with
  | none => s
  | some i => s.setBuffer i (f (s.buffer i))

/-- What the resources say of a stall (R94): over when an id is free and a buffer is FREE, else its cause. -/
def State.stallNow (s : State) : StallState :=
  if s.freeIds.isEmpty then .stalled .noId
  else if s.freeBuffer.isNone then .stalled .noBuffer
  else .runningFree

/-- A stall is judged anew when an id joins the free-id list or a buffer becomes FREE (R94). -/
def refreshStall (s : State) : State :=
  match s.stall with
  | .runningFree => s
  | .stalled _ => { s with stall := s.stallNow }

/-- The code of a stall state in a report, in the order of R94. -/
def StallState.code : StallState → Nat
  | .runningFree => 0
  | .stalled _ => 1

/-- The catalog-full flag is cleared by an id that joins the free-id list, with a CATALOG_SPACE report (R95). -/
def clearCatalogFull (id : Nat) (s : State) : State :=
  if s.catalogFull then
    raise .catalogSpace (some id) s.freeIds.length (s.bufferCount .free) s.stall.code { s with catalogFull := false }
  else s

/-- A bank's reference count goes up by one at an opening (R59, R117). -/
def addReference (b : Fin 4) (s : State) : State :=
  s.setBank b { s.bank b with references := (s.bank b).references + 1 }

/-- A bank's reference count goes down by one when the bank holds the freed entry's generation (R113, R117). -/
def dropReference (key : SegmentKey) (s : State) : State :=
  if (s.bank key.bank).holdsGeneration key.generation then
    s.setBank key.bank { s.bank key.bank with references := (s.bank key.bank).references - 1 }
  else s

/-- The reference count of a freed entry's bank (R113 step 4). -/
def dropEntryReference (e : CatalogEntry) (s : State) : State :=
  match e.opening with
  | none => s
  | some o => dropReference o.key s

/-- The freeing of an entry (R113): it becomes FREE with the next edition, its id joins the tail of the free-id list, and
its bank's reference count follows. The freed id may end a stall (R94) and clears the catalog-full flag (R95). -/
def freeEntry (id : Nat) (s : State) : State :=
  let e := s.entry id
  let freed := s.setEntry id { edition := (e.edition + 1) % 256 }
  clearCatalogFull id (refreshStall (dropEntryReference e { freed with freeIds := freed.freeIds ++ [id] }))

/-- Segment ids of the catalog entries in a state. -/
def idsIn (catalog : NMap CatalogEntry) (state : EntryState) : List Nat :=
  (catalog.filter (fun p => decide (p.2.state = state))).map Prod.fst

/-- The number of catalog entries in a state, counted from the entries (R108). An unlisted entry is FREE. -/
def countIn (catalog : NMap CatalogEntry) (state : EntryState) : Nat :=
  match state with
  | .free => Config.catalogEntries - (catalog.filter (fun p => decide (p.2.state ≠ .free))).length
  | st => (catalog.filter (fun p => decide (p.2.state = st))).length

/-- The FREE ids in ascending order (R119). -/
def freeIdList (catalog : NMap CatalogEntry) : List Nat :=
  (List.range Config.catalogEntries).filter (fun id => decide ((NMap.read {} catalog id).state = .free))

/-- The entry is not FREE and carries the bank and the generation (R59). -/
def CatalogEntry.carries (e : CatalogEntry) (b : Fin 4) (g : Nat) : Bool :=
  match e.opening with
  | none => false
  | some o => decide (e.state ≠ .free) && decide (o.key.bank = b) && decide (o.key.generation = g)

/-- The number of entries not FREE that carry a bank and a generation (R119). -/
def carriers (catalog : NMap CatalogEntry) (b : Fin 4) (g : Nat) : Nat := catalog.countP (fun p => p.2.carries b g)

/-- The generation an entry not FREE carries, or 0. -/
def CatalogEntry.carriedGeneration (e : CatalogEntry) : Nat :=
  match e.opening with
  | none => 0
  | some o => if e.state = .free then 0 else o.key.generation

/-- The largest generation that an entry not FREE carries, or 0 when every entry is FREE (R119). -/
def largestGeneration (catalog : NMap CatalogEntry) : Nat := catalog.foldl (fun m p => max m p.2.carriedGeneration) 0

end Sys2Proof.Machine
end

