-- ==== Sys2Proof/Machine/Bytes.lean ====
section
/-! DEFINITION. Byte order (00_scope, Conventions: most significant byte first) and the check value of R85. -/

namespace Sys2Proof.Machine

/-- `v` in `n` bytes, most significant byte first. -/
def toBytes : Nat → Nat → List Byte
  | 0, _ => []
  | n + 1, v => toBytes n (v / 256) ++ [BitVec.ofNat 8 v]

/-- The number that bytes, most significant first, spell. -/
def ofBytes (bs : List Byte) : Nat := bs.foldl (fun n b => n * 256 + b.toNat) 0

/-- The number that `size` bytes at an offset spell. -/
def fieldAt (bs : List Byte) (offset size : Nat) : Nat := ofBytes ((bs.drop offset).take size)

/-- A signed value in two's complement of 32 bits (R153). -/
def toWord32 (v : Int) : Nat := (v % 4294967296).toNat

/-- A signed value in two's complement of 16 bits (R184). -/
def toWord16 (v : Int) : Nat := (v % 65536).toNat

/-- The signed value that 16 bits in two's complement stand for (R184). -/
def ofWord16 (w : Nat) : Int := if w < 32768 then (w : Int) else (w : Int) - 65536

/-- `v` held inside `low..high` (R174, R153). -/
def clampInt (low high v : Int) : Int := max low (min high v)

/-- The terms A and B of the check value after one more byte (R85). -/
def checkByte (ab : Nat × Nat) (b : Byte) : Nat × Nat :=
  let a := (ab.1 + b.toNat) % 65535
  (a, (ab.2 + a) % 65535)

/-- The terms A and B after more bytes, in order (R85). -/
def checkTerms (ab : Nat × Nat) (bs : List Byte) : Nat × Nat := bs.foldl checkByte ab

/-- The check value formed from the terms (R85). -/
def checkOf (ab : Nat × Nat) : Nat := ab.2 * 65536 + ab.1

/-- The check value of a run of bytes (R85). -/
def checkValue (bs : List Byte) : Nat := checkOf (checkTerms (0, 0) bs)

end Sys2Proof.Machine
end

