-- ==== Sys2Proof/Machine/Encoding.lean ====
section
/-! DEFINITION. Chapter 5: the encoding of a record against its reference (R72 to R82), the segment header (R86), and the
decoding of a body (R88, R89). -/

namespace Sys2Proof.Machine

/-! ### Varints and digits -/

/-- Zigzag (R76). -/
def zigzag (v : Int) : Nat := if 0 ≤ v then (2 * v).toNat else (-2 * v - 1).toNat

/-- Zigzag undone (R76). -/
def unzigzag (r : Nat) : Int := if r % 2 = 0 then (r / 2 : Nat) else -(((r + 1) / 2 : Nat) : Int)

/-- A varint in at most `fuel` further bytes (R77). -/
def varintIn : Nat → Nat → List Byte
  | 0, v => [BitVec.ofNat 8 (v % 128)]
  | fuel + 1, v => if v < 128 then [BitVec.ofNat 8 v] else BitVec.ofNat 8 (v % 128 + 128) :: varintIn fuel (v / 128)

/-- The varint of a value (R77). Every value the encoder writes takes at most five bytes. -/
def varint (v : Nat) : List Byte := varintIn 9 v

/-- Digits packed two to a byte, the first of a pair in the high half, a missing second one as 15 (R78). -/
def packDigits : List Nat → List Byte
  | [] => []
  | [d] => [BitVec.ofNat 8 (d * 16 + 15)]
  | d :: e :: rest => BitVec.ofNat 8 (d * 16 + e) :: packDigits rest

/-- The digits that a number is written with (R80, R81): those inside its count, and all 20 positions when a rejected
record's count is above 20. -/
def writtenDigits (n : Number) : List Nat := n.digits.take (min n.count Config.digitPositions)

/-- A used dictionary entry equals the first digits of a number (R79). -/
def entryMatches (entry digits : List Nat) : Bool := !entry.isEmpty && entry.isPrefixOf digits

/-- The longer of the best match so far and one more entry, if that one matches (R79). -/
def betterMatch (digits : List Nat) (best : Option (Nat × List Nat)) (entry : Nat × List Nat) : Option (Nat × List Nat) :=
  if entryMatches entry.2 digits && decide ((best.map (fun b => b.2.length)).getD 0 < entry.2.length) then some entry
  else best

/-- The dictionary match of a number's digits: the index and string of the longest entry, or none (R79). -/
def dictionaryMatch (dictionary : NMap (List Nat)) (digits : List Nat) : Option (Nat × List Nat) :=
  dictionary.foldl (betterMatch digits) none

/-- A number in the form its match calls for (R80). -/
def encodeDigits (dictionary : NMap (List Nat)) (digits : List Nat) : List Byte :=
  match dictionaryMatch dictionary digits with
  | some (index, entry) =>
    BitVec.ofNat 8 index :: BitVec.ofNat 8 (digits.length - entry.length) :: packDigits (digits.drop entry.length)
  | none => BitVec.ofNat 8 digits.length :: packDigits digits

/-! ### The record -/

/-- The eight indicators of a header byte (R73). -/
structure Indicators where
  sameKindCause : Bool
  sameSwitch : Bool
  sameService : Bool
  sameTrunk : Bool
  seqNext : Bool
  sameFlags : Bool
  callingDict : Bool
  calledDict : Bool
  deriving DecidableEq, Repr

/-- The indicators of a record against its reference and dictionary (R73). -/
def indicators (dictionary : NMap (List Nat)) (ref : Reference) (r : CallRecord) : Indicators where
  sameKindCause := decide (r.kind = ref.kind) && decide (r.cause = ref.cause)
  sameSwitch := decide (r.switchId = ref.switchId)
  sameService := decide (r.service = ref.service)
  sameTrunk := decide (r.trunk = ref.trunk)
  seqNext := decide (r.sequence = (ref.sequence + 1) % 4294967296)
  sameFlags := decide (r.flags = ref.flags)
  callingDict := (dictionaryMatch dictionary (writtenDigits r.calling)).isSome
  calledDict := (dictionaryMatch dictionary (writtenDigits r.called)).isSome

/-- The header byte, SAME_KIND_CAUSE in bit 7 down to CALLED_DICT in bit 0 (section 12.5). -/
def Indicators.byte (i : Indicators) : Byte :=
  BitVec.ofNat 8 (128 * i.sameKindCause.toNat + 64 * i.sameSwitch.toNat + 32 * i.sameService.toNat
    + 16 * i.sameTrunk.toNat + 8 * i.seqNext.toNat + 4 * i.sameFlags.toNat + 2 * i.callingDict.toNat
    + i.calledDict.toNat)

/-- The indicators that a header byte holds (section 12.5). -/
def Indicators.ofByte (b : Byte) : Indicators where
  sameKindCause := b.getLsbD 7
  sameSwitch := b.getLsbD 6
  sameService := b.getLsbD 5
  sameTrunk := b.getLsbD 4
  seqNext := b.getLsbD 3
  sameFlags := b.getLsbD 2
  callingDict := b.getLsbD 1
  calledDict := b.getLsbD 0

/-- A field left out when its indicator is set (R74). -/
def unlessSet (indicator : Bool) (bytes : List Byte) : List Byte := if indicator then [] else bytes

/-- The signed difference of two values as received (R75). -/
def deltaOf (value reference : Nat) : Int := (value : Int) - (reference : Int)

/-- The header byte and the fields of a record, in the order of R74. -/
def encodeFields (dictionary : NMap (List Nat)) (ref : Reference) (r : CallRecord) : List Byte :=
  let i := indicators dictionary ref r
  i.byte ::
    (unlessSet i.sameKindCause [BitVec.ofNat 8 r.kind, BitVec.ofNat 8 r.cause]
      ++ unlessSet i.sameSwitch (toBytes 2 r.switchId)
      ++ unlessSet i.sameService (toBytes 2 r.service)
      ++ unlessSet i.sameTrunk (toBytes 2 r.trunk)
      ++ unlessSet i.seqNext (varint (zigzag (deltaOf r.sequence ref.sequence)))
      ++ varint (zigzag (deltaOf r.startTime ref.startTime))
      ++ varint r.duration
      ++ varint r.charge
      ++ unlessSet i.sameFlags (toBytes 2 r.flags)
      ++ encodeDigits dictionary (writtenDigits r.calling)
      ++ encodeDigits dictionary (writtenDigits r.called))

/-- The reason byte (R81). -/
def RejectReason.code : RejectReason → Nat
  | .badField => 1
  | .switchMismatch => 2
  | .timeRange => 3
  | .serviceUnmapped => 4

/-- The reason byte of a rejected record, and none of a valid one (R81). -/
def reasonBytes (reason : Option RejectReason) : List Byte :=
  match reason with
  | none => []
  | some x => [BitVec.ofNat 8 x.code]

/-- An encoded record: the reason byte in class 0, the header byte, the fields (R74, R81). -/
def encodeRecord (dictionary : NMap (List Nat)) (ref : Reference) (reason : Option RejectReason) (r : CallRecord) :
    List Byte :=
  reasonBytes reason ++ encodeFields dictionary ref r

/-- The record as the reference of the next one (R72). -/
def referenceOf (r : CallRecord) : Reference where
  kind := r.kind
  cause := r.cause
  switchId := r.switchId
  service := r.service
  trunk := r.trunk
  sequence := r.sequence
  startTime := r.startTime
  flags := r.flags

/-- The capacity test: a record of `length` bytes fits (R83). -/
def EncodingContext.fits (c : EncodingContext) (length : Nat) : Bool :=
  decide (c.recordCount ≠ Config.segmentRecordLimit) && decide (c.bodyLength + length ≤ Config.segmentBodyLimit)

/-- The context after a record's bytes are appended (R83). -/
def EncodingContext.append (c : EncodingContext) (r : CallRecord) (bytes : List Byte) : EncodingContext :=
  let ab := checkTerms (c.checkA, c.checkB) bytes
  { reference := referenceOf r
    recordCount := c.recordCount + 1
    bodyLength := c.bodyLength + bytes.length
    checkA := ab.1
    checkB := ab.2
    firstStart := some (c.firstStart.getD r.startTime)
    lastStart := some r.startTime
    durationSum := (c.durationSum + r.duration) % 4294967296 }

/-! ### The header -/

/-- The 40-byte segment header (R86, section 12.5). -/
def headerBytes (key : SegmentKey) (segmentId edition : Nat) (late : Bool) (c : EncodingContext) : List Byte :=
  toBytes 2 Config.headerMarker ++ toBytes 1 Config.segmentFormat ++ toBytes 1 key.cls ++ toBytes 3 segmentId
    ++ toBytes 1 edition ++ toBytes 1 late.toNat ++ toBytes 1 key.bank.val ++ toBytes 2 key.day
    ++ toBytes 4 key.generation ++ toBytes 4 c.recordCount ++ toBytes 4 c.bodyLength
    ++ toBytes 4 (checkOf (c.checkA, c.checkB)) ++ toBytes 4 (c.firstStart.getD 0) ++ toBytes 4 (c.lastStart.getD 0)
    ++ toBytes 4 c.durationSum

/-! ### Decoding (R88, R89) -/

/-- What one reading step of the decoder answers: a value and the bytes after it, or none at a malformation. -/
abbrev Read (α : Type) := Option (α × List Byte)

/-- One byte. -/
def readByte : List Byte → Read Byte
  | [] => none
  | b :: rest => some (b, rest)

/-- `n` bytes as a number, most significant first. -/
def readNumber (n : Nat) (bs : List Byte) : Read Nat := if bs.length < n then none else some (ofBytes (bs.take n), bs.drop n)

/-- A varint of at most `fuel` bytes, whose first group stands at `scale` (R77, R89). -/
def readVarintIn : Nat → Nat → List Byte → Read Nat
  | 0, _, _ => none
  | _ + 1, _, [] => none
  | fuel + 1, scale, b :: rest =>
    if b.toNat < 128 then some (scale * b.toNat, rest)
    else
      match readVarintIn fuel (scale * 128) rest with
      | none => none
      | some (v, rest') => some (scale * (b.toNat - 128) + v, rest')

/-- A varint: malformed when its fifth byte has its top bit set (R89). -/
def readVarint (bs : List Byte) : Read Nat := readVarintIn 5 1 bs

/-- A varint whose value lies in 0..4,294,967,295 (R89). -/
def readValue (bs : List Byte) : Read Nat :=
  match readVarint bs with
  | none => none
  | some (v, rest) => if v ≤ max32 then some (v, rest) else none

/-- A zigzagged delta added to the reference's value, which must land in 0..4,294,967,295 (R88, R89). -/
def readDelta (reference : Nat) (bs : List Byte) : Read Nat :=
  match readVarint bs with
  | none => none
  | some (v, rest) =>
    let value := (reference : Int) + unzigzag v
    if 0 ≤ value ∧ value ≤ 4294967295 then some (value.toNat, rest) else none

/-- `n` packed digits (R78). A digit above 9 and a pad other than 15 are no malformation (R89). -/
def readDigits : Nat → List Byte → Read (List Nat)
  | 0, bs => some ([], bs)
  | _ + 1, [] => none
  | 1, b :: rest => some ([b.toNat / 16], rest)
  | n + 2, b :: rest =>
    match readDigits n rest with
    | none => none
    | some (ds, rest') => some (b.toNat / 16 :: b.toNat % 16 :: ds, rest')

/-- A number in the form its indicator names (R88 step 4, R89). -/
def readDigitString (dictionary : NMap (List Nat)) (matched : Bool) (bs : List Byte) : Read (List Nat) :=
  if matched then
    match bs with
    | index :: count :: rest =>
      let entry := NMap.read [] dictionary index.toNat
      if index.toNat = 0 ∨ entry = [] ∨ Config.digitPositions < entry.length + count.toNat then none
      else
        match readDigits count.toNat rest with
        | none => none
        | some (ds, rest') => some (entry ++ ds, rest')
    | _ => none
  else
    match bs with
    | count :: rest => if Config.digitPositions < count.toNat then none else readDigits count.toNat rest
    | [] => none

/-- A field copied from the reference when its indicator is set, and read otherwise (R88 step 3). -/
def copyOr {α : Type} (indicator : Bool) (copied : α) (reader : List Byte → Read α) (bs : List Byte) : Read α :=
  if indicator then some (copied, bs) else reader bs

/-- The kind and cause bytes (R74). -/
def readKindCause (bs : List Byte) : Read (Nat × Nat) :=
  match bs with
  | kind :: cause :: rest => some ((kind.toNat, cause.toNat), rest)
  | _ => none

/-- The reason byte of a class 0 record, 1..4 (R88 step 1, R89). -/
def readReason (cls : Nat) (bs : List Byte) : Read Unit :=
  if cls ≠ 0 then some ((), bs)
  else
    match bs with
    | [] => none
    | b :: rest => if 1 ≤ b.toNat ∧ b.toNat ≤ 4 then some ((), rest) else none

/-- One record decoded against its reference (R88). -/
def decodeRecord (dictionary : NMap (List Nat)) (cls : Nat) (ref : Reference) (bs : List Byte) :
    Option (CallRecord × List Byte) := do
  let (_, bs) ← readReason cls bs
  let (header, bs) ← readByte bs
  let i := Indicators.ofByte header
  let (kindCause, bs) ← copyOr i.sameKindCause (ref.kind, ref.cause) readKindCause bs
  let (switchId, bs) ← copyOr i.sameSwitch ref.switchId (readNumber 2) bs
  let (service, bs) ← copyOr i.sameService ref.service (readNumber 2) bs
  let (trunk, bs) ← copyOr i.sameTrunk ref.trunk (readNumber 2) bs
  let (sequence, bs) ← copyOr i.seqNext ((ref.sequence + 1) % 4294967296) (readDelta ref.sequence) bs
  let (startTime, bs) ← readDelta ref.startTime bs
  let (duration, bs) ← readValue bs
  let (charge, bs) ← readValue bs
  let (flags, bs) ← copyOr i.sameFlags ref.flags (readNumber 2) bs
  let (calling, bs) ← readDigitString dictionary i.callingDict bs
  let (called, bs) ← readDigitString dictionary i.calledDict bs
  some ({ kind := kindCause.1, cause := kindCause.2, switchId, service, trunk, sequence, startTime, duration, charge,
          flags, calling := { count := calling.length, digits := calling },
          called := { count := called.length, digits := called } }, bs)

/-- The end of decoding (R88, R89): the records decoded, and whether a malformation ended it. -/
structure Decoded where
  records : List CallRecord
  malformed : Bool
  deriving DecidableEq, Repr

/-- Records decoded one after another while bytes remain; every record takes a byte at least, so the bytes bound them. -/
def decodeFrom (dictionary : NMap (List Nat)) (cls : Nat) : Nat → Reference → List Byte → Decoded
  | 0, _, _ => { records := [], malformed := false }
  | fuel + 1, ref, bs =>
    if bs = [] then { records := [], malformed := false }
    else
      match decodeRecord dictionary cls ref bs with
      | none => { records := [], malformed := true }
      | some (r, rest) =>
        let more := decodeFrom dictionary cls fuel (referenceOf r) rest
        { more with records := r :: more.records }

/-- The decoding of a body (R88), starting from the zero record. -/
def decodeBody (dictionary : NMap (List Nat)) (cls : Nat) (body : List Byte) : Decoded :=
  decodeFrom dictionary cls body.length {} body

/-- The duration sum of decoded records, modulo 2^32 (R88). -/
def durationSumOf (records : List CallRecord) : Nat := (records.map CallRecord.duration).sum % 4294967296

end Sys2Proof.Machine
end

