-- ==== Sys2Proof/Machine/Segments.lean ====
section
/-! DEFINITION. Chapter 6: opening, filling and sealing segments (R90 to R99), and the stall of the encoder (R94, R95). -/

namespace Sys2Proof.Machine

/-- The open segment of a key (R90). -/
def State.openSegment (s : State) (k : SegmentKey) : Option OpenSegment :=
  s.openSegments.find? (fun g => decide (g.key = k))

/-- The expiry day handed at the seal: the day plus the retention, clamped at 65,535 (R99). -/
def expiryDayOf (bank : Bank) (key : SegmentKey) : Nat := min Config.lastDay (key.day + bank.retentionOf key.cls)

/-- What the seal hands the catalog entry (R99). -/
def sealFigures (bank : Bank) (g : OpenSegment) : Figures where
  recordCount := g.context.recordCount
  bodyLength := g.context.bodyLength
  checkValue := checkOf (g.context.checkA, g.context.checkB)
  durationSum := g.context.durationSum
  firstStart := g.context.firstStart.getD 0
  lastStart := g.context.lastStart.getD 0
  switches := g.switches
  expiryDay := expiryDayOf bank g.key

/-- A seal (R99): the header completes the image, the entry leaves the list, the catalog entry becomes WRITING with its
figures, and the segment joins the tail of the write queue. -/
def sealSegment (g : OpenSegment) (s : State) : State :=
  let b := s.buffer g.buffer
  let image := headerBytes g.key g.segmentId g.edition g.late g.context ++ b.bytes
  let sealed := s.setBuffer g.buffer { b with state := .sealed, bytes := image }
  let listed := { sealed with openSegments := sealed.openSegments.filter (fun x => decide (x.segmentId ≠ g.segmentId)) }
  let handed := listed.setEntry g.segmentId
    { listed.entry g.segmentId with state := .writing, figures := some (sealFigures (s.bank g.key.bank) g) }
  { handed with writeQueue := handed.writeQueue ++ [g.segmentId] }

/-- The open segments that meet a condition are sealed in list order, head first (R97, R98). -/
def sealWhere (which : OpenSegment → Bool) (s : State) : State :=
  (s.openSegments.filter which).foldl (fun x g => sealSegment g x) s

/-- The switches that a record brings to its segment's switch set: the file's, and the record's own when it was rejected
with SWITCH_MISMATCH (R92). -/
def recordSwitches (fileSwitch : Nat) (r : CallRecord) (v : Verdict) (set : List Nat) : List Nat :=
  let withFile := insertMember fileSwitch set
  if v.reason = some .switchMismatch then insertMember r.switchId withFile else withFile

/-- A record's bytes appended to an open segment, which moves to the tail of the list (R83, R92). -/
def appendRecord (g : OpenSegment) (fileSwitch : Nat) (r : CallRecord) (v : Verdict) (bytes : List Byte) (s : State) :
    State :=
  let b := s.buffer g.buffer
  let filled := s.setBuffer g.buffer { b with bytes := b.bytes ++ bytes }
  let grown := { g with context := g.context.append r bytes, switches := recordSwitches fileSwitch r v g.switches }
  { filled with
    openSegments := filled.openSegments.filter (fun x => decide (x.segmentId ≠ g.segmentId)) ++ [grown] }

/-- What the encoder answers to a record offered to it (R29 step 4). -/
inductive Offer where
  | accepted (s : State)
  | refused (s : State)

/-- The CATALOG_FULL report, given when an opening finds no id while the catalog-full flag is clear (R95). -/
def noteCatalogFull (k : SegmentKey) (s : State) : State :=
  if s.freeIds.isEmpty && !s.catalogFull then
    raise .catalogFull (some k.day) k.cls (s.bufferCount .free)
      (s.stateCounts[EntryState.writeFailed.code] + s.stateCounts[EntryState.deleteFailed.code])
      { s with catalogFull := true }
  else s

/-- The encoder stalls for want of a resource (R93 step 2, R94). -/
def stallEncoder (k : SegmentKey) (s : State) : State :=
  let noted := noteCatalogFull k s
  { noted with stall := noted.stallNow }

/-- A new segment on a free id and buffer, still without a record (R93 step 3). -/
def newSegment (k : SegmentKey) (id : Nat) (i : Fin 32) (s : State) : OpenSegment where
  key := k
  segmentId := id
  edition := (s.entry id).edition
  buffer := i
  late := decide (k.day < s.clock.currentDay.getD 0)
  deadline := s.after s.params.sealTimeoutMs

/-- The opening of a segment: id, buffer, catalog entry and reference count (R93 step 3). Its first record is appended at
the same event, which enters it in the list. -/
def takeResources (k : SegmentKey) (id : Nat) (i : Fin 32) (rest : List Nat) (s : State) : State :=
  let g := newSegment k id i s
  let opened := ({ s with freeIds := rest }).setEntry id
    { edition := g.edition, state := .opened, opening := some { key := k, late := g.late } }
  addReference k.bank (opened.setBuffer i { state := .filling, segmentId := id, bytes := [] })

/-- The record encoded with the dictionary of its segment's bank (R79, R83). -/
def encodedFor (s : State) (k : SegmentKey) (ref : Reference) (v : Verdict) (r : CallRecord) : List Byte :=
  encodeRecord (s.bank k.bank).dictionary ref v.reason r

/-- List pressure: a list of 16 entries seals its head (R93 step 1). -/
def relievePressure (s : State) : State :=
  match s.openSegments with
  | [] => s
  | head :: _ => if Config.openSegmentLimit ≤ s.openSegments.length then sealSegment head s else s

/-- A record whose key is not in the list (R93). -/
def offerNew (k : SegmentKey) (fileSwitch : Nat) (r : CallRecord) (v : Verdict) (s : State) : Offer :=
  let relieved := relievePressure s
  match relieved.freeIds, relieved.freeBuffer with
  | id :: rest, some i =>
    .accepted (appendRecord (newSegment k id i relieved) fileSwitch r v (encodedFor relieved k {} v r)
      (takeResources k id i rest relieved))
  | _, _ => .refused (stallEncoder k relieved)

/-- The key that a record forms with the bank and generation bound by its file (R92). -/
def keyOf (f : FileContext) (v : Verdict) : SegmentKey := { cls := v.cls, day := v.day, bank := f.bank, generation := f.generation }

/-- A record offered to the encoder (R92, R84). -/
def offerRecord (f : FileContext) (r : CallRecord) (v : Verdict) (s : State) : Offer :=
  let k := keyOf f v
  match s.openSegment k with
  | none => offerNew k f.switch r v s
  | some g =>
    let bytes := encodedFor s k g.context.reference v r
    if g.context.fits bytes.length then .accepted (appendRecord g f.switch r v bytes s)
    else offerNew k f.switch r v (sealSegment g s)

end Sys2Proof.Machine
end

