-- ==== Sys2Proof/Machine/Banks.lean ====
section
/-! DEFINITION. Chapter 3: bank selection, supersession and retirement (R53 to R58), loading a bank (R46 to R52), and the
order and ranges of the bank tables. -/

namespace Sys2Proof.Machine

/-- The ACTIVE bank, or none (R43). -/
def State.activeBank (s : State) : Option (Fin 4) := (List.finRange 4).find? (fun b => decide ((s.bank b).state = .active))

/-- The code of a bank state that BANK_RETIRED names, in the order of R58. -/
def leftCode : BankState → Nat
  | .draining => 1
  | .empty | .loading | .ready | .active => 0

/-- A bank retires (R58): its open segments are sealed, it becomes READY, and BANK_RETIRED is given. -/
def retireBank (b : Fin 4) (s : State) : State :=
  let g := (s.bank b).generation
  let left := (s.bank b).state
  let sealed := sealWhere (fun x => decide (x.key.bank = b) && decide (some x.key.generation = g)) s
  let ready := sealed.setBank b { sealed.bank b with state := .ready }
  raise .bankRetired (some b.val) (g.getD 0) (ready.bank b).references (leftCode left) ready

/-- The bank that was ACTIVE is superseded (R55). -/
def supersede (b : Fin 4) (s : State) : State :=
  if 0 < (s.bank b).boundFiles then s.setBank b { s.bank b with state := .draining } else retireBank b s

/-- How a selection took effect, in the order of R54. -/
inductive SelectedBy where
  | immediate
  | nextFile
  | dayClose
  deriving DecidableEq, Repr

/-- The code of BANK_ACTIVE's third value (R54). -/
def SelectedBy.code : SelectedBy → Nat
  | .immediate => 0
  | .nextFile => 1
  | .dayClose => 2

/-- A selection takes effect (R54): the bank becomes ACTIVE, the pending selection none, BANK_ACTIVE is given, and the bank
that was ACTIVE is superseded. -/
def selectBank (b : Fin 4) (how : SelectedBy) (s : State) : State :=
  let old := s.activeBank
  let chosen := { s with selection := none }.setBank b { s.bank b with state := .active }
  let reported := raise .bankActive (some b.val) ((s.bank b).generation.getD 0) (optionValue (old.map Fin.val)) how.code chosen
  match old with
  | none => reported
  | some o => supersede o reported

/-- A pending selection of a mode takes effect (R54). -/
def takeSelection (mode : SelectMode) (how : SelectedBy) (s : State) : State :=
  match s.selection with
  | none => s
  | some sel => if sel.mode = mode then selectBank sel.bank how s else s

/-- A file leaves its lane: the bound-file count goes down, and a DRAINING bank whose count reaches 0 retires (R57, R58). -/
def unbindFile (b : Fin 4) (s : State) : State :=
  let lowered := s.setBank b { s.bank b with boundFiles := (s.bank b).boundFiles - 1 }
  if (s.bank b).state = .draining ∧ (lowered.bank b).boundFiles = 0 then retireBank b lowered else lowered

/-! ### Loading (R46 to R48) -/

/-- A bank cleared by an accepted TABLE_BEGIN (R46). -/
def clearedBank (b : Bank) : Bank := { state := .loading, boundFiles := b.boundFiles, references := 0 }

/-- The first and last index of a table (R41). -/
def TableName.firstIndex : TableName → Nat
  | .prefixDictionary => 1
  | .serviceMap | .classTable | .switchTable => 0

/-- The last index of a table (R41). -/
def TableName.lastIndex : TableName → Nat
  | .serviceMap => 1023
  | .classTable => 7
  | .switchTable => 511
  | .prefixDictionary => 255

/-- The table that a run of entries is for. -/
def tableOf : TableEntries → TableName
  | .serviceMap _ => .serviceMap
  | .classTable _ => .classTable
  | .switchTable _ => .switchTable
  | .prefixDictionary _ => .prefixDictionary

/-- The number of entries of a run. -/
def entryCount : TableEntries → Nat
  | .serviceMap xs => xs.length
  | .classTable xs => xs.length
  | .switchTable xs => xs.length
  | .prefixDictionary xs => xs.length

/-- The index at which a TABLE_WRITE starts (R48). -/
def Bank.startOf (b : Bank) (startIndex : Option Nat) (table : TableName) : Nat :=
  match startIndex with
  | some i => i
  | none => if b.lastTable = some table then b.writeIndex else table.firstIndex

/-- Where a run of `n` entries would pass the table's indices (R47 test 2). -/
def outsideTable (table : TableName) (start n : Nat) : Bool :=
  decide (start < table.firstIndex) || decide (table.lastIndex < start) || decide (table.lastIndex + 1 < start + n)

/-- A dictionary entry outside its range: digit count 1, 2 or above 12, or a digit within the count above 9 (R47). -/
def badDictionaryEntry (n : Number) : Bool :=
  decide (n.count = 1) || decide (n.count = 2) || decide (12 < n.count) || (countedDigits n).any (fun d => decide (9 < d))

/-- A switch table entry outside its range: enabled above 1, or an offset outside -720..840 (R41, R47). -/
def badSwitchEntry (e : Nat × Int) : Bool := decide (1 < e.1) || decide (e.2 < -720) || decide (840 < e.2)

/-- The position of the first entry outside its range (R47 test 3). -/
def firstBad : TableEntries → Option Nat
  | .serviceMap xs => xs.findIdx? (fun c => decide (7 < c))
  | .classTable xs => xs.findIdx? (fun d => decide (d < 1) || decide (1095 < d))
  | .switchTable xs => xs.findIdx? badSwitchEntry
  | .prefixDictionary xs => xs.findIdx? badDictionaryEntry

/-- Values written at consecutive indices of a table (R47). -/
def writeRun {α : Type} [DecidableEq α] (d : α) (m : NMap α) (start : Nat) : List α → NMap α
  | [] => m
  | v :: rest => writeRun d (NMap.write d m start v) (start + 1) rest

/-- A switch table entry as written: its enabled byte and its offset (R41, R184). -/
def switchEntryOf (e : Nat × Int) : SwitchEntry := { enabled := decide (e.1 = 1), offset := e.2 }

/-- A bank after an accepted TABLE_WRITE (R47). -/
def Bank.written (b : Bank) (start : Nat) (entries : TableEntries) : Bank :=
  let noted := { b with lastTable := some (tableOf entries), writeIndex := start + entryCount entries }
  match entries with
  | .serviceMap xs => { noted with serviceMap := writeRun 0 b.serviceMap start xs }
  | .classTable xs => { noted with classTable := writeRun 1 b.classTable start xs }
  | .switchTable xs => { noted with switchTable := writeRun {} b.switchTable start (xs.map switchEntryOf) }
  | .prefixDictionary xs => { noted with dictionary := writeRun [] b.dictionary start (xs.map countedDigits) }

/-! ### Validation (R49 to R51) -/

/-- The lowest index whose used entry equals the entry at some index below it (R50). -/
def duplicateIndex : NMap (List Nat) → List (List Nat) → Option Nat
  | [], _ => none
  | (j, e) :: rest, seen => if seen.contains e then some j else duplicateIndex rest (e :: seen)

/-- Another bank holds the generation (R49 test 4). -/
def heldElsewhere (s : State) (b : Fin 4) (g : Nat) : Bool :=
  (List.finRange 4).any (fun o => decide (o ≠ b) && (s.bank o).holdsGeneration g)

/-- The load counter after a successful TABLE_END (R45, R51). -/
def counterAfter (counter : Nat) (supplied : Option Nat) : Nat :=
  match supplied with
  | none => counter + 1
  | some g => max counter g

/-- A bank made READY by a successful validation (R50). -/
def finishLoad (b : Fin 4) (supplied : Option Nat) (s : State) : State :=
  let counter := counterAfter s.loadCounter supplied
  let ready := s.setBank b { s.bank b with
    state := .ready, generation := some (supplied.getD counter), references := 0 }
  { ready with loadCounter := counter }

end Sys2Proof.Machine
end

