-- ==== Sys2Proof/Machine/DayTable.lean ====
section
/-! DEFINITION. Chapter 10, the Day Table: additions to switch rows, totals and unplaced totals (R154 to R158), and what
DAY_CLOSE does to the records (R160, R161). -/

namespace Sys2Proof.Machine

/-- The code of an accumulator, in the order of R155. -/
def Accumulator.code : Accumulator → Nat
  | .stored => 0
  | .rejected => 1
  | .duplicates => 2
  | .lost => 3
  | .evictions => 4
  | .durationSum => 5
  | .chargeSum => 6
  | .filesClosed => 7
  | .filesUnreconciled => 8

/-- The largest value of a row's accumulator (R155, R157). -/
def Accumulator.rowMax : Accumulator → Nat
  | .durationSum | .chargeSum => max64
  | .stored | .rejected | .duplicates | .lost | .evictions | .filesClosed | .filesUnreconciled => max32

/-- The value of an accumulator. -/
def Totals.get (t : Totals) : Accumulator → Nat
  | .stored => t.stored
  | .rejected => t.rejected
  | .duplicates => t.duplicates
  | .lost => t.lost
  | .evictions => t.evictions
  | .durationSum => t.durationSum
  | .chargeSum => t.chargeSum
  | .filesClosed => t.filesClosed
  | .filesUnreconciled => t.filesUnreconciled

/-- An accumulator set to a value. -/
def Totals.put (t : Totals) (a : Accumulator) (v : Nat) : Totals :=
  match a with
  | .stored => { t with stored := v }
  | .rejected => { t with rejected := v }
  | .duplicates => { t with duplicates := v }
  | .lost => { t with lost := v }
  | .evictions => { t with evictions := v }
  | .durationSum => { t with durationSum := v }
  | .chargeSum => { t with chargeSum := v }
  | .filesClosed => { t with filesClosed := v }
  | .filesUnreconciled => { t with filesUnreconciled := v }

/-- A saturating addition to one accumulator. -/
def Totals.add (limit : Nat) (t : Totals) (a : Accumulator) (n : Nat) : Totals := t.put a (satAdd limit (t.get a) n)

/-- The addition passes the accumulator's maximum in the row (R157). -/
def SwitchRow.overflows (row : SwitchRow) (a : Accumulator) (n : Nat) : Bool := decide (a.rowMax < row.totals.get a + n)

/-- A row after an addition: held at the maximum, which sets SATURATED (R157). -/
def SwitchRow.add (row : SwitchRow) (a : Accumulator) (n : Nat) : SwitchRow :=
  { totals := row.totals.add a.rowMax a n, saturated := row.saturated || row.overflows a n }

/-- A switch's row on a day; one that has had no addition is as it is made (R155). -/
def DayRecord.row (d : DayRecord) (switch : Nat) : SwitchRow := (NMap.find? d.rows switch).getD {}

/-- A day record after an addition: the row, and in full the day totals (R155). -/
def DayRecord.add (d : DayRecord) (switch : Nat) (a : Accumulator) (n : Nat) : DayRecord :=
  { d with
    rows := NMap.insert d.rows switch ((d.row switch).add a n)
    totals := d.totals.add max64 a n }

/-- The day record of a day, where one is held (R154). -/
def State.dayRecord (s : State) (day : Nat) : Option DayRecord := s.days.find? (fun d => decide (d.day = day))

/-- The Day Table with the record of `d.day` replaced by `d`. -/
def State.setDayRecord (s : State) (d : DayRecord) : State :=
  { s with days := s.days.map (fun x => if x.day = d.day then d else x) }

/-- An addition to the row of a switch and day, or to the unplaced totals when the day has no record (R156 to R158). A
saturation that sets the row's flag gives ACCUM_SATURATED. -/
def addToDay (day switch : Nat) (a : Accumulator) (n : Nat) (s : State) : State :=
  match s.dayRecord day with
  | none => { s with unplaced := s.unplaced.add max64 a n }
  | some d =>
    let added := s.setDayRecord (d.add switch a n)
    if (d.row switch).overflows a n && !(d.row switch).saturated then
      raise .accumSaturated (some day) switch a.code n added
    else added

/-- An addition to the row of the current day (R156). -/
def addToCurrentDay (switch : Nat) (a : Accumulator) (n : Nat) (s : State) : State :=
  match s.clock.currentDay with
  | none => s
  | some day => addToDay day switch a n s

/-- A valid record accepted by the encoder (R156). -/
def countStored (day switch duration charge : Nat) (s : State) : State :=
  addToDay day switch .chargeSum charge (addToDay day switch .durationSum duration (addToDay day switch .stored 1 s))

/-- Records discarded by a warm reset, one addition for each (R156). -/
def countLost : Nat → Nat → State → State
  | 0, _, s => s
  | n + 1, switch, s => countLost n switch (addToCurrentDay switch .lost 1 s)

/-- A new day record (R154, R160). -/
def newDay (state : DayState) (day : Nat) : DayRecord := { day, state }

/-- The days `first..last` in ascending order. -/
def daysFrom (first last : Nat) : List Nat := (List.range (last + 1 - first)).map (fun i => first + i)

/-- The Day Table made at the completion of START: a record for each day of the window, CLOSED below the start day (R154). -/
def startDays (clock : DayClock) : List DayRecord :=
  match clock.currentDay, clock.window with
  | some c, some (first, last) => (daysFrom first last).map (fun d => newDay (if d < c then .closed else .opened) d)
  | _, _ => []

/-- A row with files unreconciled above 0, lost above 0, or SATURATED set (R161). -/
def SwitchRow.exceptional (row : SwitchRow) : Bool :=
  decide (0 < row.totals.filesUnreconciled) || decide (0 < row.totals.lost) || row.saturated

/-- The number of switches with exceptions of a day (R161). -/
def DayRecord.exceptions (d : DayRecord) : Nat := d.rows.countP (fun p => p.2.exceptional)

/-- A total as a report value, held at 4,294,967,295 (R161). -/
def reportTotal (n : Nat) : Nat := min max32 n

/-- The DAY_CLOSED statement with the values of R161. R68 says that the eviction count is seen in the day statements, and
R161 gives it no place there: the model follows R161, and evictions are seen in QUERY DAY alone (log entry 37). -/
def raiseDayClosed (d : DayRecord) (s : State) : State :=
  raise .dayClosed (some d.day) (reportTotal d.totals.stored) (reportTotal d.totals.filesClosed)
    (reportTotal d.totals.filesUnreconciled) s

/-- The DAY_FINAL statement with the values of R161, no eviction count among them (log entry 37). -/
def raiseDayFinal (s : State) (d : DayRecord) : State :=
  raise .dayFinal (some d.day) (reportTotal d.totals.stored) d.exceptions
    (d.rows.any (fun p => p.2.saturated)).toNat s

/-- The record of the closed day becomes CLOSED, with its statement (R160 step 1). -/
def closeDay (day : Nat) (s : State) : State :=
  match s.dayRecord day with
  | none => s
  | some d => raiseDayClosed d (s.setDayRecord { d with state := .closed })

/-- A day record put in its place by day. -/
def placeDay (d : DayRecord) : List DayRecord → List DayRecord
  | [] => [d]
  | x :: rest => if d.day < x.day then d :: x :: rest else x :: placeDay d rest

/-- Records below the window are retired in ascending day order, each with its statement (R160 step 4). -/
def retireDays (first : Nat) (s : State) : State :=
  let retired := s.days.filter (fun d => decide (d.day < first))
  let stated := retired.foldl raiseDayFinal s
  { stated with days := stated.days.filter (fun d => decide (first ≤ d.day)) }

/-- A new CLOSED record for a window day below the current day that has none (R160 step 5). -/
def readmitDay (s : State) (day : Nat) : State :=
  if (s.dayRecord day).isSome then s else { s with days := placeDay (newDay .closed day) s.days }

/-- The Day Table's part of a taken DAY_CLOSE, after the Day Clock has moved from `closed` to the next day (R160). -/
def closeDayTable (closed : Nat) (s : State) : State :=
  let withTop := fun (x : State) => { x with days := placeDay (newDay .opened (closed + 2)) x.days }
  match s.clock.window with
  | none => s
  | some (first, _) => (daysFrom first closed).foldl readmitDay (retireDays first (withTop (closeDay closed s)))

end Sys2Proof.Machine
end

