-- ==== Sys2Proof/Machine/Walkers.lean ====
section
/-! DEFINITION. Chapters 9 and 10: the states of the two walkers of the catalog, the Expiry Sweeper (R135 to R142, R149,
R150) and the Verifier (R163, R164, R168): beginning, resting, yielding to ingest, stopping and suspension. -/

namespace Sys2Proof.Machine

/-- The code of a walker's state, in the order of R135. -/
def WalkPhase.code : WalkPhase → Nat
  | .idle => 0
  | .running => 1
  | .resting => 2
  | .extendedRest => 3
  | .stopped => 4

/-- The paused set is not empty (R26). -/
def State.anyPaused (s : State) : Bool := (List.finRange 16).any (fun l => (s.lane l).paused)

/-- A pass is in progress in this phase (R135, R163). -/
def WalkPhase.inPass : WalkPhase → Bool
  | .running | .resting | .extendedRest => true
  | .idle | .stopped => false

/-! ### The sweeper -/

/-- The sweeper becomes RESTING, with burst count 0 (R138). -/
def Sweeper.rest (w : Sweeper) (expiry : Nat) : Sweeper :=
  { w with phase := .resting, burstCount := 0, restExpiry := some expiry }

/-- The sweeper in another phase than RESTING, without a rest expiry. -/
def Sweeper.enter (w : Sweeper) (phase : WalkPhase) : Sweeper := { w with phase, restExpiry := none }

/-- A pass that begins or continues enters RUNNING, EXTENDED_REST or RESTING (R136). -/
def enterSweep (w : Sweeper) (s : State) : State :=
  { s with sweeper :=
      if s.anyPaused then w.enter .extendedRest
      else if s.params.sweepBurst ≤ w.burstCount then w.rest (s.after s.params.sweepRest)
      else w.enter .running }

/-- SWEEP_START with restart (R136), which acts on the resume state of a suspended sweeper (R150). -/
def restartSweep (s : State) : State :=
  let w := s.sweeper
  match w.phase with
  | .idle | .stopped => enterSweep { w with cursor := 0, counts := {}, anotherPass := false } s
  | .running | .resting | .extendedRest => { s with sweeper := { w with cursor := 0, counts := {} } }

/-- SWEEP_START with resume (R136). -/
def resumeSweep (s : State) : State :=
  let w := s.sweeper
  match w.phase with
  | .idle => enterSweep { w with counts := {}, anotherPass := false } s
  | .stopped => enterSweep w s
  | .running | .resting | .extendedRest => s

/-- The auto sweep of a taken DAY_CLOSE (R141). -/
def autoSweep (s : State) : State :=
  let w := s.sweeper
  if !s.params.autoSweep then s
  else
    match w.phase with
    | .idle => restartSweep s
    | .stopped => enterSweep { w with anotherPass := w.anotherPass || decide (0 < w.cursor) } s
    | .running | .resting | .extendedRest => { s with sweeper := { w with anotherPass := true } }

/-- SWEEP_STOP, and what a warm reset does to the sweeper (R142). -/
def stopSweep (s : State) : State :=
  if s.sweeper.phase.inPass then { s with sweeper := s.sweeper.enter .stopped } else s

/-- The sweeper's rest expiry is reached (R138, R150). -/
def sweepRestEnds (s : State) : State := { s with sweeper := s.sweeper.enter .running }

/-- The sweeper when the paused set becomes non-empty (R139). -/
def Sweeper.yieldToIngest (w : Sweeper) : Sweeper :=
  match w.phase with
  | .running | .resting => w.enter .extendedRest
  | .idle | .extendedRest | .stopped => w

/-- The sweeper when the paused set becomes empty (R139). -/
def Sweeper.returnFromRest (w : Sweeper) : Sweeper :=
  match w.phase with
  | .extendedRest => { w with phase := .running, burstCount := 0 }
  | .idle | .running | .resting | .stopped => w

/-- The sweeper is SUSPENDED at the event at which the Pending Audit Hold list goes from empty to one entry (R149). -/
def suspendSweep (s : State) : State :=
  raise .sweepSuspended s.clock.currentDay s.sweeper.phase.code s.sweeper.cursor
    ((List.finRange 64).countP (fun h => (s.hold h).isSome)) { s with sweeper := { s.sweeper with suspended := true } }

/-- The suspension ends: the resume state becomes the state, and a rest whose expiry has passed ends at once (R149). -/
def unsuspendSweep (s : State) : State :=
  let w := { s.sweeper with suspended := false }
  let ended : Bool := match w.restExpiry with
    | none => false
    | some t => decide (w.phase = .resting) && s.reached t
  { s with sweeper := if ended then w.enter .running else w }

/-! ### The verifier -/

/-- The verifier becomes RESTING (R168). -/
def Verifier.rest (v : Verifier) (expiry : Nat) : Verifier := { v with phase := .resting, restExpiry := some expiry }

/-- The verifier in another phase than RESTING, without a rest expiry. -/
def Verifier.enter (v : Verifier) (phase : WalkPhase) : Verifier := { v with phase, restExpiry := none }

/-- A pass that begins or continues enters RUNNING, or EXTENDED_REST while a lane is paused (R164). -/
def enterVerify (v : Verifier) (s : State) : State :=
  { s with verifier := v.enter (if s.anyPaused then .extendedRest else .running) }

/-- VERIFY_START with restart (R164). -/
def restartVerify (s : State) : State :=
  let v := s.verifier
  match v.phase with
  | .idle | .stopped => enterVerify { v with cursor := 0, counts := {} } s
  | .running | .resting | .extendedRest => { s with verifier := { v with cursor := 0, counts := {} } }

/-- VERIFY_START with resume (R164). -/
def resumeVerify (s : State) : State :=
  let v := s.verifier
  match v.phase with
  | .idle => enterVerify { v with counts := {} } s
  | .stopped => enterVerify v s
  | .running | .resting | .extendedRest => s

/-- VERIFY_STOP, and what a warm reset does to the verifier (R164). -/
def stopVerify (s : State) : State :=
  if s.verifier.phase.inPass then { s with verifier := s.verifier.enter .stopped } else s

/-- The verifier's rest expiry is reached (R168). -/
def verifyRestEnds (s : State) : State := { s with verifier := s.verifier.enter .running }

/-- The verifier when the paused set becomes non-empty (R168). -/
def Verifier.yieldToIngest (v : Verifier) : Verifier :=
  match v.phase with
  | .running | .resting => v.enter .extendedRest
  | .idle | .extendedRest | .stopped => v

/-- The verifier when the paused set becomes empty (R168). While it still holds its READ tag it does not wait for a tag,
so it presents nothing until the read's outcome makes it rest. -/
def Verifier.returnFromRest (v : Verifier) : Verifier :=
  match v.phase with
  | .extendedRest => { v with phase := .running }
  | .idle | .running | .resting | .stopped => v

/-! ### The paused set (R26) -/

/-- A lane joins the paused set, LANE PAUSE is sent, and when the set was empty the walkers go to extended rest (R26,
R139, R168). -/
def pauseLane (l : Fin 16) (s : State) : State :=
  let wasEmpty := !s.anyPaused
  let paused := sendFeed (.lanePause l) (s.setLane l { s.lane l with paused := true })
  if wasEmpty then
    { paused with sweeper := paused.sweeper.yieldToIngest, verifier := paused.verifier.yieldToIngest }
  else paused

/-- A paused lane leaves the paused set, LANE RESUME is sent, and when the set becomes empty the walkers leave extended
rest (R26, R139, R168). -/
def resumeLane (l : Fin 16) (s : State) : State :=
  let resumed := sendFeed (.laneResume l) (s.setLane l { s.lane l with paused := false })
  if resumed.anyPaused then resumed
  else { resumed with sweeper := resumed.sweeper.returnFromRest, verifier := resumed.verifier.returnFromRest }

end Sys2Proof.Machine
end

