-- ==== Sys2Proof/Machine/Holds.lean ====
section
/-! DEFINITION. Chapter 9, holds: matching (R134), placing and releasing (R144 to R146), audit holds and the Pending Audit
Hold list (R147, R148). -/

namespace Sys2Proof.Machine

/-- The class set of all eight classes. -/
def allClasses : BitVec 8 := 0xFF#8

/-- A hold's selector matches a segment of a class, day and switch set (R134). -/
def HoldSelector.matches (h : HoldSelector) (cls day : Nat) (switches : List Nat) : Bool :=
  decide (h.firstDay ≤ day) && decide (day ≤ h.lastDay) && h.classes.getLsbD cls
    && (match h.switch with
        | none => true
        | some w => decide (w ∈ switches))

/-- A hold's selector matches the segment of a catalog entry (R134). -/
def HoldSelector.matchesEntry (h : HoldSelector) (e : CatalogEntry) : Bool :=
  match e.opening, e.figures with
  | some o, some f => h.matches o.key.cls o.key.day f.switches
  | _, _ => false

/-- A hold in use, or an entry of the Pending Audit Hold list, matches the entry's segment (R133, R137 test 4). -/
def State.isHeld (s : State) (e : CatalogEntry) : Bool :=
  (List.finRange 64).any (fun i =>
    match s.hold i with
    | none => false
    | some h => h.selector.matchesEntry e)
  || s.pendingHolds.any (fun p => p.matchesEntry e)

/-- The lowest-numbered free Hold Table entry (R144, R147). -/
def State.freeHold (s : State) : Option (Fin 64) := (List.finRange 64).find? (fun i => (s.hold i).isNone)

/-- The expiry day of an entry. -/
def CatalogEntry.expiryDay (e : CatalogEntry) : Nat := (e.figures.map Figures.expiryDay).getD 0

/-- The HOLD_MISSED report for one tag, where it holds the deletion of a DELETING entry the hold matches (R145). -/
def missOn (h : Fin 64) (sel : HoldSelector) (s : State) (t : Fin 8) : State :=
  match s.tag t with
  | none => s
  | some op =>
    let e := s.entry op.segmentId
    if op.operation = .delete ∧ e.state = .deleting ∧ sel.matchesEntry e then
      raise .holdMissed (some op.segmentId) h.val e.edition e.expiryDay s
    else s

/-- HOLD_MISSED for each DELETING entry that a new LEGAL hold matches, in ascending tag order (R145). -/
def reportMissed (h : Fin 64) (sel : HoldSelector) (s : State) : State := (List.finRange 8).foldl (missOn h sel) s

/-- An AUDIT hold placed in a free entry, with its HOLD_PLACED report (R147). -/
def placeAudit (h : Fin 64) (sel : HoldSelector) (s : State) : State :=
  raise .holdPlaced (some h.val) (optionValue sel.switch) sel.firstDay sel.lastDay
    (s.setHold h (some { kind := .audit, selector := sel }))

/-- The newest pending entry widened to cover a request (R148). -/
def HoldSelector.widen (p r : HoldSelector) : HoldSelector :=
  { switch := if p.switch = r.switch then p.switch else none
    firstDay := min p.firstDay r.firstDay
    lastDay := max p.lastDay r.lastDay
    classes := p.classes ||| r.classes }

/-- The Pending Audit Hold list with its newest entry widened (R148). -/
def widenNewest (r : HoldSelector) : List HoldSelector → List HoldSelector
  | [] => [r]
  | [p] => [p.widen r]
  | p :: rest => p :: widenNewest r rest

/-- A request that finds no free entry goes to the Pending Audit Hold list, APPENDED (0) or WIDENED (1), with its
HOLD_NOT_PLACED report; the sweeper is suspended when the list was empty (R147 to R149). -/
def waitAudit (r : HoldSelector) (s : State) : State :=
  let appended := decide (s.pendingHolds.length < Config.pendingHoldLimit)
  let waiting := if appended then s.pendingHolds ++ [r] else widenNewest r s.pendingHolds
  let reported := raise .holdNotPlaced (some r.firstDay) (optionValue r.switch) r.lastDay (if appended then 0 else 1)
    { s with pendingHolds := waiting }
  if s.pendingHolds.isEmpty then suspendSweep reported else reported

/-- A request for an audit hold (R147). -/
def requestAudit (r : HoldSelector) (s : State) : State :=
  match s.freeHold with
  | some h => placeAudit h r s
  | none => waitAudit r s

/-- A hold is released: the freed entry serves the oldest pending entry, and the suspension ends when the list becomes
empty (R146, R149). -/
def releaseHold (h : Fin 64) (s : State) : State :=
  let freed := s.setHold h none
  match freed.pendingHolds with
  | [] => freed
  | p :: rest =>
    let placed := placeAudit h p { freed with pendingHolds := rest }
    if rest.isEmpty then unsuspendSweep placed else placed

end Sys2Proof.Machine
end

