-- ==== Sys2Proof/Machine/Lanes.lean ====
section
/-! DEFINITION. Chapter 2, lanes and files (R15 to R27, R33 to R38), with the reconciliation of chapter 10 (R152, R153,
R159) that a drain completion takes. -/

namespace Sys2Proof.Machine

/-- The other buffer. -/
def BufId.other : BufId → BufId
  | .a => .b
  | .b => .a

/-- A buffer of a lane. -/
def Lane.buf (x : Lane) : BufId → LaneBuffer
  | .a => x.bufA
  | .b => x.bufB

/-- A lane with a buffer replaced. -/
def Lane.setBuf (x : Lane) (i : BufId) (y : LaneBuffer) : Lane :=
  match i with
  | .a => { x with bufA := y }
  | .b => { x with bufB := y }

/-- A buffer on the link side (R22). -/
def Lane.free (x : Lane) (i : BufId) : Bool := decide ((x.buf i).owner = .link)

/-- The buffer that a block fills (R22). -/
def Lane.target (x : Lane) : Option BufId :=
  if x.free x.lastFilled.other then some x.lastFilled.other
  else if x.free x.lastFilled then some x.lastFilled
  else none

/-- The buffer that the parser takes from a lane: of those it owns, the one filled earlier (R22, R28). -/
def Lane.toParse (x : Lane) : Option BufId :=
  if !x.free x.lastFilled.other then some x.lastFilled.other
  else if !x.free x.lastFilled then some x.lastFilled
  else none

/-- Both buffers are on the link side. -/
def Lane.drained (x : Lane) : Bool := x.free .a && x.free .b

/-- A lane's file context changed, where it has one. -/
def Lane.mapContext (x : Lane) (f : FileContext → FileContext) : Lane := { x with context := x.context.map f }

/-- The file context of a lane changed. -/
def State.mapContext (s : State) (l : Fin 16) (f : FileContext → FileContext) : State :=
  s.setLane l ((s.lane l).mapContext f)

/-! ### Recent Files (R38) -/

/-- An entry enters Recent Files, and the oldest leaves a full list (R38). -/
def enterRecent (e : RecentEntry) (s : State) : State :=
  let kept := if Config.recentFilesLimit ≤ s.recent.length then s.recent.drop 1 else s.recent
  { s with recent := kept ++ [e] }

/-- An entry for a switch and file number. -/
def RecentEntry.isFor (e : RecentEntry) (switch fileNumber : Nat) : Bool :=
  decide (e.context.switch = switch) && decide (e.context.fileNumber = fileNumber)

/-- An ABORTED entry for a switch and file number (R18, R21). -/
def RecentEntry.isAborted (switch fileNumber : Nat) (e : RecentEntry) : Bool :=
  e.isFor switch fileNumber && decide (e.outcome = .aborted)

/-- The newest ABORTED entry for a switch and file number (R38). -/
def newestAborted (recent : List RecentEntry) (switch fileNumber : Nat) : Option RecentEntry :=
  recent.reverse.find? (RecentEntry.isAborted switch fileNumber)

/-- Recent Files without its newest ABORTED entry for a switch and file number (R21). -/
def withoutAborted (recent : List RecentEntry) (switch fileNumber : Nat) : List RecentEntry :=
  (recent.reverse.eraseP (RecentEntry.isAborted switch fileNumber)).reverse

/-- Recent Files holds a RECONCILED or UNRECONCILED entry for the pair (R20). -/
def closedBefore (recent : List RecentEntry) (switch fileNumber : Nat) : Bool :=
  recent.any (fun e => e.isFor switch fileNumber && decide (e.outcome ≠ .aborted))

/-! ### FILE OPEN (R18 to R21) -/

/-- The refusal reasons, in the order of R18. -/
inductive RefusalReason where
  | notRunning
  | noTables
  | laneBusy
  | switchUnknown
  | alreadyOpen
  | continueNotFound
  deriving DecidableEq, Repr

/-- The code of a refusal reason (R184). -/
def RefusalReason.code : RefusalReason → Nat
  | .notRunning => 0
  | .noTables => 1
  | .laneBusy => 2
  | .switchUnknown => 3
  | .alreadyOpen => 4
  | .continueNotFound => 5

/-- The bank that a file would bind: that of a pending NEXT_FILE selection, else the ACTIVE bank (R18). -/
def State.bankToBind (s : State) (active : Fin 4) : Fin 4 :=
  match s.selection with
  | none => active
  | some sel => if sel.mode = .nextFile then sel.bank else active

/-- Another lane, OPEN or DRAINING, holds a file context with the same switch and file number (R18). -/
def openElsewhere (s : State) (l : Fin 16) (switch fileNumber : Nat) : Bool :=
  (List.finRange 16).any fun o =>
    decide (o ≠ l) && decide ((s.lane o).state ≠ .idle)
      && (match (s.lane o).context with
          | none => false
          | some c => decide (c.switch = switch) && decide (c.fileNumber = fileNumber))

/-- The first refusal reason of a FILE OPEN that applies (R18). -/
def refusalOf (l : Fin 16) (continueFlag : Bool) (switch fileNumber : Nat) (s : State) : Option RefusalReason :=
  if s.device = .starting then some .notRunning
  else
    match s.activeBank with
    | none => some .noTables
    | some active =>
      if (s.lane l).state ≠ .idle then some .laneBusy
      else if !((s.bank (s.bankToBind active)).switchOf switch).enabled then some .switchUnknown
      else if openElsewhere s l switch fileNumber then some .alreadyOpen
      else if continueFlag && (newestAborted s.recent switch fileNumber).isNone then some .continueNotFound
      else none

/-- The file context of an accepted FILE OPEN: new (R20), or made from the newest ABORTED entry (R21). -/
def contextFor (s : State) (continueFlag : Bool) (switch fileNumber : Nat) (bank : Fin 4) (generation : Nat) : FileContext :=
  let fresh : FileContext := { switch, fileNumber, bank, generation, resend := closedBefore s.recent switch fileNumber }
  if continueFlag then
    match newestAborted s.recent switch fileNumber with
    | none => fresh
    | some e => { e.context with bank, generation, continued := true, pending := 0, trailer := none }
  else fresh

/-- An accepted FILE OPEN binds the ACTIVE bank and opens the lane (R19 steps 2 to 4). -/
def bindFile (l : Fin 16) (continueFlag : Bool) (switch fileNumber : Nat) (active : Fin 4) (s : State) : State :=
  let context := contextFor s continueFlag switch fileNumber active ((s.bank active).generation.getD 0)
  let bound := s.setBank active { s.bank active with boundFiles := (s.bank active).boundFiles + 1 }
  let opened := bound.setLane l { bound.lane l with state := .opened, context := some context, strayReport := false }
  if continueFlag then { opened with recent := withoutAborted opened.recent switch fileNumber } else opened

/-- An accepted FILE OPEN: a pending NEXT_FILE selection takes effect, then the file binds (R19). -/
def acceptFile (l : Fin 16) (continueFlag : Bool) (switch fileNumber : Nat) (s : State) : State :=
  let selected := takeSelection .nextFile .nextFile s
  match selected.activeBank with
  | none => selected
  | some active => bindFile l continueFlag switch fileNumber active selected

/-- FILE OPEN at the Lane Unit: refused with a report, or accepted (R18, R19). -/
def openFile (l : Fin 16) (continueFlag : Bool) (switch fileNumber : Nat) (s : State) : State :=
  match refusalOf l continueFlag switch fileNumber s with
  | some reason => raise .fileRefused (some l.val) reason.code switch fileNumber s
  | none => acceptFile l continueFlag switch fileNumber s

/-! ### Stray frames (R25) -/

/-- The code of a lane state, in the order of R15. -/
def LaneState.code : LaneState → Nat
  | .idle => 0
  | .opened => 1
  | .draining => 2

/-- A stray frame is counted at its lane (R25). -/
def countStray (l : Fin 16) (s : State) : State :=
  s.setLane l { s.lane l with strayFrames := satAdd max32 (s.lane l).strayFrames 1 }

/-- A stray RECORD BLOCK: counted, and reported while the lane's stray-report flag is clear (R25). -/
def strayBlock (l : Fin 16) (blockNumber recordCount : Nat) (s : State) : State :=
  let counted := countStray l s
  if (s.lane l).strayReport then counted
  else
    raise .strayBlock (some l.val) blockNumber recordCount (s.lane l).state.code
      (counted.setLane l { counted.lane l with strayReport := true })

/-! ### RECORD BLOCK (R23, R24) -/

/-- Step 1 of R23: the block is counted and the expected block number moves. -/
def FileContext.countBlock (c : FileContext) (blockNumber : Nat) : FileContext :=
  { c with
    blocksReceived := satAdd max32 c.blocksReceived 1
    blockGaps := if blockNumber = c.expectedBlock then c.blockGaps else satAdd max32 c.blockGaps 1
    expectedBlock := (blockNumber + 1) % 4294967296 }

/-- A block fills a link-side buffer; the lane is paused when the other buffer is already the parser's (R22, R23, R26). -/
def fillBuffer (l : Fin 16) (i : BufId) (c : FileContext) (records : List CallRecord) (s : State) : State :=
  let n := records.length
  let x := s.lane l
  let filled := { x.setBuf i { owner := .parser, records } with
    lastFilled := i, context := some { c with announced := c.announced + n, pending := c.pending + n } }
  let taken := s.setLane l filled
  if x.free i.other then taken else pauseLane l taken

/-- A block with no link-side buffer is an overrun (R24). -/
def overrunBlock (l : Fin 16) (c : FileContext) (blockNumber n : Nat) (s : State) : State :=
  let after := { c with announced := c.announced + n, lost := c.lost + n, overrun := true }
  let added := addToCurrentDay c.switch .lost n (s.setLane l { s.lane l with context := some after })
  if c.overrun then added else raise .laneOverrun (some l.val) blockNumber n after.lost added

/-- A RECORD BLOCK on an OPEN lane whose count does not pass the announced limit (R23). -/
def takeBlock (l : Fin 16) (c : FileContext) (blockNumber : Nat) (records : List CallRecord) (s : State) : State :=
  let counted := c.countBlock blockNumber
  match (s.lane l).target with
  | some i => fillBuffer l i counted records s
  | none => overrunBlock l counted blockNumber records.length s

/-- A RECORD BLOCK at the Lane Unit, without the parser's start (R23, R25). -/
def blockArrives (l : Fin 16) (blockNumber : Nat) (records : List CallRecord) (s : State) : State :=
  match (s.lane l).state, (s.lane l).context with
  | .opened, some c =>
    if max32 < c.announced + records.length then strayBlock l blockNumber records.length s
    else takeBlock l c blockNumber records s
  | _, _ => strayBlock l blockNumber records.length s

/-! ### Ending a file (R33 to R36, R152, R153, R159) -/

/-- The four conditions of reconciliation (R152). -/
def reconciles (c : FileContext) (t : Trailer) : Bool :=
  decide (c.stored + c.rejected + c.duplicates = t.recordCount) && decide (c.lost = 0)
    && decide (c.durationSum = t.durationSum) && decide (c.chargeSum = t.chargeSum)

/-- A difference against the trailer, saturated to 32 bits with sign (R153). -/
def difference (own trailer : Nat) : Nat := toWord32 (clampInt (-2147483648) 2147483647 ((own : Int) - (trailer : Int)))

/-- The code of a reconciliation outcome: RECONCILED 0, UNRECONCILED 1 (section 12.7). -/
def FileOutcome.code : FileOutcome → Nat
  | .reconciled => 0
  | .unreconciled => 1
  | .aborted => 2

/-- The close counted in the Day Table on a day (R152 step 1, R156). -/
def countClose (day switch : Nat) (outcome : FileOutcome) (s : State) : State :=
  let closed := addToDay day switch .filesClosed 1 s
  if outcome = .unreconciled then addToDay day switch .filesUnreconciled 1 closed else closed

/-- The FILE_CLOSED report (R153): the subject carries the lane and the outcome (section 12.7). -/
def raiseFileClosed (l : Fin 16) (c : FileContext) (t : Trailer) (day : Nat) (outcome : FileOutcome) (s : State) : State :=
  raiseOn (some day) .fileClosed (some (outcome.code * 16777216 + l.val))
    (difference (c.stored + c.rejected + c.duplicates) t.recordCount) (difference c.durationSum t.durationSum)
    (difference c.chargeSum t.chargeSum) s

/-- The amendment of a day whose record is not OPEN, with DAY_AMENDED (R159). -/
def amendDay (day : Nat) (outcome : FileOutcome) (switch : Nat) (s : State) : State :=
  match s.dayRecord day with
  | none => raise .dayAmended (some day) absentValue outcome.code switch s
  | some d =>
    match d.state with
    | .opened => s
    | .closed =>
      let amended := { d with amendments := satAdd max32 d.amendments 1 }
      raise .dayAmended (some day) amended.amendments outcome.code switch (s.setDayRecord amended)

/-- The audit hold of an UNRECONCILED file that stored a record (R147, R152 step 4). -/
def auditFile (c : FileContext) (outcome : FileOutcome) (s : State) : State :=
  match outcome, c.minDay, c.maxDay with
  | .unreconciled, some first, some last =>
    if 0 < c.stored then
      requestAudit { switch := some c.switch, firstDay := first, lastDay := last, classes := allClasses } s
    else s
  | _, _, _ => s

/-- Reconciliation of a file closed by FILE CLOSE, steps 1 to 4 of R152. -/
def reconcile (l : Fin 16) (c : FileContext) (t : Trailer) (outcome : FileOutcome) (s : State) : State :=
  let day := c.fileDay.getD (s.clock.currentDay.getD 0)
  auditFile c outcome
    (amendDay day outcome c.switch (raiseFileClosed l c t day outcome (countClose day c.switch outcome s)))

/-- The lane becomes IDLE with its context absent (R34). -/
def State.idleLane (s : State) (l : Fin 16) : State := s.setLane l { s.lane l with state := .idle, context := none }

/-- The FILE_ABORTED report (R34, R37). -/
def raiseAborted (l : Fin 16) (c : FileContext) (s : State) : State :=
  raise .fileAborted (some l.val) c.switch c.fileNumber c.lost s

/-- A file leaves its lane without reconciliation, as ABORTED (R34, R37). -/
def abortFile (l : Fin 16) (c : FileContext) (s : State) : State :=
  unbindFile c.bank
    ((raiseAborted l c (enterRecent { context := c, outcome := .aborted } s)).idleLane l)

/-- A file closed by FILE CLOSE leaves its lane (R34, R152). -/
def closeFile (l : Fin 16) (c : FileContext) (t : Trailer) (s : State) : State :=
  let outcome := if reconciles c t then FileOutcome.reconciled else FileOutcome.unreconciled
  unbindFile c.bank
    ((enterRecent { context := c, outcome } (reconcile l c t outcome s)).idleLane l)

/-- Drain completion: taken at the event at which a DRAINING lane has both buffers on the link side (R34). -/
def drainLane (l : Fin 16) (s : State) : State :=
  let x := s.lane l
  if x.state = .draining ∧ x.drained then
    match x.context with
    | none => s
    | some c =>
      match c.trailer with
      | none => abortFile l c s
      | some t => closeFile l c t s
  else s

/-- The end of an OPEN lane's delivery: it becomes DRAINING, with the trailer that a FILE CLOSE carries (R33, R35). -/
def endDelivery (l : Fin 16) (trailer : Option Trailer) (s : State) : State :=
  s.setLane l { (s.lane l).mapContext (fun c => { c with trailer }) with state := .draining }

/-- FILE CLOSE and FILE ABORT at the Lane Unit: the lane drains, or the frame is stray (R33, R35, R25). -/
def fileEnds (l : Fin 16) (trailer : Option Trailer) (s : State) : State :=
  if (s.lane l).state = .opened then drainLane l (endDelivery l trailer s) else countStray l s

/-- Every OPEN lane becomes DRAINING as FILE ABORT makes it (R36). -/
def endOpenLane (s : State) (l : Fin 16) : State := if (s.lane l).state = .opened then endDelivery l none s else s

/-- Feed link loss at the Lane Unit: the OPEN lanes drain, and drain completions are taken in ascending lane number (R36,
R34). -/
def feedLossAtLanes (s : State) : State :=
  (List.finRange 16).foldl (fun x l => drainLane l x) ((List.finRange 16).foldl endOpenLane s)

end Sys2Proof.Machine
end

