-- ==== Sys2Proof/Machine/Parsing.lean ====
section
/-! DEFINITION. Chapter 2, the Record Parser (R28 to R32), and the Lane Unit's part of a warm reset (R37). -/

namespace Sys2Proof.Machine

/-! ### The file context's counters (R17, R30, R31) -/

/-- A record's duration and charge added to the file's sums (R16). -/
def FileContext.addSums (c : FileContext) (r : CallRecord) : FileContext :=
  { c with durationSum := c.durationSum + r.duration, chargeSum := c.chargeSum + r.charge }

/-- The sequence fields after a valid record is counted stored or duplicate (R31). -/
def FileContext.stepSequence (c : FileContext) (sequence : Nat) : FileContext :=
  { c with
    sequenceGaps := match c.lastSequence with
      | none => c.sequenceGaps
      | some last =>
        if sequence = (last + 1) % 4294967296 then c.sequenceGaps else satAdd max32 c.sequenceGaps 1
    lastSequence := some sequence }

/-- The context after a valid record is matched in the filter (R29 step 3). -/
def FileContext.countDuplicate (c : FileContext) (r : CallRecord) : FileContext :=
  ({ c with duplicates := c.duplicates + 1, pending := c.pending - 1 }.addSums r).stepSequence r.sequence

/-- The context after a valid record is accepted by the encoder (R30). -/
def FileContext.countStored (c : FileContext) (r : CallRecord) (day : Nat) : FileContext :=
  ({ c with
      stored := c.stored + 1
      pending := c.pending - 1
      minDay := some (min day (c.minDay.getD day))
      maxDay := some (max day (c.maxDay.getD day)) }.addSums r).stepSequence r.sequence

/-- The context after a rejected record is accepted by the encoder (R30). -/
def FileContext.countRejected (c : FileContext) (r : CallRecord) : FileContext :=
  { c with rejected := c.rejected + 1, pending := c.pending - 1 }.addSums r

/-! ### Taking buffers (R28) -/

/-- The lanes in the order the parser looks at them: upward from the lane served last plus one, wrapping (R28). -/
def laneOrder (last : Fin 16) : List (Fin 16) := (List.finRange 16).map (fun k => last + 1 + k)

/-- An IDLE parser takes a buffer if a lane holds one it owns (R28). -/
def startBuffer (s : State) : State :=
  match s.parser.phase with
  | .idle =>
    match (laneOrder s.parser.lastLane).find? (fun l => (s.lane l).toParse.isSome) with
    | none => s
    | some l =>
      match (s.lane l).toParse with
      | none => s
      | some i => { s with parser := { phase := .parsing l i 0, lastLane := l } }
  | .parsing _ _ _ | .stalled _ _ _ _ _ => s

/-- A buffer passes back to the link side, which takes a paused lane out of the paused set (R22, R26). -/
def returnBuffer (l : Fin 16) (i : BufId) (s : State) : State :=
  let returned := s.setLane l ((s.lane l).setBuf i {})
  if (s.lane l).paused then resumeLane l returned else returned

/-- Finishing a buffer (R28): it passes back, the parser becomes IDLE, a drain completion that is now due is taken (R34),
and the parser takes its next buffer. -/
def finishBuffer (l : Fin 16) (i : BufId) (s : State) : State :=
  let returned := returnBuffer l i s
  startBuffer (drainLane l { returned with parser := { returned.parser with phase := .idle } })

/-- After a record is counted the parser passes to the next record of the buffer, or finishes the buffer (R29). -/
def nextRecord (l : Fin 16) (i : BufId) (position : Nat) (s : State) : State :=
  if position + 1 < ((s.lane l).buf i).records.length then
    { s with parser := { s.parser with phase := .parsing l i (position + 1) } }
  else finishBuffer l i s

/-! ### One record (R29, R30, R32) -/

/-- A record matched in the filter is counted a duplicate (R29 step 3). -/
def duplicateRecord (l : Fin 16) (switch : Nat) (r : CallRecord) (v : Verdict) (s : State) : State :=
  addToDay v.day switch .duplicates 1 (s.mapContext l (fun c => c.countDuplicate r))

/-- What follows the encoder's acceptance of a record, at that event (R30, R67, R68, R156). -/
def acceptRecord (l : Fin 16) (switch : Nat) (r : CallRecord) (v : Verdict) (s : State) : State :=
  match v.reason with
  | some _ => addToDay v.day switch .rejected 1 (s.mapContext l (fun c => c.countRejected r))
  | none =>
    let counted := s.mapContext l (fun c => c.countStored r v.day)
    let inserted := filterInsert r v.day counted
    let evicted := if insertionEvicts r v.day counted then addToDay v.day r.switchId .evictions 1 inserted else inserted
    countStored v.day switch r.duration r.charge evicted

/-- The parser STALLED with the record held (R32). -/
def holdRecord (l : Fin 16) (i : BufId) (position : Nat) (r : CallRecord) (v : Verdict) (s : State) : State :=
  { s with parser := { s.parser with phase := .stalled l i position r v } }

/-- A validated record is looked up when valid, and offered to the encoder on a miss or when rejected (R29 steps 2 to 4). -/
def takeRecord (l : Fin 16) (i : BufId) (position : Nat) (r : CallRecord) (v : Verdict) (s : State) : State :=
  match (s.lane l).context with
  | none => s
  | some c =>
    if v.reason.isNone && filterHit s.clock s.filter r then nextRecord l i position (duplicateRecord l c.switch r v s)
    else
      match offerRecord c r v s with
      | .accepted s' => nextRecord l i position (acceptRecord l c.switch r v s')
      | .refused s' => holdRecord l i position r v s'

/-- The first record's assigned day becomes the file day (R29 step 1). -/
def FileContext.noteDay (c : FileContext) (day : Nat) : FileContext := { c with fileDay := some (c.fileDay.getD day) }

/-- The parser takes the next record of its buffer (R29). While it is IDLE or STALLED there is no such event. -/
def parseNext (s : State) : State :=
  match s.parser.phase with
  | .parsing l i position =>
    match (s.lane l).context, ((s.lane l).buf i).records[position]? with
    | some c, some r =>
      let v := validate s.clock (s.bank c.bank) c.switch r
      takeRecord l i position r v (s.mapContext l (fun x => x.noteDay v.day))
    | _, _ => s
  | .idle | .stalled _ _ _ _ _ => s

/-- When the encoder's stall has ended, the parser takes up the held record (R32, R94). -/
def takeUpHeld (s : State) : State :=
  match s.stall, s.parser.phase with
  | .runningFree, .stalled l i position r v => takeRecord l i position r v s
  | _, _ => s

/-! ### Warm reset (R37) -/

/-- `n` pending records of a lane's file become lost, one addition to the day row for each (R37 steps 1 and 2, R156). -/
def discardRecords (l : Fin 16) (n : Nat) (s : State) : State :=
  match (s.lane l).context with
  | none => s
  | some c => countLost n c.switch (s.mapContext l (fun x => { x with pending := x.pending - n, lost := x.lost + n }))

/-- The records of the buffer in hand that are not yet counted, the held one among them, are discarded (R37). -/
def discardInHand (s : State) : State :=
  match s.parser.phase with
  | .idle => s
  | .parsing l i position | .stalled l i position _ _ =>
    discardRecords l (((s.lane l).buf i).records.length - position) s

/-- A buffer is in the parser's hand. -/
def State.inHand (s : State) (l : Fin 16) (i : BufId) : Bool :=
  match s.parser.phase with
  | .idle => false
  | .parsing l' i' _ | .stalled l' i' _ _ _ => decide (l' = l) && decide (i' = i)

/-- A full buffer not yet started is discarded (R37 step 2). -/
def discardWaiting (l : Fin 16) (s : State) (i : BufId) : State :=
  if s.inHand l i || (s.lane l).free i then s else discardRecords l ((s.lane l).buf i).records.length s

/-- Every buffer of a lane passes back, and LANE RESUME is sent for a paused lane (R37 step 3). -/
def returnLane (s : State) (l : Fin 16) : State :=
  let returned := s.setLane l { s.lane l with bufA := {}, bufB := {} }
  if (s.lane l).paused then resumeLane l returned else returned

/-- The file of a lane in OPEN or DRAINING ends as ABORTED, its trailer dropped (R37 step 4). -/
def abortLane (s : State) (l : Fin 16) : State :=
  match (s.lane l).context with
  | none => s
  | some c => abortFile l { c with trailer := none } s

/-- The warm reset at the Lane Unit and the parser (R37). R37 gives an order among the lanes for its step 4 alone. The
model's choices are that step 3 sends LANE RESUME in ascending lane number (log entry 35), and that steps 1 and 2 take the
buffer in hand first and then the lanes in ascending number, buffer A before B (log entry 36). -/
def warmLanes (s : State) : State :=
  let discarded := (List.finRange 16).foldl (fun x l => discardWaiting l (discardWaiting l x .a) .b) (discardInHand s)
  let returned := (List.finRange 16).foldl returnLane discarded
  let ended := (List.finRange 16).foldl abortLane returned
  { ended with parser := { ended.parser with phase := .idle } }

/-- The warm reset at the Segment Encoder (R98): every open segment is sealed and the stall is over. -/
def warmEncoder (s : State) : State := { sealWhere (fun _ => true) s with stall := .runningFree }

end Sys2Proof.Machine
end

