-- ==== Sys2Proof/Machine/Verification.lean ====
section
/-! DEFINITION. Chapter 10, the check of a returned image (R166) and the outcomes of a read (R112, R167, R168). -/

namespace Sys2Proof.Machine

/-- The HEADER check (R166 step 1), with the fields at their offsets in the header (section 12.5). -/
def headerOk (id : Nat) (edition : Nat) (o : Opening) (f : Figures) (image : List Byte) (overlong : Bool) : Bool :=
  !overlong && decide (Config.headerLength ≤ image.length)
    && decide (image.length = Config.headerLength + fieldAt image 20 4)
    && decide (fieldAt image 0 2 = Config.headerMarker) && decide (fieldAt image 2 1 = Config.segmentFormat)
    && decide (fieldAt image 4 3 = id) && decide (fieldAt image 7 1 = edition)
    && decide (fieldAt image 3 1 = o.key.cls) && decide (fieldAt image 10 2 = o.key.day)
    && decide (fieldAt image 16 4 = f.recordCount) && decide (fieldAt image 20 4 = f.bodyLength)

/-- A result of a verification and, for DECODE, the number of records decoded whole (R167). -/
structure Checked where
  result : VerifyResult
  whole : Nat := 0
  deriving DecidableEq, Repr

/-- The decoding of a body and its comparison with the entry's figures (R166 step 3). -/
def checkDecoded (dictionary : NMap (List Nat)) (cls : Nat) (f : Figures) (body : List Byte) : Checked :=
  let d := decodeBody dictionary cls body
  if d.malformed then { result := .damaged .decode, whole := d.records.length }
  else if d.records.length ≠ f.recordCount then { result := .damaged .count }
  else if durationSumOf d.records ≠ f.durationSum then { result := .damaged .duration }
  else { result := .fullOk }

/-- The checks of an image against its catalog entry (R166). Decoding is made when `bank` holds the entry's generation. -/
def checkImage (bank : Bank) (id edition : Nat) (o : Opening) (f : Figures) (image : List Byte) (overlong : Bool) : Checked :=
  if !headerOk id edition o f image overlong then { result := .damaged .header }
  else if checkValue (image.drop Config.headerLength) ≠ f.checkValue then { result := .damaged .check }
  else if bank.holdsGeneration o.key.generation then
    checkDecoded bank.dictionary o.key.cls f (image.drop Config.headerLength)
  else { result := .checkOnlyOk }

/-- The code of a damage reason in a SEG_DAMAGED report, in the order of R167; READ_FAILED follows them as 6. -/
def DamageReason.reportCode : DamageReason → Nat
  | .header => 0
  | .check => 1
  | .decode => 2
  | .count => 3
  | .duration => 4
  | .missing => 5

/-- The code of READ_FAILED in a SEG_DAMAGED report (R167). -/
def readFailedCode : Nat := 6

/-- Why a store operation failed: the cause of a read without a result (R167), the last failure of a write (R103). -/
inductive FailCause where
  | error
  | timeout
  deriving DecidableEq, Repr

/-- The code of a failure cause: ERROR 0, TIMEOUT 1 (R103, R167). -/
def FailCause.code : FailCause → Nat
  | .error => 0
  | .timeout => 1

/-- A RUNNING verifier rests when the outcome of its read is taken (R168). -/
def restVerifier (s : State) : State :=
  match s.verifier.phase with
  | .running => { s with verifier := s.verifier.rest (s.after s.params.verifyRest) }
  | .idle | .resting | .extendedRest | .stopped => s

/-- The pass counts after a result (R166, R167). -/
def VerifyCounts.addResult (c : VerifyCounts) : VerifyResult → VerifyCounts
  | .none => c
  | .fullOk => { c with fullOk := satAdd max32 c.fullOk 1 }
  | .checkOnlyOk => { c with checkOnly := satAdd max32 c.checkOnly 1 }
  | .damaged _ => { c with damaged := satAdd max32 c.damaged 1 }

/-- The verifier's pass counts changed. -/
def State.mapVerifyCounts (s : State) (f : VerifyCounts → VerifyCounts) : State :=
  { s with verifier := { s.verifier with counts := f s.verifier.counts } }

/-- An entry that was VERIFYING returns to STORED, with a result or with its result unchanged (R112). -/
def endVerification (id : Nat) (result : Option VerifyResult) (s : State) : State :=
  let e := s.entry id
  if e.state = .verifying then
    s.setEntry id { e.mapFigures (fun f => { f with verify := result.getD f.verify }) with state := .stored }
  else s

/-- A verification ends with a result (R112, R166, R167). -/
def verificationResult (id : Nat) (c : Checked) (s : State) : State :=
  let edition := (s.entry id).edition
  let counted := (endVerification id (some c.result) s).mapVerifyCounts (fun x => x.addResult c.result)
  let reported := match c.result with
    | .damaged reason => raise .segDamaged (some id) edition reason.reportCode c.whole counted
    | .none | .fullOk | .checkOnlyOk => counted
  restVerifier reported

/-- A verification ends without a result (R112, R167). -/
def verificationFails (id : Nat) (cause : FailCause) (s : State) : State :=
  let edition := (s.entry id).edition
  let counted := (endVerification id none s).mapVerifyCounts (fun x => { x with failed := satAdd max32 x.failed 1 })
  restVerifier (raise .segDamaged (some id) edition readFailedCode cause.code counted)

/-- The image handed to the verifier is checked (R131, R166). An entry without its figures cannot be VERIFYING (R108). -/
def verifyImage (id : Nat) (image : List Byte) (overlong : Bool) (s : State) : State :=
  let e := s.entry id
  match e.opening, e.figures with
  | some o, some f => verificationResult id (checkImage (s.bank o.key.bank) id e.edition o f image overlong) s
  | _, _ => s

end Sys2Proof.Machine
end

