-- ==== Sys2Proof/Machine/StoreLink.lean ====
section
/-! DEFINITION. Chapter 8: the arbiter and its grants (R125 to R127), the sweeper's and the verifier's examination of a
candidate (R137, R140, R165), and the outcomes of operations (R101 to R104, R112 to R114, R128 to R131, R143). -/

namespace Sys2Proof.Machine

/-! ### Tags -/

/-- The FREE tag first counting upward from the last tag granted plus one, wrapping (R126). -/
def State.freeTag (s : State) : Option (Fin 8) :=
  ((List.finRange 8).map (fun k => s.lastTag + 1 + k)).find? (fun t => (s.tag t).isNone)

/-- A tag holds an operation of a kind. -/
def isOperation (o : StoreOperation) (x : Option Outstanding) : Bool :=
  match x with
  | none => false
  | some op => decide (op.operation = o)

/-- The number of tags that hold an operation of a kind. -/
def State.tagsHeld (s : State) (o : StoreOperation) : Nat := (List.finRange 8).countP (fun t => isOperation o (s.tag t))

/-- A tag becomes OUTSTANDING with an operation at its grant and is the last tag granted (R124, R126, R128). -/
def grantTag (t : Fin 8) (o : StoreOperation) (id edition : Nat) (s : State) : State :=
  { s.setTag t (some { operation := o, segmentId := id, edition, expiry := s.after s.params.storeTimeout }) with
    lastTag := t }

/-! ### Writes (R127) -/

/-- The parts of an image, 16,384 bytes each but the last, numbered from `part` (R127). -/
def partsFrom (t : Fin 8) (id edition : Nat) : Nat → Nat → List Byte → List StoreFrame
  | 0, _, _ => []
  | fuel + 1, part, bytes =>
    if bytes.length ≤ Config.partLimit then [.segmentWrite t id edition part true bytes]
    else
      .segmentWrite t id edition part false (bytes.take Config.partLimit)
        :: partsFrom t id edition fuel (part + 1) (bytes.drop Config.partLimit)

/-- The SEGMENT WRITE frames of an image: at most four (R127). -/
def writeFrames (t : Fin 8) (id edition : Nat) (image : List Byte) : List StoreFrame := partsFrom t id edition 4 0 image

/-- The image that a segment id's buffer holds (R87). -/
def State.imageOf (s : State) (id : Nat) : List Byte := ((s.bufferOf id).map (fun i => (s.buffer i).bytes)).getD []

/-- A grant to the writer: the head of the write queue is sent (R100, R126, R127). -/
def sendWrite (t : Fin 8) (id : Nat) (rest : List Nat) (s : State) : State :=
  let edition := (s.entry id).edition
  sendStore (writeFrames t id edition (s.imageOf id)) (grantTag t .write id edition { s with writeQueue := rest })

/-! ### The sweeper's examination (R137, R138, R140) -/

/-- The sweeper presents a candidate: RUNNING, not suspended, and within its four tags (R125, R137, R149). -/
def sweeperWaits (s : State) : Bool :=
  decide (s.sweeper.phase = .running) && !s.sweeper.suspended
    && decide (s.tagsHeld .delete < Config.sweeperTagLimit)

/-- What the sweeper's examination of an entry answers, in the order of the tests (R137). -/
inductive SweepAnswer where
  | busy
  | notStored
  | notYetExpired
  | held
  | granted
  deriving DecidableEq, Repr

/-- The sweeper's tests of an entry (R137, R111). -/
def sweepTest (s : State) (e : CatalogEntry) : SweepAnswer :=
  match e.state with
  | .verifying | .deleting => .busy
  | .free | .opened | .writing | .writeFailed | .deleteFailed => .notStored
  | .stored =>
    if s.clock.currentDay.getD 0 ≤ e.expiryDay then .notYetExpired
    else if s.isHeld e then .held
    else .granted

/-- The pass counts after an examination (R137). -/
def SweepCounts.addAnswer (c : SweepCounts) (a : SweepAnswer) : SweepCounts :=
  let x := { c with examined := satAdd max32 c.examined 1 }
  match a with
  | .busy => { x with busy := satAdd max32 x.busy 1 }
  | .notStored => x
  | .notYetExpired => { x with notYetExpired := satAdd max32 x.notYetExpired 1 }
  | .held => { x with held := satAdd max32 x.held 1 }
  | .granted => { x with deleted := satAdd max32 x.deleted 1 }

/-- A pass report's value: two counts, each saturated at 65,535 (section 12.7). -/
def countPair (first second : Nat) : Nat := min 65535 first * 65536 + min 65535 second

/-- The claim GRANTED to the sweeper: the entry becomes DELETING, SEGMENT DELETE is sent, the turn goes to the verifier,
and the burst count goes up, which may begin a rest (R111, R125, R137, R138). -/
def grantDelete (t : Fin 8) (id : Nat) (s : State) : State :=
  let edition := (s.entry id).edition
  let sent := sendStore [.segmentDelete t id edition] (grantTag t .delete id edition (s.moveEntry id .deleting))
  let burst := sent.sweeper.burstCount + 1
  let w := { sent.sweeper with burstCount := burst }
  { sent with
    turn := .verifier
    sweeper := if s.params.sweepBurst ≤ burst then w.rest (s.after s.params.sweepRest) else w }

/-- The SWEEP_DONE report (R140). -/
def raiseSweepDone (s : State) : State :=
  let c := s.sweeper.counts
  raise .sweepDone s.clock.currentDay (countPair c.examined c.deleted) (countPair c.held c.busy)
    (countPair c.notYetExpired c.failed) s

/-- The sweeper after the end of a pass (R140 steps 3 and 4). A pass begun by another pass is RUNNING as R140 step 4 says,
even where a SET has lowered the burst size to the burst count or below, for which R136 speaks of RESTING: that R140 is
followed there is a DESIGN CHOICE, unsafe (log entry 41). -/
def nextPass (anyPaused : Bool) (w : Sweeper) : Sweeper :=
  if w.anotherPass then
    let fresh := { w with anotherPass := false, counts := {} }
    if anyPaused then fresh.enter .extendedRest else fresh
  else w.enter .idle

/-- The sweeper's cursor advances, and a pass ends past the last id (R137, R140). -/
def advanceSweep (s : State) : State :=
  if s.sweeper.cursor + 1 < Config.catalogEntries then
    { s with sweeper := { s.sweeper with cursor := s.sweeper.cursor + 1 } }
  else
    let reported := raiseSweepDone { s with sweeper := { s.sweeper with cursor := 0 } }
    { reported with sweeper := nextPass reported.anyPaused reported.sweeper }

/-- The sweeper examines its candidate at a grant (R126, R137). -/
def sweepExamine (t : Fin 8) (s : State) : State :=
  let id := s.sweeper.cursor
  let answer := sweepTest s (s.entry id)
  let counted := { s with sweeper := { s.sweeper with counts := s.sweeper.counts.addAnswer answer } }
  advanceSweep (if answer = .granted then grantDelete t id counted else counted)

/-! ### The verifier's examination (R165) -/

/-- The verifier presents a candidate: RUNNING and holding no READ tag (R125, R165). -/
def verifierWaits (s : State) : Bool :=
  decide (s.verifier.phase = .running) && decide (s.tagsHeld .read < Config.verifierTagLimit)

/-- What the verifier's examination of an entry answers, in the order of the tests (R165). -/
inductive VerifyAnswer where
  | busy
  | notStored
  | outOfScope
  | granted
  deriving DecidableEq, Repr

/-- The verify result of an entry. -/
def CatalogEntry.verifyResult (e : CatalogEntry) : VerifyResult := (e.figures.map Figures.verify).getD .none

/-- The verifier's tests of an entry (R165, R111). -/
def verifyTest (scope : VerifyScope) (e : CatalogEntry) : VerifyAnswer :=
  match e.state with
  | .verifying | .deleting => .busy
  | .free | .opened | .writing | .writeFailed | .deleteFailed => .notStored
  | .stored => if scope = .unverified ∧ e.verifyResult ≠ .none then .outOfScope else .granted

/-- The pass counts after an examination (R165). -/
def VerifyCounts.addAnswer (c : VerifyCounts) (a : VerifyAnswer) : VerifyCounts :=
  let x := { c with examined := satAdd max32 c.examined 1 }
  match a with
  | .busy => { x with busy := satAdd max32 x.busy 1 }
  | .notStored | .outOfScope | .granted => x

/-- The claim GRANTED to the verifier: the entry becomes VERIFYING, SEGMENT READ is sent, the read buffer is emptied and
the turn goes to the sweeper (R111, R125, R131, R165). -/
def grantRead (t : Fin 8) (id : Nat) (s : State) : State :=
  let edition := (s.entry id).edition
  let sent := sendStore [.segmentRead t id edition] (grantTag t .read id edition (s.moveEntry id .verifying))
  { sent with turn := .sweeper, verifier := { sent.verifier with readBuffer := [] } }

/-- The VERIFY_DONE report (R165). -/
def raiseVerifyDone (s : State) : State :=
  let c := s.verifier.counts
  raise .verifyDone s.clock.currentDay (countPair c.examined c.fullOk) (countPair c.checkOnly c.damaged)
    (countPair c.busy c.failed) s

/-- The verifier's cursor advances, and a pass ends past the last id (R165). -/
def advanceVerify (s : State) : State :=
  if s.verifier.cursor + 1 < Config.catalogEntries then
    { s with verifier := { s.verifier with cursor := s.verifier.cursor + 1 } }
  else
    let reported := raiseVerifyDone { s with verifier := { s.verifier with cursor := 0 } }
    { reported with verifier := reported.verifier.enter .idle }

/-- The verifier examines its candidate at a grant (R126, R165). -/
def verifyExamine (t : Fin 8) (s : State) : State :=
  let id := s.verifier.cursor
  let answer := verifyTest s.params.verifyScope (s.entry id)
  let counted := s.mapVerifyCounts (fun c => c.addAnswer answer)
  advanceVerify (if answer = .granted then grantRead t id counted else counted)

/-! ### The arbiter (R125, R126) -/

/-- One grant, where the Store link is UP, a tag is FREE and a requester waits (R125). -/
def grantOne (s : State) : Option State :=
  if !s.store.up then none
  else
    match s.freeTag with
    | none => none
    | some t =>
      match s.writeQueue with
      | id :: rest => some (sendWrite t id rest s)
      | [] =>
        match sweeperWaits s, verifierWaits s with
        | true, true => some (if s.turn = .sweeper then sweepExamine t s else verifyExamine t s)
        | true, false => some (sweepExamine t s)
        | false, true => some (verifyExamine t s)
        | false, false => none

/-- Grants follow one another while one can be made. -/
def grantMany : Nat → State → State
  | 0, s => s
  | n + 1, s =>
    match grantOne s with
    | none => s
    | some s' => grantMany n s'

/-- More grants than one event can hold: eight that send, and three walks of the catalog (the sweeper's pass and one
another pass, and the verifier's pass). -/
def grantBound : Nat := 3 * Config.catalogEntries + 16

/-- The arbiter grants again and again until no tag is FREE or no requester waits (R125). -/
def arbitrate (s : State) : State := grantMany grantBound s

/-! ### Outcomes of writes (R101 to R104) -/

/-- A write answered OK: the entry becomes STORED, its buffer FREE, and STORE_FULL is cleared (R102). -/
def writeStored (id : Nat) (s : State) : State :=
  if (s.entry id).state = .writing then
    let stored := (s.moveEntry id .stored).updateBufferOf id (fun _ => {})
    takeUpHeld (refreshStall { stored with storeFull := false })
  else s

/-- A failed write: an attempt is counted, and the entry is re-queued or becomes WRITE_FAILED (R103). -/
def writeFails (id : Nat) (cause : FailCause) (s : State) : State :=
  let e := s.entry id
  match e.state, e.opening, e.figures with
  | .writing, some o, some f =>
    let attempts := f.writeAttempts + 1
    let counted := { e with figures := some { f with writeAttempts := attempts } }
    if attempts < Config.attemptLimit then
      let kept := s.setEntry id counted
      { kept with writeQueue := kept.writeQueue ++ [id] }
    else
      raise .segWriteFailed (some id) e.edition cause.code o.key.day
        ((s.setEntry id { counted with state := .writeFailed }).updateBufferOf id (fun b => { b with state := .failed }))
  | _, _, _ => s

/-- A write answered FULL: a FULL wait starts, and the first of a run gives STORE_FULL (R104). -/
def writeFull (id : Nat) (s : State) : State :=
  let waiting := { s with fullWaits := s.fullWaits ++ [{ segmentId := id, expiry := s.after s.params.fullRetry }] }
  if s.storeFull then waiting
  else
    raise .storeFull (some id) (s.entry id).edition waiting.fullWaits.length (waiting.bufferCount .free)
      { waiting with storeFull := true }

/-! ### Outcomes of deletions (R113, R114, R143) -/

/-- The causes of a failed deletion, in the order of R114. -/
inductive DeleteFailure where
  | error
  | full
  | timeout
  deriving DecidableEq, Repr

/-- The code of the last failure in SEG_DELETE_FAILED (R114). -/
def DeleteFailure.code : DeleteFailure → Nat
  | .error => 0
  | .full => 1
  | .timeout => 2

/-- A deletion answered OK or NOT_FOUND frees the entry, which may end a stall (R113, R94). -/
def deleteDone (id : Nat) (s : State) : State :=
  if (s.entry id).state = .deleting then takeUpHeld (freeEntry id s) else s

/-- The sweeper counts a failed deletion (R143). -/
def countDeleteFailure (s : State) : State :=
  { s with sweeper := { s.sweeper with counts :=
      { s.sweeper.counts with failed := satAdd max32 s.sweeper.counts.failed 1 } } }

/-- A failed deletion: an attempt is counted, and the entry goes back to STORED or becomes DELETE_FAILED (R114, R143). -/
def deleteFails (id : Nat) (cause : DeleteFailure) (s : State) : State :=
  let e := s.entry id
  match e.state, e.figures with
  | .deleting, some f =>
    let attempts := f.deleteAttempts + 1
    let counted := { e with figures := some { f with deleteAttempts := attempts } }
    if attempts < Config.attemptLimit then countDeleteFailure (s.setEntry id { counted with state := .stored })
    else
      countDeleteFailure (raise .segDeleteFailed (some id) e.edition cause.code f.expiryDay
        (s.setEntry id { counted with state := .deleteFailed }))
  | _, _ => countDeleteFailure s

/-! ### Answers (R128 to R131) -/

/-- The read buffer emptied. -/
def clearReadBuffer (s : State) : State := { s with verifier := { s.verifier with readBuffer := [] } }

/-- A matched STORE ACK ends its operation (R129). -/
def ackOutcome (op : Outstanding) (status : AckStatus) (s : State) : State :=
  match op.operation, status with
  | .write, .ok => writeStored op.segmentId s
  | .write, .full => writeFull op.segmentId s
  | .write, .notFound | .write, .error => writeFails op.segmentId .error s
  | .delete, .ok | .delete, .notFound => deleteDone op.segmentId s
  | .delete, .full => deleteFails op.segmentId .full s
  | .delete, .error => deleteFails op.segmentId .error s
  | .read, .notFound => verificationResult op.segmentId { result := .damaged .missing } (clearReadBuffer s)
  | .read, .ok | .read, .full | .read, .error => verificationFails op.segmentId .error (clearReadBuffer s)

/-- Why a Store link frame is stray, in the order of R130. -/
inductive StrayCause where
  | tagFree
  | mismatch
  | wrongOperation
  deriving DecidableEq, Repr

/-- The code of a stray cause (R130). -/
def StrayCause.code : StrayCause → Nat
  | .tagFree => 0
  | .mismatch => 1
  | .wrongOperation => 2

/-- A stray Store link frame is counted and reported (R130). -/
def strayStore (subject : Option Nat) (t : Fin 8) (edition : Option Nat) (cause : StrayCause) (s : State) : State :=
  raise .strayAck subject t.val (optionValue edition) cause.code
    { s with strayFrames := satAdd max32 s.strayFrames 1 }

/-- A STORE ACK at the SLI (R129, R130). -/
def ackArrives (t : Fin 8) (id edition : Nat) (status : AckStatus) (s : State) : State :=
  match s.tag t with
  | none => strayStore (some id) t (some edition) .tagFree s
  | some op =>
    if op.segmentId = id ∧ op.edition = edition then ackOutcome op status (s.setTag t none)
    else strayStore (some id) t (some edition) .mismatch s

/-- The bytes of a READ DATA frame appended to the read buffer, up to 65,536 (R131 step 1). -/
def appendRead (t : Fin 8) (op : Outstanding) (bytes : List Byte) (s : State) : State :=
  let joined := s.verifier.readBuffer ++ bytes
  { s.setTag t (some { op with overlong := op.overlong || decide (Config.imageLimit < joined.length) }) with
    verifier := { s.verifier with readBuffer := joined.take Config.imageLimit } }

/-- The read ends: the tag becomes FREE and the verifier is handed the image (R131 step 2). -/
def finishRead (t : Fin 8) (s : State) : State :=
  match s.tag t with
  | none => s
  | some op => verifyImage op.segmentId s.verifier.readBuffer op.overlong (clearReadBuffer (s.setTag t none))

/-- A READ DATA frame at the SLI (R130, R131). -/
def dataArrives (t : Fin 8) (last : Bool) (bytes : List Byte) (s : State) : State :=
  match s.tag t with
  | none => strayStore none t none .tagFree s
  | some op =>
    match op.operation with
    | .read =>
      let appended := appendRead t op bytes s
      if last then finishRead t appended else appended
    | .write | .delete => strayStore (some op.segmentId) t none .wrongOperation s

/-- The failure of an operation whose tag expires (R128). -/
def timeoutOutcome (op : Outstanding) (s : State) : State :=
  match op.operation with
  | .write => writeFails op.segmentId .timeout s
  | .delete => deleteFails op.segmentId .timeout s
  | .read => verificationFails op.segmentId .timeout (clearReadBuffer s)

/-- The expiry of a tag (R128). A tag that is FREE, or whose expiry time is not reached, does nothing. -/
def tagExpires (t : Fin 8) (s : State) : State :=
  match s.tag t with
  | none => s
  | some op => if s.reached op.expiry then timeoutOutcome op (s.setTag t none) else s

/-- The end of a FULL wait (R104): the entry joins the tail of the write queue. -/
def fullWaitEnds (id : Nat) (s : State) : State :=
  match s.fullWaits.find? (fun w => decide (w.segmentId = id)) with
  | none => s
  | some w =>
    if s.reached w.expiry then
      { s with
        fullWaits := s.fullWaits.filter (fun x => decide (x.segmentId ≠ id))
        writeQueue := s.writeQueue ++ [id] }
    else s

/-- The seal deadline of an open segment is reached (R96). -/
def sealDeadline (id : Nat) (s : State) : State :=
  match s.openSegments.find? (fun g => decide (g.segmentId = id)) with
  | none => s
  | some g => if s.reached g.deadline then sealSegment g s else s

end Sys2Proof.Machine
end

