-- ==== Sys2Proof/Machine/Links.lean ====
section
/-! DEFINITION. Chapter 12, the two ports: good, check-failed and malformed frames (R182), the link states and what their
changes hand on (R183, R27, R36, R132), and LINK KEEP. -/

namespace Sys2Proof.Machine

/-- The LINK_FD output: the Feed link is UP (R183). -/
def State.linkFd (s : State) : Bool := s.feed.up

/-- The LINK_ST output: the Store link is UP (R183). -/
def State.linkSt (s : State) : Bool := s.store.up

/-- LANE PAUSE sent for a lane that is in the paused set (R27). -/
def sendPauseOf (s : State) (l : Fin 16) : State := if (s.lane l).paused then sendFeed (.lanePause l) s else s

/-- LANE PAUSE sent for each paused lane, in ascending lane number (R27). -/
def sendPauses (s : State) : State := (List.finRange 16).foldl sendPauseOf s

/-- What a link's coming UP hands on (R183): Feed, LANE PAUSE for each paused lane, then the bundles due; Store, the
arbiter grants to whatever waits. -/
def linkComesUp (p : PortId) (s : State) : State :=
  match p with
  | .feed => flushReports (sendPauses s)
  | .store => arbitrate s

/-- A port after a good frame: counted, and UP when its receiver is locked (R182 step 3, R183). -/
def Port.afterGood (x : Port) (now : Nat) : Port :=
  { x with good := satAdd max32 x.good 1, lastGood := now, up := x.up || x.locked }

/-- A good frame is received on a port (R182 step 3): it is counted, and it brings a DOWN link UP while the port's
receiver is locked (R183). What the frame carries is handed on after this. -/
def receiveGood (p : PortId) (s : State) : State :=
  let x := s.port p
  let counted := s.setPort p (x.afterGood s.runTime)
  if !x.up && x.locked then linkComesUp p counted else counted

/-- A frame of no good check is counted and discarded (R182 step 1). -/
def countCheckFailed (p : PortId) (s : State) : State :=
  let x := s.port p
  s.setPort p { x with checkFailed := satAdd max32 x.checkFailed 1 }

/-- A malformed frame is counted and discarded (R182 step 2). -/
def countMalformed (p : PortId) (s : State) : State :=
  let x := s.port p
  s.setPort p { x with malformed := satAdd max32 x.malformed 1 }

/-- What an event leaves due at its end: the arbiter's grants, then the bundles (R125, R181; log entry 3). -/
def settle (s : State) : State := flushReports (arbitrate s)

/-- What a link's loss hands on (R183): Feed, the OPEN lanes drain (R36); Store, nothing, since tags and queues are kept
(R132). -/
def linkGoesDown (p : PortId) (s : State) : State :=
  match p with
  | .feed => settle (feedLossAtLanes s)
  | .store => s

/-- The loss of an UP link is due: its receiver lost lock, or 50 ms have passed without a good frame (R183). -/
def lossIsDue (cause : LossCause) (s : State) (p : PortId) : Bool :=
  match cause with
  | .lockLost => true
  | .silence => decide (Config.linkSilenceLimit ≤ s.since (s.port p).lastGood)

/-- The receiver after a link loss: no longer locked when lock was lost (R183). -/
def lockedAfter (cause : LossCause) (locked : Bool) : Bool :=
  match cause with
  | .lockLost => false
  | .silence => locked

/-- An UP link goes DOWN (R183). A loss that is not due, or of a DOWN link, changes nothing (log entry 6). -/
def loseLink (cause : LossCause) (p : PortId) (s : State) : State :=
  let x := s.port p
  if x.up && lossIsDue cause s p then
    linkGoesDown p (s.setPort p { x with up := false, locked := lockedAfter cause x.locked })
  else s

/-- The frame that brings a DOWN link UP, when the frame has no content of its own (R183; log entry 4). The grants made on
the Store link may end a pass, whose report is then due. -/
def raiseLink (p : PortId) (s : State) : State :=
  let x := s.port p
  if !x.up && x.locked then flushReports (receiveGood p s) else s

/-- The receiver of a port loses lock (R183): an UP link is lost with it. -/
def loseLock (p : PortId) (s : State) : State :=
  let x := s.port p
  if x.up then loseLink .lockLost p s else s.setPort p { x with locked := false }

/-- A LINK KEEP put on a link, in either link state (R183). -/
def sendKeep (p : PortId) (s : State) : State :=
  match p with
  | .feed => { s with feedTx := s.feedTx ++ [.linkKeep], feed := { s.feed with lastSent := s.runTime } }
  | .store => { s with storeTx := s.storeTx ++ [.linkKeep], store := { s.store with lastSent := s.runTime } }

/-- LINK KEEP is sent when a locked port has sent nothing for 10 ms (R183). -/
def keepLink (p : PortId) (s : State) : State :=
  if (s.port p).locked && decide (Config.linkKeepInterval ≤ s.since (s.port p).lastSent) then sendKeep p s else s

end Sys2Proof.Machine
end

