-- ==== Sys2Proof/Machine/Operands.lean ====
section
/-! DEFINITION. The operands of control requests: request codes (section 12.6), the form test (R170 test 1), the ranges of
CATALOG_LOAD entries (R118, section 12.8), the clamping of parameters (R174) and the words that stand for "none". -/

namespace Sys2Proof.Machine

/-- The request code (section 12.6). -/
def requestCode : Request → Nat
  | .start _ => 0x01
  | .catalogLoad _ => 0x02
  | .tableBegin _ _ => 0x10
  | .tableWrite _ _ _ => 0x11
  | .tableEnd _ _ _ => 0x12
  | .tableSelect _ _ => 0x13
  | .tableCancel => 0x14
  | .dayClose => 0x20
  | .holdAdd _ _ _ _ => 0x30
  | .holdRelease _ => 0x31
  | .sweepStart _ => 0x40
  | .sweepStop => 0x41
  | .verifyStart _ => 0x48
  | .verifyStop => 0x49
  | .segmentRetry _ _ => 0x50
  | .segmentDiscard _ _ => 0x51
  | .set _ _ => 0x60
  | .query _ => 0x70
  | .unknown code _ => code

/-- The request code of RESET (section 12.6). -/
def resetCode : Nat := 0x7F

/-- The form test (R170 test 1, R184). An unknown request name, QUERY kind or SET parameter, a table above 3 and a wrong
payload length arrive as `unknown`. -/
def formOk : Request → Bool
  | .catalogLoad entries => decide (1 ≤ entries.length) && decide (entries.length ≤ 8)
  | .tableBegin bank force => decide (bank ≤ 3) && decide (force ≤ 1)
  | .tableWrite bank _ entries => decide (bank ≤ 3) && decide (1 ≤ entryCount entries) && decide (entryCount entries ≤ 64)
  | .tableEnd bank supplied _ => decide (bank ≤ 3) && decide (supplied ≤ 1)
  | .tableSelect bank mode => decide (bank ≤ 3) && decide (mode ≤ 1)
  | .sweepStart mode => decide (mode ≤ 1)
  | .verifyStart mode => decide (mode ≤ 1)
  | .unknown _ _ => false
  | .start _ | .tableCancel | .dayClose | .holdAdd _ _ _ _ | .holdRelease _ | .sweepStop | .verifyStop
  | .segmentRetry _ _ | .segmentDiscard _ _ | .set _ _ | .query _ => true

/-- The requests allowed in each device state (R171). -/
def allowedIn (d : DeviceState) : Request → Bool
  | .start _ | .catalogLoad _ => decide (d = .starting)
  | .tableBegin _ _ | .tableWrite _ _ _ | .tableEnd _ _ _ | .tableSelect _ _ | .tableCancel | .set _ _ | .query _ => true
  | .dayClose | .holdAdd _ _ _ _ | .holdRelease _ | .sweepStart _ | .sweepStop | .verifyStart _ | .verifyStop
  | .segmentRetry _ _ | .segmentDiscard _ _ => decide (d = .running)
  | .unknown _ _ => false

/-- The bank that a bank byte of 0..3 names. -/
def bankOf (bank : Nat) : Fin 4 := Fin.ofNat 4 bank

/-- The generation that a TABLE_END supplies, if it supplies one (R49). -/
def suppliedOf (supplied generation : Nat) : Option Nat := if supplied = 1 then some generation else none

/-- The mode that a TABLE_SELECT's mode byte names (section 12.6). -/
def selectModeOf (mode : Nat) : SelectMode := if mode = 0 then .nextFile else .dayClose

/-- The switch that a HOLD_ADD's switch word names; H'FFFF is ANY (section 12.6). -/
def holdSwitchOf (word : Nat) : Option Nat := if word = 0xFFFF then none else some word

/-- A switch word outside 0..511 that does not stand for "none" (R144, R162). -/
def badSwitchWord (word : Nat) : Bool := decide (511 < word) && decide (word ≠ 0xFFFF)

/-- The selector of a HOLD_ADD. -/
def holdSelectorOf (switchWord firstDay lastDay classSet : Nat) : HoldSelector where
  switch := holdSwitchOf switchWord
  firstDay := firstDay
  lastDay := lastDay
  classes := BitVec.ofNat 8 classSet

/-- Test 1 of HOLD_ADD (R144). -/
def badHold (switchWord firstDay lastDay classSet : Nat) : Bool :=
  decide (lastDay < firstDay) || decide (Config.lastDay < firstDay) || decide (Config.lastDay < lastDay)
    || badSwitchWord switchWord || decide (BitVec.ofNat 8 classSet = 0#8)

/-! ### CATALOG_LOAD (R118) -/

/-- The verify result and reason codes of an entry, where they stand for a result (section 12.8). -/
def loadedVerify (code reason : Nat) : Option VerifyResult :=
  match code, reason with
  | 0, 0 => some .none
  | 1, 0 => some .fullOk
  | 2, 0 => some .checkOnlyOk
  | 3, 1 => some (.damaged .check)
  | 3, 2 => some (.damaged .count)
  | 3, 3 => some (.damaged .duration)
  | 3, 4 => some (.damaged .header)
  | 3, 5 => some (.damaged .decode)
  | 3, 6 => some (.damaged .missing)
  | _, _ => none

/-- A loaded entry with a field outside its range in R108, an empty switch set or a switch id above 511 (R118 test 2). -/
def badLoadEntry (e : LoadEntry) : Bool :=
  decide (Config.catalogEntries ≤ e.segmentId) || decide (255 < e.edition) || decide (7 < e.cls)
    || decide (Config.lastDay < e.day) || decide (3 < e.bank) || decide (e.generation < 1) || decide (max32 < e.generation)
    || decide (e.recordCount < 1) || decide (Config.segmentRecordLimit < e.recordCount)
    || decide (e.bodyLength < 6) || decide (Config.segmentBodyLimit < e.bodyLength)
    || decide (max32 < e.checkValue) || decide (max32 < e.durationSum) || decide (max32 < e.firstStart)
    || decide (max32 < e.lastStart) || decide (Config.lastDay < e.expiryDay)
    || (loadedVerify e.verifyCode e.reasonCode).isNone
    || e.switches.isEmpty || e.switches.any (fun w => decide (511 < w))

/-- The position, from 1, of the first entry outside its ranges (R118 test 2). -/
def firstBadEntry (entries : List LoadEntry) : Option Nat := (entries.findIdx? badLoadEntry).map (· + 1)

/-- The position, from `position`, of the first entry whose id is taken: not FREE, or named before (R118 test 3). -/
def firstTakenFrom (catalog : NMap CatalogEntry) : Nat → List Nat → List LoadEntry → Option Nat
  | _, _, [] => none
  | position, seen, e :: rest =>
    if (NMap.read {} catalog e.segmentId).state ≠ .free ∨ e.segmentId ∈ seen then some position
    else firstTakenFrom catalog (position + 1) (e.segmentId :: seen) rest

/-- The position, from 1, of the first entry of a CATALOG_LOAD whose id is taken (R118 test 3). -/
def firstTaken (catalog : NMap CatalogEntry) (entries : List LoadEntry) : Option Nat := firstTakenFrom catalog 1 [] entries

/-- The switch set of a loaded entry, in ascending order. -/
def switchSetOf (switches : List Nat) : List Nat := switches.foldl (fun set w => insertMember w set) []

/-- The catalog entry that a loaded entry becomes (R118). -/
def loadedEntry (e : LoadEntry) : CatalogEntry where
  edition := e.edition
  state := .stored
  opening := some { key := { cls := e.cls, day := e.day, bank := bankOf e.bank, generation := e.generation }, late := e.late }
  figures := some {
    recordCount := e.recordCount
    bodyLength := e.bodyLength
    checkValue := e.checkValue
    durationSum := e.durationSum
    firstStart := e.firstStart
    lastStart := e.lastStart
    switches := switchSetOf e.switches
    expiryDay := e.expiryDay
    verify := (loadedVerify e.verifyCode e.reasonCode).getD .none }

/-! ### Parameters (R174) -/

/-- The range of a parameter (R174). -/
def paramRange : Param → Nat × Nat
  | .reportHoldoff => (0, 255)
  | .lateWindow => (0, 7)
  | .sealTimeout => (10, 3600)
  | .storeTimeout => (100, 10000)
  | .fullRetry => (100, 60000)
  | .sweepBurst => (1, 64)
  | .sweepRest => (1, 10000)
  | .autoSweep => (0, 1)
  | .verifyRest => (1, 10000)
  | .verifyScope => (0, 1)

/-- The value taken: one below the range is taken as its lowest value, one above it as its highest (R174). -/
def takenValue (p : Param) (value : Nat) : Nat := max (paramRange p).1 (min (paramRange p).2 value)

end Sys2Proof.Machine
end

