-- ==== Sys2Proof/Machine/Views.lean ====
section
/-! DEFINITION. What the queries return (R175, R39, R60, R121, R151, R162): readings of the state, which change nothing. -/

namespace Sys2Proof.Machine

/-- What QUERY BANKS returns of a bank (R60). -/
def bankView (b : Bank) : BankView where
  state := b.state
  generation := b.generation
  boundFiles := b.boundFiles
  references := b.references
  lastTable := b.lastTable
  writeIndex := b.writeIndex

/-- What QUERY STATUS returns (R175); its holdoff state is read as the timer and the due indication (log entry 38). -/
def statusView (s : State) : StatusView where
  device := s.device
  runTime := s.runTime
  clock := s.clock
  controlLength := s.control.length
  reportLength := s.reports.entries.length
  reportsLost := s.reports.lost
  holdoffTimer := s.reports.timer
  holdoffDue := s.reports.due
  feed := s.feed
  store := s.store
  openSegments := s.openSegments.length
  buffersFree := s.bufferCount .free
  buffersFilling := s.bufferCount .filling
  buffersSealed := s.bufferCount .sealed
  buffersFailed := s.bufferCount .failed
  stall := s.stall
  catalogFull := s.catalogFull
  storeFull := s.storeFull
  writeQueueLength := s.writeQueue.length
  writesOutstanding := s.tagsHeld .write
  fullWaits := s.fullWaits.length
  freeIds := s.freeIds.length
  tags := s.tags.toList
  strayFrames := s.strayFrames
  sweeper := s.sweeper
  autoSweep := s.params.autoSweep
  verifierPhase := s.verifier.phase
  verifierCursor := s.verifier.cursor
  verifierCounts := s.verifier.counts
  verifyScope := s.params.verifyScope
  verifyRest := s.params.verifyRest

/-- Hold Table entries in use, by hold id (R151). -/
def holdsInUse (s : State) : List (Nat × Hold) := (List.finRange 64).filterMap (fun i => (s.hold i).map (fun h => (i.val, h)))

/-- QUERY LANE (R175, R39). -/
def laneAnswer (lane : Nat) (s : State) : ResponseCode × Results :=
  if h : lane < 16 then (.done, .lane (s.lane ⟨lane, h⟩)) else (.badRequest, .none)

/-- The Recent Files entry at a position counted from the newest (R39). -/
def recentAt (recent : List RecentEntry) (position : Nat) : Option RecentEntry := recent.reverse[position]?

/-- QUERY RECENT (R175, R39). -/
def recentAnswer (position : Nat) (s : State) : ResponseCode × Results :=
  if 63 < position then (.badRequest, .none)
  else
    match recentAt s.recent position with
    | none => (.notFound, .none)
    | some e => (.done, .recent e)

/-- QUERY BANKS (R60). -/
def banksResult (s : State) : Results :=
  .banks s.activeBank s.selection s.loadCounter (s.banks.toList.map bankView)

/-- QUERY CATALOG (R121). -/
def catalogAnswer (segmentId : Nat) (s : State) : ResponseCode × Results :=
  if Config.catalogEntries ≤ segmentId then (.badRequest, .none)
  else (.done, .catalog segmentId (s.entry segmentId) s.stateCounts.toList s.freeIds.length)

/-- The row of a switch on a day, when one is named (R162). -/
def rowOf (d : DayRecord) (switchWord : Nat) : Option (Option SwitchRow) :=
  if switchWord = 0xFFFF then none else some (NMap.find? d.rows switchWord)

/-- What QUERY DAY returns of a day record (R162). -/
def dayView (d : DayRecord) (switchWord : Nat) (unplaced : Totals) : DayView where
  state := d.state
  amendments := d.amendments
  totals := d.totals
  rowCount := d.rows.length
  exceptions := d.exceptions
  row := rowOf d switchWord
  unplaced := unplaced

/-- QUERY DAY (R162). -/
def dayAnswer (day switchWord : Nat) (s : State) : ResponseCode × Results :=
  if 511 < switchWord ∧ switchWord ≠ 0xFFFF then (.badRequest, .none)
  else
    match s.dayRecord day with
    | none => (.notFound, .none)
    | some d => (.done, .day (dayView d switchWord s.unplaced))

/-- The answer to a QUERY (R175). -/
def queryAnswer (q : Query) (s : State) : ResponseCode × Results :=
  match q with
  | .ident => (.done, .ident s.device s.runTime)
  | .status => (.done, .status (statusView s))
  | .lane lane => laneAnswer lane s
  | .recent position => recentAnswer position s
  | .banks => (.done, banksResult s)
  | .catalog segmentId => catalogAnswer segmentId s
  | .day day switchWord => dayAnswer day switchWord s
  | .holds => (.done, .holds (holdsInUse s) s.pendingHolds)
  | .params => (.done, .params s.params s.clock.lateWindow s.clock.pendingLate)

end Sys2Proof.Machine
end

