-- ==== Sys2Proof/Machine/Control.lean ====
section
/-! DEFINITION. The control queue (R169), the tests of a request taken at its head (R170), what each request does, and the
resets (R176, R177). The bodies cite the owning rules; each `take…` gives its own response. -/

namespace Sys2Proof.Machine

/-! ### Responses -/

/-- A response without results. -/
def answer (tag : Nat) (r : Request) (code : ResponseCode) (s : State) : State := respond tag (requestCode r) code .none s

/-! ### START and CATALOG_LOAD -/

/-- START's own test (R11, R119). -/
def startRefusal (day : Nat) : Option ResponseCode := if Config.lastCurrentDay < day then some .badRequest else none

/-- The reference count that the START computation finds for a bank (R119, R120): none for a bank without a generation. -/
def countedBank (catalog : NMap CatalogEntry) (i : Fin 4) (b : Bank) : Bank :=
  { b with references := match b.generation with
      | none => 0
      | some g => if b.holdsGeneration g then carriers catalog i g else 0 }

/-- The banks with the reference counts found by the START computation (R120 step 2). -/
def countBanks (s : State) : State :=
  (List.finRange 4).foldl (fun x i => x.setBank i (countedBank s.catalog i (x.bank i))) s

/-- The completion of the START computation, steps 1 to 5 of R120, with the Day Table made (R154). -/
def completeStart (day : Nat) (s : State) : State :=
  let counted := countBanks { s with freeIds := freeIdList s.catalog }
  let clock := s.clock.setDay day
  { counted with
    loadCounter := max s.loadCounter (largestGeneration s.catalog)
    clock := clock
    days := startDays clock
    device := .running }

/-- The entries of an accepted CATALOG_LOAD written at their ids (R118). -/
def loadEntries (entries : List LoadEntry) (s : State) : State :=
  entries.foldl (fun x e => x.setEntry e.segmentId (loadedEntry e)) s

/-- CATALOG_LOAD (R118). -/
def takeCatalogLoad (tag : Nat) (entries : List LoadEntry) (s : State) : State :=
  let code := requestCode (.catalogLoad entries)
  match firstBadEntry entries with
  | some position => respond tag code .badRequest (.position position) s
  | none =>
    match firstTaken s.catalog entries with
    | some position => respond tag code .inUse (.position position) s
    | none => respond tag code .done .none (loadEntries entries s)

/-! ### The table banks (R46 to R56) -/

/-- Why a TABLE_BEGIN is refused (R46). -/
def beginRefusal (b : Bank) (force : Nat) : Option ResponseCode :=
  match b.state with
  | .active | .draining => some .badState
  | .ready => if 0 < b.references ∧ force = 0 then some .inUse else none
  | .empty | .loading => none

/-- A pending selection that names a bank is cancelled (R46). -/
def cancelSelectionOf (b : Fin 4) (sel : Option Selection) : Option Selection :=
  match sel with
  | none => none
  | some x => if x.bank = b then none else some x

/-- TABLE_BEGIN (R46). -/
def takeTableBegin (tag bank force : Nat) (s : State) : State :=
  let b := bankOf bank
  let r := Request.tableBegin bank force
  match beginRefusal (s.bank b) force with
  | some code => answer tag r code s
  | none =>
    answer tag r .done ({ s with selection := cancelSelectionOf b s.selection }.setBank b (clearedBank (s.bank b)))

/-- TABLE_WRITE (R47, R48). -/
def takeTableWrite (tag bank : Nat) (startIndex : Option Nat) (entries : TableEntries) (s : State) : State :=
  let b := bankOf bank
  let code := requestCode (.tableWrite bank startIndex entries)
  let start := (s.bank b).startOf startIndex (tableOf entries)
  if (s.bank b).state ≠ .loading then respond tag code .badState .none s
  else if outsideTable (tableOf entries) start (entryCount entries) then respond tag code .badRequest .none s
  else
    match firstBad entries with
    | some k => respond tag code .badRequest (.index (start + k)) s
    | none =>
      respond tag code .done (.index (start + entryCount entries)) (s.setBank b ((s.bank b).written start entries))

/-- The tests of a TABLE_END, in order (R49). -/
def endRefusal (b : Fin 4) (supplied : Option Nat) (s : State) : Option ResponseCode :=
  if (s.bank b).state ≠ .loading then some .badState
  else
    match supplied with
    | some g =>
      if s.device = .running then some .badRequest
      else if g = 0 then some .badRequest
      else if heldElsewhere s b g then some .inUse
      else none
    | none => if s.loadCounter = max32 then some .badState else none

/-- The completion of a validation (R50, R51), with its response. -/
def completeValidation (tag bank supplied generation : Nat) (s : State) : State :=
  let b := bankOf bank
  let code := requestCode (.tableEnd bank supplied generation)
  match duplicateIndex (s.bank b).dictionary [] with
  | some j => respond tag code .badRequest (.index j) s
  | none =>
    let ready := finishLoad b (suppliedOf supplied generation) s
    respond tag code .done (.bankReady b.val ((ready.bank b).generation.getD 0)) ready

/-- TABLE_SELECT (R53). -/
def takeTableSelect (tag bank mode : Nat) (s : State) : State :=
  let b := bankOf bank
  let r := Request.tableSelect bank mode
  match (s.bank b).state with
  | .active => answer tag r .done { s with selection := none }
  | .empty | .loading | .draining => answer tag r .badState s
  | .ready =>
    answer tag r .done
      (if s.activeBank.isNone then selectBank b .immediate s
       else { s with selection := some { bank := b, mode := selectModeOf mode } })

/-- TABLE_CANCEL (R56). -/
def takeTableCancel (tag : Nat) (s : State) : State :=
  match s.selection with
  | none => answer tag .tableCancel .notFound s
  | some _ => answer tag .tableCancel .done { s with selection := none }

/-! ### DAY_CLOSE (R13) -/

/-- The parts of a taken DAY_CLOSE after the advance, in the order of R13's table: Table Banks, Segment Encoder (R97),
Expiry Sweeper with the grants that follow (R141), Day Table (R160). -/
def closeParts (closed : Nat) (s : State) : State :=
  let selected := takeSelection .dayClose .dayClose s
  let sealed := sealWhere (fun g => decide (g.key.day < closed + 1)) selected
  closeDayTable closed (arbitrate (autoSweep sealed))

/-- DAY_CLOSE (R13). While the Day Clock is unset there is no day to close. -/
def takeDayClose (tag : Nat) (s : State) : State :=
  match s.clock.currentDay with
  | none => answer tag .dayClose .badState s
  | some c =>
    if c < Config.lastCurrentDay then
      closeParts c (answer tag .dayClose .done { s with clock := s.clock.setDay (c + 1) })
    else answer tag .dayClose .badState s

/-! ### Holds (R144 to R146) -/

/-- HOLD_ADD (R144, R145). -/
def takeHoldAdd (tag switchWord firstDay lastDay classSet : Nat) (s : State) : State :=
  let code := requestCode (.holdAdd switchWord firstDay lastDay classSet)
  let sel := holdSelectorOf switchWord firstDay lastDay classSet
  if badHold switchWord firstDay lastDay classSet then respond tag code .badRequest .none s
  else
    match s.freeHold with
    | none => respond tag code .noRoom .none s
    | some h =>
      reportMissed h sel
        (respond tag code .done (.holdId h.val) (s.setHold h (some { kind := .legal, selector := sel })))

/-- HOLD_RELEASE (R146). The end of a suspension lets the sweeper present its candidate (R149). -/
def takeHoldRelease (tag holdId : Nat) (s : State) : State :=
  let r := Request.holdRelease holdId
  if h : holdId < 64 then
    if (s.hold ⟨holdId, h⟩).isNone then answer tag r .notFound s
    else arbitrate (answer tag r .done (releaseHold ⟨holdId, h⟩ s))
  else answer tag r .badRequest s

/-! ### The walkers (R136, R142, R164) -/

/-- SWEEP_START (R136): 0 restart, 1 resume. -/
def takeSweepStart (tag mode : Nat) (s : State) : State :=
  arbitrate (answer tag (.sweepStart mode) .done (if mode = 0 then restartSweep s else resumeSweep s))

/-- SWEEP_STOP (R142). -/
def takeSweepStop (tag : Nat) (s : State) : State := answer tag .sweepStop .done (stopSweep s)

/-- VERIFY_START (R164): 0 restart, 1 resume. -/
def takeVerifyStart (tag mode : Nat) (s : State) : State :=
  arbitrate (answer tag (.verifyStart mode) .done (if mode = 0 then restartVerify s else resumeVerify s))

/-- VERIFY_STOP (R164). -/
def takeVerifyStop (tag : Nat) (s : State) : State := answer tag .verifyStop .done (stopVerify s)

/-! ### Failed segments (R106, R107, R116) -/

/-- What SEGMENT_RETRY and SEGMENT_DISCARD find, in the order of section 6.8's tests. -/
inductive Named where
  | badId
  | otherEdition
  | writeFailed (e : CatalogEntry)
  | deleteFailed (e : CatalogEntry)
  | otherState

/-- The tests that SEGMENT_RETRY and SEGMENT_DISCARD share (section 6.8). -/
def findNamed (segmentId edition : Nat) (s : State) : Named :=
  let e := s.entry segmentId
  if Config.catalogEntries ≤ segmentId then .badId
  else if e.edition ≠ edition then .otherEdition
  else
    match e.state with
    | .writeFailed => .writeFailed e
    | .deleteFailed => .deleteFailed e
    | .free | .opened | .writing | .stored | .verifying | .deleting => .otherState

/-- A WRITE_FAILED entry goes back to the write queue (R106). -/
def retryWrite (id : Nat) (e : CatalogEntry) (s : State) : State :=
  let moved := s.setEntry id { e.mapFigures (fun f => { f with writeAttempts := 0 }) with state := .writing }
  let kept := moved.updateBufferOf id (fun b => { b with state := .sealed })
  { kept with writeQueue := kept.writeQueue ++ [id] }

/-- A DELETE_FAILED entry goes back to STORED (R116). -/
def retryDelete (id : Nat) (e : CatalogEntry) (s : State) : State :=
  s.setEntry id { e.mapFigures (fun f => { f with deleteAttempts := 0 }) with state := .stored }

/-- SEGMENT_RETRY (R106, R116). -/
def takeSegmentRetry (tag segmentId edition : Nat) (s : State) : State :=
  let r := Request.segmentRetry segmentId edition
  match findNamed segmentId edition s with
  | .badId => answer tag r .badRequest s
  | .otherEdition => answer tag r .notFound s
  | .otherState => answer tag r .badState s
  | .writeFailed e => arbitrate (answer tag r .done (retryWrite segmentId e s))
  | .deleteFailed e => answer tag r .done (retryDelete segmentId e s)

/-- The discarded segment's buffer becomes FREE and its entry is freed (R107 steps 1 and 2). -/
def discardSegment (id : Nat) (s : State) : State := freeEntry id (s.updateBufferOf id (fun _ => {}))

/-- SEGMENT_DISCARD (R107, R116): the freed id and buffer may end a stall, and the encoder then takes up the held record. -/
def takeSegmentDiscard (tag segmentId edition : Nat) (s : State) : State :=
  let r := Request.segmentDiscard segmentId edition
  match findNamed segmentId edition s with
  | .badId => answer tag r .badRequest s
  | .otherEdition => answer tag r .notFound s
  | .otherState | .deleteFailed _ => answer tag r .badState s
  | .writeFailed _ => arbitrate (takeUpHeld (answer tag r .done (discardSegment segmentId s)))

/-! ### SET (R174) -/

/-- A parameter set to a value of its range (R174). -/
def setParam (p : Param) (v : Nat) (s : State) : State :=
  match p with
  | .reportHoldoff => restartHoldoff v s
  | .lateWindow => { s with clock := { s.clock with pendingLate := some v } }
  | .sealTimeout => { s with params := { s.params with sealTimeoutMs := 1000 * v } }
  | .storeTimeout => { s with params := { s.params with storeTimeout := v } }
  | .fullRetry => { s with params := { s.params with fullRetry := v } }
  | .sweepBurst => { s with params := { s.params with sweepBurst := v } }
  | .sweepRest => { s with params := { s.params with sweepRest := v } }
  | .autoSweep => { s with params := { s.params with autoSweep := decide (v = 1) } }
  | .verifyRest => { s with params := { s.params with verifyRest := v } }
  | .verifyScope => { s with params := { s.params with verifyScope := if v = 1 then .all else .unverified } }

/-- SET (R174): the value taken is given in the response. -/
def takeSet (tag : Nat) (p : Param) (value : Nat) (s : State) : State :=
  respond tag (requestCode (.set p value)) .done (.valueTaken (takenValue p value)) (setParam p (takenValue p value) s)

/-- QUERY (R175). -/
def takeQuery (tag : Nat) (q : Query) (s : State) : State :=
  respond tag (requestCode (.query q)) (queryAnswer q s).1 (queryAnswer q s).2 s

/-! ### The queue (R169, R170) -/

/-- A request that passes tests 1 and 2 of R170 is tested by its own tests and carried out. A START or TABLE_END that
passes them takes time: its effect comes at its completion, and nothing happens here. -/
def carryOut (tag : Nat) (r : Request) (s : State) : State :=
  match r with
  | .start day => match startRefusal day with
    | some code => answer tag r code s
    | none => s
  | .catalogLoad entries => takeCatalogLoad tag entries s
  | .tableBegin bank force => takeTableBegin tag bank force s
  | .tableWrite bank startIndex entries => takeTableWrite tag bank startIndex entries s
  | .tableEnd bank supplied generation => match endRefusal (bankOf bank) (suppliedOf supplied generation) s with
    | some code => answer tag r code s
    | none => s
  | .tableSelect bank mode => takeTableSelect tag bank mode s
  | .tableCancel => takeTableCancel tag s
  | .dayClose => takeDayClose tag s
  | .holdAdd switchWord firstDay lastDay classSet => takeHoldAdd tag switchWord firstDay lastDay classSet s
  | .holdRelease holdId => takeHoldRelease tag holdId s
  | .sweepStart mode => takeSweepStart tag mode s
  | .sweepStop => takeSweepStop tag s
  | .verifyStart mode => takeVerifyStart tag mode s
  | .verifyStop => takeVerifyStop tag s
  | .segmentRetry segmentId edition => takeSegmentRetry tag segmentId edition s
  | .segmentDiscard segmentId edition => takeSegmentDiscard tag segmentId edition s
  | .set parameter value => takeSet tag parameter value s
  | .query kind => takeQuery tag kind s
  | .unknown _ _ => answer tag r .badRequest s

/-- The request taken at the head (R170). -/
def takeRequest (q : QueuedRequest) (s : State) : State :=
  if !formOk q.request then answer q.tag q.request .badRequest s
  else if !allowedIn s.device q.request then answer q.tag q.request .badState s
  else carryOut q.tag q.request s

/-- A request that passes its tests and takes time holds the head (R169): TABLE_END (R49) and START (R119). -/
def holdsHead (r : Request) (s : State) : Bool :=
  formOk r && allowedIn s.device r
    && (match r with
        | .start day => (startRefusal day).isNone
        | .tableEnd bank supplied generation => (endRefusal (bankOf bank) (suppliedOf supplied generation) s).isNone
        | _ => false)

/-- The requests of the queue are taken in turn, each leaving the queue when it has its response, until one holds the head
(R169). -/
def runQueue : Nat → State → State
  | 0, s => s
  | n + 1, s =>
    match s.control with
    | [] => s
    | q :: _ =>
      if holdsHead q.request s then s
      else
        let taken := takeRequest q s
        runQueue n { taken with control := taken.control.drop 1 }

/-- The queue run from its head. -/
def takeTurns (s : State) : State := runQueue s.control.length s

/-- The arrival of a control request that enters the queue (R169). -/
def controlArrives (q : QueuedRequest) (s : State) : State :=
  if s.control.length < Config.controlQueueLimit then
    let queued := { s with control := s.control ++ [q] }
    if s.control.isEmpty then takeTurns queued else queued
  else respond q.tag (requestCode q.request) .refusedBusy .none s

/-- A CONTROL REQUEST frame, from its receipt to the bundles due (R182, R169, R181). -/
def controlFrame (tag : Nat) (r : Request) (s : State) : State :=
  flushReports (controlArrives { tag, request := r } (receiveGood .feed s))

/-- The completion of the validation of the TABLE_END at the head (R50, R169). -/
def validationEnds (s : State) : State :=
  match s.control with
  | [] => s
  | q :: rest =>
    match q.request with
    | .tableEnd bank supplied generation =>
      takeTurns { completeValidation q.tag bank supplied generation s with control := rest }
    | _ => s

/-- The completion of the computation of the START at the head (R120, R169). -/
def startEnds (s : State) : State :=
  match s.control with
  | [] => s
  | q :: rest =>
    match q.request with
    | .start day => takeTurns { answer q.tag q.request .done (completeStart day s) with control := rest }
    | _ => s

/-! ### Resets (R176, R177) -/

/-- The parts of a warm reset in the blocks (R176 step 2): the sweeper and the verifier stop (R142, R164) before the lanes
end their files (R37), and the encoder seals its open segments (R98). -/
def warmBlocks (s : State) : State := warmEncoder (warmLanes (stopVerify (stopSweep s)))

/-- RESET WARM (R176). -/
def warmReset (tag : Nat) (s : State) : State :=
  let removed := s.control.length
  respond tag resetCode .done (.removed removed) (warmBlocks { s with control := [] })

/-- Every piece of the LSI's state at its value after power-on reset (R177). What waits outside and what has been sent on
the links are not the LSI's (log entries 8 and 25). -/
def powerOn (s : State) : State := { State.reset with pending := s.pending, feedTx := s.feedTx, storeTx := s.storeTx }

/-- RESET COLD (R177): the DONE response is sent first. -/
def coldReset (tag : Nat) (s : State) : State := powerOn (respond tag resetCode .done .none s)

end Sys2Proof.Machine
end

