-- ==== Sys2Proof/Machine/Frames.lean ====
section
/-! DEFINITION. The meanings of the resets, of the events of the ports and links, and of the file frames and Store link
frames: one definition for each row. A row that is a frame is taken from its receipt to the end of its event (log entry
3). -/

namespace Sys2Proof.Machine

/-- The outcome type of every meaning. -/
abbrev Answer := Host.Outcome State Fault Refusal

/-! ### Resets -/

/-- POWER_ON_RESET (R177, R183): every piece of state takes its value after power-on reset. -/
def execPowerOnReset (s : State) : Answer := .next (powerOn s)

/-- RESET_WARM (R176): taken at its arrival, whatever the queue holds. -/
def execResetWarm (tag : Nat) (s : State) : Answer := .next (settle (warmReset tag (receiveGood .feed s)))

/-- RESET_COLD (R177): taken at its arrival, whatever the queue holds. -/
def execResetCold (tag : Nat) (s : State) : Answer := .next (coldReset tag (receiveGood .feed s))

/-! ### Ports and links -/

/-- FEED_LINK_LOSS (R183, R36). -/
def execFeedLinkLoss (cause : LossCause) (s : State) : Answer := .next (loseLink cause .feed s)

/-- FEED_LINK_UP (R183, R27). -/
def execFeedLinkUp (s : State) : Answer := .next (raiseLink .feed s)

/-- STORE_LINK_LOSS (R183, R132). -/
def execStoreLinkLoss (cause : LossCause) (s : State) : Answer := .next (loseLink cause .store s)

/-- STORE_LINK_UP (R183, R132). -/
def execStoreLinkUp (s : State) : Answer := .next (raiseLink .store s)

/-- LINK_KEEP (R182 step 3, R183). -/
def execLinkKeep (port : PortId) (s : State) : Answer := .next (flushReports (receiveGood port s))

/-- LINK_KEEP_SEND (R183). -/
def execLinkKeepSend (port : PortId) (s : State) : Answer := .next (keepLink port s)

/-- FRAME_CHECK_FAILED (R182 step 1). -/
def execFrameCheckFailed (port : PortId) (s : State) : Answer := .next (countCheckFailed port s)

/-- MALFORMED_FRAME (R182 step 2). -/
def execMalformedFrame (port : PortId) (s : State) : Answer := .next (countMalformed port s)

/-- RECEIVER_LOCKED (R183). -/
def execReceiverLocked (port : PortId) (s : State) : Answer := .next (s.setPort port { s.port port with locked := true })

/-- RECEIVER_LOCK_LOST (R183). -/
def execReceiverLockLost (port : PortId) (s : State) : Answer := .next (loseLock port s)

/-! ### File frames -/

/-- FILE_OPEN (R18 to R21). -/
def execFileOpen (lane : Fin 16) (continueFlag : Bool) (switchId fileNumber : Nat) (s : State) : Answer :=
  .next (settle (openFile lane continueFlag switchId fileNumber (receiveGood .feed s)))

/-- RECORD_BLOCK (R23 to R26); a record count of 0 or above 170 is malformed (R182 step 2). -/
def execRecordBlock (lane : Fin 16) (blockNumber : Nat) (records : List CallRecord) (s : State) : Answer :=
  if records.length = 0 ∨ Config.blockRecordLimit < records.length then .next (countMalformed .feed s)
  else .next (flushReports (startBuffer (blockArrives lane blockNumber records (receiveGood .feed s))))

/-- FILE_CLOSE (R33, R34). -/
def execFileClose (lane : Fin 16) (recordCount durationSum chargeSum : Nat) (s : State) : Answer :=
  .next (settle (fileEnds lane (some { recordCount, durationSum, chargeSum }) (receiveGood .feed s)))

/-- FILE_ABORT (R35, R34). -/
def execFileAbort (lane : Fin 16) (s : State) : Answer := .next (settle (fileEnds lane none (receiveGood .feed s)))

/-! ### Store link frames -/

/-- STORE_ACK (R129, R130). -/
def execStoreAck (tag : Fin 8) (segmentId edition : Nat) (status : AckStatus) (s : State) : Answer :=
  .next (settle (ackArrives tag segmentId edition status (receiveGood .store s)))

/-- READ_DATA (R130, R131); more than 16,384 image bytes are more than its layout gives (R182 step 2, section 12.3). -/
def execReadData (tag : Fin 8) (last : Bool) (bytes : List Byte) (s : State) : Answer :=
  if Config.partLimit < bytes.length then .next (countMalformed .store s)
  else .next (settle (dataArrives tag last bytes (receiveGood .store s)))

end Sys2Proof.Machine
end

