-- ==== Sys2Proof/Machine/Events.lean ====
section
/-! DEFINITION. The meanings of the CA-420's own events: the parser's next record, the timers, and the completions of a
validation and of the START computation. A timer row whose timer is not running, or not yet at its expiry, has no effect
(R178; log entry 2). -/

namespace Sys2Proof.Machine

/-- PARSE_RECORD (R29): the parser takes the next record of its buffer. -/
def execParseRecord (s : State) : Answer := .next (settle (parseNext s))

/-- SEAL_TIMEOUT (R96): the seal deadline of an open segment. -/
def execSealTimeout (segmentId : Nat) (s : State) : Answer := .next (settle (sealDeadline segmentId s))

/-- TAG_TIMEOUT (R128): the expiry of an outstanding tag. -/
def execTagTimeout (tag : Fin 8) (s : State) : Answer := .next (settle (tagExpires tag s))

/-- FULL_WAIT_EXPIRY (R104): the end of a FULL wait. -/
def execFullWaitExpiry (segmentId : Nat) (s : State) : Answer := .next (settle (fullWaitEnds segmentId s))

/-- A rest is over: the walker is RESTING and its rest expiry is reached. -/
def State.restOver (s : State) (phase : WalkPhase) (expiry : Option Nat) : Bool :=
  match expiry with
  | none => false
  | some t => decide (phase = .resting) && s.reached t

/-- SWEEP_REST_EXPIRY (R138); while SUSPENDED it acts on the resume state (R150). -/
def execSweepRestExpiry (s : State) : Answer :=
  if s.restOver s.sweeper.phase s.sweeper.restExpiry then .next (settle (sweepRestEnds s)) else .next s

/-- VERIFY_REST_EXPIRY (R168). -/
def execVerifyRestExpiry (s : State) : Answer :=
  if s.restOver s.verifier.phase s.verifier.restExpiry then .next (settle (verifyRestEnds s)) else .next s

/-- The holdoff timer has reached its expiry. -/
def State.holdoffOver (s : State) : Bool :=
  match s.reports.timer with
  | none => false
  | some t => s.reached t

/-- HOLDOFF_TIMER_EXPIRY (R181). -/
def execHoldoffTimerExpiry (s : State) : Answer :=
  if s.holdoffOver then .next (flushReports (holdoffExpires s)) else .next s

/-- VALIDATION_COMPLETE (R50). -/
def execValidationComplete (s : State) : Answer := .next (flushReports (validationEnds s))

/-- START_COMPUTATION_COMPLETE (R120). -/
def execStartComputationComplete (s : State) : Answer := .next (flushReports (startEnds s))

end Sys2Proof.Machine
end

