-- ==== Sys2Proof/Machine/Requests.lean ====
section
/-! DEFINITION. The meanings of the control requests: one definition for each row. Each is a CONTROL REQUEST frame that
arrives on the Feed link (R182) and enters the control queue (R169); the rule named is the one that carries it out. -/

namespace Sys2Proof.Machine

/-- START (R11, R119). -/
def execStart (tag day : Nat) (s : State) : Answer :=
  .next (controlFrame tag (.start day) s)

/-- CATALOG_LOAD (R118). -/
def execCatalogLoad (tag : Nat) (entries : List LoadEntry) (s : State) : Answer :=
  .next (controlFrame tag (.catalogLoad entries) s)

/-- TABLE_BEGIN (R46). -/
def execTableBegin (tag bank force : Nat) (s : State) : Answer :=
  .next (controlFrame tag (.tableBegin bank force) s)

/-- TABLE_WRITE (R47, R48). -/
def execTableWrite (tag bank : Nat) (startIndex : Option Nat) (entries : TableEntries) (s : State) : Answer :=
  .next (controlFrame tag (.tableWrite bank startIndex entries) s)

/-- TABLE_END (R49). -/
def execTableEnd (tag bank supplied generation : Nat) (s : State) : Answer :=
  .next (controlFrame tag (.tableEnd bank supplied generation) s)

/-- TABLE_SELECT (R53). -/
def execTableSelect (tag bank mode : Nat) (s : State) : Answer :=
  .next (controlFrame tag (.tableSelect bank mode) s)

/-- TABLE_CANCEL (R56). -/
def execTableCancel (tag : Nat) (s : State) : Answer :=
  .next (controlFrame tag .tableCancel s)

/-- DAY_CLOSE (R13). -/
def execDayClose (tag : Nat) (s : State) : Answer :=
  .next (controlFrame tag .dayClose s)

/-- HOLD_ADD (R144, R145). -/
def execHoldAdd (tag switchWord firstDay lastDay classSet : Nat) (s : State) : Answer :=
  .next (controlFrame tag (.holdAdd switchWord firstDay lastDay classSet) s)

/-- HOLD_RELEASE (R146). -/
def execHoldRelease (tag holdId : Nat) (s : State) : Answer :=
  .next (controlFrame tag (.holdRelease holdId) s)

/-- SWEEP_START (R136). -/
def execSweepStart (tag mode : Nat) (s : State) : Answer :=
  .next (controlFrame tag (.sweepStart mode) s)

/-- SWEEP_STOP (R142). -/
def execSweepStop (tag : Nat) (s : State) : Answer :=
  .next (controlFrame tag .sweepStop s)

/-- VERIFY_START (R164). -/
def execVerifyStart (tag mode : Nat) (s : State) : Answer :=
  .next (controlFrame tag (.verifyStart mode) s)

/-- VERIFY_STOP (R164). -/
def execVerifyStop (tag : Nat) (s : State) : Answer :=
  .next (controlFrame tag .verifyStop s)

/-- SEGMENT_RETRY (R106, R116). -/
def execSegmentRetry (tag segmentId edition : Nat) (s : State) : Answer :=
  .next (controlFrame tag (.segmentRetry segmentId edition) s)

/-- SEGMENT_DISCARD (R107). -/
def execSegmentDiscard (tag segmentId edition : Nat) (s : State) : Answer :=
  .next (controlFrame tag (.segmentDiscard segmentId edition) s)

/-- SET_REPORT_HOLDOFF (R174, R181). -/
def execSetReportHoldoff (tag value : Nat) (s : State) : Answer :=
  .next (controlFrame tag (.set .reportHoldoff value) s)

/-- SET_LATE_WINDOW (R174, R12). -/
def execSetLateWindow (tag value : Nat) (s : State) : Answer :=
  .next (controlFrame tag (.set .lateWindow value) s)

/-- SET_SEAL_TIMEOUT (R174, R96). -/
def execSetSealTimeout (tag value : Nat) (s : State) : Answer :=
  .next (controlFrame tag (.set .sealTimeout value) s)

/-- SET_STORE_TIMEOUT (R174, R128). -/
def execSetStoreTimeout (tag value : Nat) (s : State) : Answer :=
  .next (controlFrame tag (.set .storeTimeout value) s)

/-- SET_FULL_RETRY (R174, R104). -/
def execSetFullRetry (tag value : Nat) (s : State) : Answer :=
  .next (controlFrame tag (.set .fullRetry value) s)

/-- SET_SWEEP_BURST (R174, R138). -/
def execSetSweepBurst (tag value : Nat) (s : State) : Answer :=
  .next (controlFrame tag (.set .sweepBurst value) s)

/-- SET_SWEEP_REST (R174, R138). -/
def execSetSweepRest (tag value : Nat) (s : State) : Answer :=
  .next (controlFrame tag (.set .sweepRest value) s)

/-- SET_AUTO_SWEEP (R174, R141). -/
def execSetAutoSweep (tag value : Nat) (s : State) : Answer :=
  .next (controlFrame tag (.set .autoSweep value) s)

/-- SET_VERIFY_REST (R174, R168). -/
def execSetVerifyRest (tag value : Nat) (s : State) : Answer :=
  .next (controlFrame tag (.set .verifyRest value) s)

/-- SET_VERIFY_SCOPE (R174, R165). -/
def execSetVerifyScope (tag value : Nat) (s : State) : Answer :=
  .next (controlFrame tag (.set .verifyScope value) s)

/-- QUERY_IDENT (R175). -/
def execQueryIdent (tag : Nat) (s : State) : Answer :=
  .next (controlFrame tag (.query .ident) s)

/-- QUERY_STATUS (R175). -/
def execQueryStatus (tag : Nat) (s : State) : Answer :=
  .next (controlFrame tag (.query .status) s)

/-- QUERY_LANE (R175, R39). -/
def execQueryLane (tag lane : Nat) (s : State) : Answer :=
  .next (controlFrame tag (.query (.lane lane)) s)

/-- QUERY_RECENT (R175, R39). -/
def execQueryRecent (tag position : Nat) (s : State) : Answer :=
  .next (controlFrame tag (.query (.recent position)) s)

/-- QUERY_BANKS (R60). -/
def execQueryBanks (tag : Nat) (s : State) : Answer :=
  .next (controlFrame tag (.query .banks) s)

/-- QUERY_CATALOG (R121). -/
def execQueryCatalog (tag segmentId : Nat) (s : State) : Answer :=
  .next (controlFrame tag (.query (.catalog segmentId)) s)

/-- QUERY_DAY (R162). -/
def execQueryDay (tag day switchWord : Nat) (s : State) : Answer :=
  .next (controlFrame tag (.query (.day day switchWord)) s)

/-- QUERY_HOLDS (R151). -/
def execQueryHolds (tag : Nat) (s : State) : Answer :=
  .next (controlFrame tag (.query .holds) s)

/-- QUERY_PARAMS (R175). -/
def execQueryParams (tag : Nat) (s : State) : Answer :=
  .next (controlFrame tag (.query .params) s)

/-- UNKNOWN_CONTROL_REQUEST (R170 test 1): refused when it is taken. A RESET that names neither kind, or is of a wrong
length, is refused at its arrival (R169). -/
def execUnknownControlRequest (tag code : Nat) (arguments : List Byte) (s : State) : Answer :=
  if code = resetCode then .next (flushReports (respond tag resetCode .badRequest .none (receiveGood .feed s)))
  else .next (controlFrame tag (.unknown code arguments) s)

end Sys2Proof.Machine
end

