-- ==== Sys2Proof/Machine/Dispatch.lean ====
section
/-! DEFINITION. The dispatch of a command to its meaning: one arm for each row of the table. -/

namespace Sys2Proof.Machine

def exec (i : Instr) (s : State) : Host.Outcome State Fault Refusal :=
  match i with
  | .powerOnReset => Sys2Proof.Machine.execPowerOnReset s
  | .resetWarm tag => Sys2Proof.Machine.execResetWarm tag s
  | .resetCold tag => Sys2Proof.Machine.execResetCold tag s
  | .feedLinkLoss cause => Sys2Proof.Machine.execFeedLinkLoss cause s
  | .feedLinkUp => Sys2Proof.Machine.execFeedLinkUp s
  | .storeLinkLoss cause => Sys2Proof.Machine.execStoreLinkLoss cause s
  | .storeLinkUp => Sys2Proof.Machine.execStoreLinkUp s
  | .linkKeep port => Sys2Proof.Machine.execLinkKeep port s
  | .linkKeepSend port => Sys2Proof.Machine.execLinkKeepSend port s
  | .fileOpen lane continueFlag switchId fileNumber => Sys2Proof.Machine.execFileOpen lane continueFlag switchId fileNumber s
  | .recordBlock lane blockNumber records => Sys2Proof.Machine.execRecordBlock lane blockNumber records s
  | .fileClose lane recordCount durationSum chargeSum => Sys2Proof.Machine.execFileClose lane recordCount durationSum chargeSum s
  | .fileAbort lane => Sys2Proof.Machine.execFileAbort lane s
  | .storeAck tag segmentId edition status => Sys2Proof.Machine.execStoreAck tag segmentId edition status s
  | .readData tag last bytes => Sys2Proof.Machine.execReadData tag last bytes s
  | .parseRecord => Sys2Proof.Machine.execParseRecord s
  | .sealTimeout segmentId => Sys2Proof.Machine.execSealTimeout segmentId s
  | .tagTimeout tag => Sys2Proof.Machine.execTagTimeout tag s
  | .fullWaitExpiry segmentId => Sys2Proof.Machine.execFullWaitExpiry segmentId s
  | .sweepRestExpiry => Sys2Proof.Machine.execSweepRestExpiry s
  | .verifyRestExpiry => Sys2Proof.Machine.execVerifyRestExpiry s
  | .holdoffTimerExpiry => Sys2Proof.Machine.execHoldoffTimerExpiry s
  | .validationComplete => Sys2Proof.Machine.execValidationComplete s
  | .startComputationComplete => Sys2Proof.Machine.execStartComputationComplete s
  | .start tag day => Sys2Proof.Machine.execStart tag day s
  | .catalogLoad tag entries => Sys2Proof.Machine.execCatalogLoad tag entries s
  | .tableBegin tag bank force => Sys2Proof.Machine.execTableBegin tag bank force s
  | .tableWrite tag bank startIndex entries => Sys2Proof.Machine.execTableWrite tag bank startIndex entries s
  | .tableEnd tag bank supplied generation => Sys2Proof.Machine.execTableEnd tag bank supplied generation s
  | .tableSelect tag bank mode => Sys2Proof.Machine.execTableSelect tag bank mode s
  | .tableCancel tag => Sys2Proof.Machine.execTableCancel tag s
  | .dayClose tag => Sys2Proof.Machine.execDayClose tag s
  | .holdAdd tag switchWord firstDay lastDay classSet => Sys2Proof.Machine.execHoldAdd tag switchWord firstDay lastDay classSet s
  | .holdRelease tag holdId => Sys2Proof.Machine.execHoldRelease tag holdId s
  | .sweepStart tag mode => Sys2Proof.Machine.execSweepStart tag mode s
  | .sweepStop tag => Sys2Proof.Machine.execSweepStop tag s
  | .verifyStart tag mode => Sys2Proof.Machine.execVerifyStart tag mode s
  | .verifyStop tag => Sys2Proof.Machine.execVerifyStop tag s
  | .segmentRetry tag segmentId edition => Sys2Proof.Machine.execSegmentRetry tag segmentId edition s
  | .segmentDiscard tag segmentId edition => Sys2Proof.Machine.execSegmentDiscard tag segmentId edition s
  | .setReportHoldoff tag value => Sys2Proof.Machine.execSetReportHoldoff tag value s
  | .setLateWindow tag value => Sys2Proof.Machine.execSetLateWindow tag value s
  | .setSealTimeout tag value => Sys2Proof.Machine.execSetSealTimeout tag value s
  | .setStoreTimeout tag value => Sys2Proof.Machine.execSetStoreTimeout tag value s
  | .setFullRetry tag value => Sys2Proof.Machine.execSetFullRetry tag value s
  | .setSweepBurst tag value => Sys2Proof.Machine.execSetSweepBurst tag value s
  | .setSweepRest tag value => Sys2Proof.Machine.execSetSweepRest tag value s
  | .setAutoSweep tag value => Sys2Proof.Machine.execSetAutoSweep tag value s
  | .setVerifyRest tag value => Sys2Proof.Machine.execSetVerifyRest tag value s
  | .setVerifyScope tag value => Sys2Proof.Machine.execSetVerifyScope tag value s
  | .queryIdent tag => Sys2Proof.Machine.execQueryIdent tag s
  | .queryStatus tag => Sys2Proof.Machine.execQueryStatus tag s
  | .queryLane tag lane => Sys2Proof.Machine.execQueryLane tag lane s
  | .queryRecent tag position => Sys2Proof.Machine.execQueryRecent tag position s
  | .queryBanks tag => Sys2Proof.Machine.execQueryBanks tag s
  | .queryCatalog tag segmentId => Sys2Proof.Machine.execQueryCatalog tag segmentId s
  | .queryDay tag day switchWord => Sys2Proof.Machine.execQueryDay tag day switchWord s
  | .queryHolds tag => Sys2Proof.Machine.execQueryHolds tag s
  | .queryParams tag => Sys2Proof.Machine.execQueryParams tag s
  | .unknownControlRequest tag code arguments => Sys2Proof.Machine.execUnknownControlRequest tag code arguments s
  | .frameCheckFailed port => Sys2Proof.Machine.execFrameCheckFailed port s
  | .malformedFrame port => Sys2Proof.Machine.execMalformedFrame port s
  | .receiverLocked port => Sys2Proof.Machine.execReceiverLocked port s
  | .receiverLockLost port => Sys2Proof.Machine.execReceiverLockLost port s

end Sys2Proof.Machine
end

