-- ==== Sys2Proof/Safety.lean ====
section
/-! DEFINITION. The terms that claims use: what a good frame and a response do to a state, the state in which a control
request is taken at once, and the invariants of the machine. No command faults (`Fault` has no constructor), so a run is
safe when it keeps these invariants. -/

namespace Sys2Proof.Safety

open Sys2Proof.Machine

/-! ### Frames and responses, written out -/

/-- A good frame received on the Feed port while its link is UP: it is counted, and the 50 ms of R183 start anew. -/
def heardFeed (s : State) : State :=
  { s with feed := { s.feed with good := min max32 (s.feed.good + 1), lastGood := s.runTime } }

/-- A good frame received on the Store port while its link is UP. -/
def heardStore (s : State) : State :=
  { s with store := { s.store with good := min max32 (s.store.good + 1), lastGood := s.runTime } }

/-- Frames put on the Feed link in order. -/
def sentFeed (fs : List FeedFrame) (s : State) : State :=
  { s with feedTx := s.feedTx ++ fs, feed := { s.feed with lastSent := s.runTime } }

/-- Frames put on the Store link in order. -/
def sentStore (fs : List StoreFrame) (s : State) : State :=
  { s with storeTx := s.storeTx ++ fs, store := { s.store with lastSent := s.runTime } }

/-- A CONTROL RESPONSE put on the Feed link. -/
def replied (tag requestCode : Nat) (code : ResponseCode) (results : Results) (s : State) : State :=
  sentFeed [.response tag requestCode code results] s

/-- A control request that arrives is taken at once and answered on the link: the Feed link is UP and the control queue is
empty (R169, R173). -/
def Attentive (s : State) : Prop := s.feed.up = true ∧ s.control = []

/-- The control tag and the request of a command that is a control request entering the queue (R169). RESET does not enter
it, nor does a malformed RESET. -/
def requestOf : Instr → Option (Nat × Request)
  | .start tag day => some (tag, .start day)
  | .catalogLoad tag entries => some (tag, .catalogLoad entries)
  | .tableBegin tag bank force => some (tag, .tableBegin bank force)
  | .tableWrite tag bank startIndex entries => some (tag, .tableWrite bank startIndex entries)
  | .tableEnd tag bank supplied generation => some (tag, .tableEnd bank supplied generation)
  | .tableSelect tag bank mode => some (tag, .tableSelect bank mode)
  | .tableCancel tag => some (tag, .tableCancel)
  | .dayClose tag => some (tag, .dayClose)
  | .holdAdd tag switchWord firstDay lastDay classSet => some (tag, .holdAdd switchWord firstDay lastDay classSet)
  | .holdRelease tag holdId => some (tag, .holdRelease holdId)
  | .sweepStart tag mode => some (tag, .sweepStart mode)
  | .sweepStop tag => some (tag, .sweepStop)
  | .verifyStart tag mode => some (tag, .verifyStart mode)
  | .verifyStop tag => some (tag, .verifyStop)
  | .segmentRetry tag segmentId edition => some (tag, .segmentRetry segmentId edition)
  | .segmentDiscard tag segmentId edition => some (tag, .segmentDiscard segmentId edition)
  | .setReportHoldoff tag value => some (tag, .set .reportHoldoff value)
  | .setLateWindow tag value => some (tag, .set .lateWindow value)
  | .setSealTimeout tag value => some (tag, .set .sealTimeout value)
  | .setStoreTimeout tag value => some (tag, .set .storeTimeout value)
  | .setFullRetry tag value => some (tag, .set .fullRetry value)
  | .setSweepBurst tag value => some (tag, .set .sweepBurst value)
  | .setSweepRest tag value => some (tag, .set .sweepRest value)
  | .setAutoSweep tag value => some (tag, .set .autoSweep value)
  | .setVerifyRest tag value => some (tag, .set .verifyRest value)
  | .setVerifyScope tag value => some (tag, .set .verifyScope value)
  | .queryIdent tag => some (tag, .query .ident)
  | .queryStatus tag => some (tag, .query .status)
  | .queryLane tag lane => some (tag, .query (.lane lane))
  | .queryRecent tag position => some (tag, .query (.recent position))
  | .queryBanks tag => some (tag, .query .banks)
  | .queryCatalog tag segmentId => some (tag, .query (.catalog segmentId))
  | .queryDay tag day switchWord => some (tag, .query (.day day switchWord))
  | .queryHolds tag => some (tag, .query .holds)
  | .queryParams tag => some (tag, .query .params)
  | .unknownControlRequest tag code arguments =>
    if code = resetCode then none else some (tag, .unknown code arguments)
  | .powerOnReset | .resetWarm _ | .resetCold _ | .feedLinkLoss _ | .feedLinkUp | .storeLinkLoss _ | .storeLinkUp
  | .linkKeep _ | .linkKeepSend _ | .fileOpen _ _ _ _ | .recordBlock _ _ _ | .fileClose _ _ _ _ | .fileAbort _
  | .storeAck _ _ _ _ | .readData _ _ _ | .parseRecord | .sealTimeout _ | .tagTimeout _ | .fullWaitExpiry _
  | .sweepRestExpiry | .verifyRestExpiry | .holdoffTimerExpiry | .validationComplete | .startComputationComplete
  | .frameCheckFailed _ | .malformedFrame _ | .receiverLocked _ | .receiverLockLost _ => none

/-! ### Invariants -/

/-- The Report Queue (R180, R181): at most 64 entries, a lost count above 0 only while it is full, and while it is empty no
timer and no due indication. -/
def ReportsSound (s : State) : Prop :=
  s.reports.entries.length ≤ Config.reportQueueLimit
    ∧ (0 < s.reports.lost → s.reports.entries.length = Config.reportQueueLimit)
    ∧ (s.reports.entries = [] → s.reports.timer = none ∧ s.reports.due = false)

/-- The lists keep their capacities: control queue 4 (R169), Recent Files 64 (R38), Pending Audit Hold list 8 (R148), Open
Segment List 16 (R90). -/
def ListsBounded (s : State) : Prop :=
  s.control.length ≤ Config.controlQueueLimit ∧ s.recent.length ≤ Config.recentFilesLimit
    ∧ s.pendingHolds.length ≤ Config.pendingHoldLimit ∧ s.openSegments.length ≤ Config.openSegmentLimit

/-- The sweeper is SUSPENDED exactly while the Pending Audit Hold list is not empty (R149). -/
def SuspendedExactly (s : State) : Prop := s.sweeper.suspended = true ↔ s.pendingHolds ≠ []

/-- At most one bank is ACTIVE (R43), and the bank that a pending selection names is READY (R53). -/
def BanksSound (s : State) : Prop :=
  (∀ a b : Fin 4, (s.bank a).state = .active → (s.bank b).state = .active → a = b)
    ∧ (∀ sel, s.selection = some sel → (s.bank sel.bank).state = .ready)

/-- A lane is in the paused set exactly while the parser holds both its buffers (R26). -/
def PausedExactly (s : State) : Prop :=
  ∀ l : Fin 16, (s.lane l).paused = true ↔ (s.lane l).bufA.owner = .parser ∧ (s.lane l).bufB.owner = .parser

/-- While a lane is paused neither walker runs or rests, and while none is neither is in extended rest (R26, R139, R168);
a rest expiry is present exactly while RESTING, and the cursors name catalog entries (R135, R163). -/
def WalkersSound (s : State) : Prop :=
  (s.anyPaused = true → s.sweeper.phase ≠ .running ∧ s.sweeper.phase ≠ .resting)
    ∧ (s.anyPaused = false → s.sweeper.phase ≠ .extendedRest)
    ∧ (s.anyPaused = true → s.verifier.phase ≠ .running ∧ s.verifier.phase ≠ .resting)
    ∧ (s.anyPaused = false → s.verifier.phase ≠ .extendedRest)
    ∧ (s.sweeper.phase = .resting ↔ s.sweeper.restExpiry.isSome = true)
    ∧ (s.verifier.phase = .resting ↔ s.verifier.restExpiry.isSome = true)
    ∧ s.sweeper.cursor < Config.catalogEntries ∧ s.verifier.cursor < Config.catalogEntries

/-- Every parameter lies in its range, and so do the late windows (R174, R9). -/
def ParamsInRange (s : State) : Prop :=
  s.params.reportHoldoff ≤ 255
    ∧ (10000 ≤ s.params.sealTimeoutMs ∧ s.params.sealTimeoutMs ≤ 3600000)
    ∧ (100 ≤ s.params.storeTimeout ∧ s.params.storeTimeout ≤ 10000)
    ∧ (100 ≤ s.params.fullRetry ∧ s.params.fullRetry ≤ 60000)
    ∧ (1 ≤ s.params.sweepBurst ∧ s.params.sweepBurst ≤ 64)
    ∧ (1 ≤ s.params.sweepRest ∧ s.params.sweepRest ≤ 10000)
    ∧ (1 ≤ s.params.verifyRest ∧ s.params.verifyRest ≤ 10000)
    ∧ s.clock.lateWindow ≤ 7 ∧ (∀ w, s.clock.pendingLate = some w → w ≤ 7)

/-- The catalog is in its canonical form with ids below 262,144, the eight state counts are the counts of its entries
(R108), and the free-id list and the Open Segment List name catalog entries (R115, R90). -/
def CatalogSound (s : State) : Prop :=
  NMap.canonical {} s.catalog = true ∧ NMap.keysBelow Config.catalogEntries s.catalog = true
    ∧ (∀ st : EntryState, s.stateCounts[st.code] = countIn s.catalog st)
    ∧ (∀ id ∈ s.freeIds, id < Config.catalogEntries)
    ∧ (∀ g ∈ s.openSegments, g.segmentId < Config.catalogEntries)

/-- Records of a file context that have reached one of their four ends or are pending (R17). -/
def accounted (c : FileContext) : Nat := c.stored + c.rejected + c.duplicates + c.lost + c.pending

/-- Records of a lane's buffer that are not yet counted: none on the link side, and from the record in hand onward in the
buffer that the parser has in hand (R28, R29). -/
def uncountedIn (s : State) (l : Fin 16) (i : BufId) : Nat :=
  match s.parser.phase with
  | .parsing l' i' position | .stalled l' i' position _ _ =>
    if l' = l ∧ i' = i then ((s.lane l).buf i).records.length - position else ((s.lane l).buf i).records.length
  | .idle => ((s.lane l).buf i).records.length

/-- A lane buffer: records only while the parser owns it, and then at least one (R22, R23). -/
def BufferSound (x : LaneBuffer) : Prop := (x.owner = .link → x.records = []) ∧ (x.owner = .parser → x.records ≠ [])

/-- A lane's file context accounts for every record announced, and pending counts the records still in its buffers (R17). A
lane without a file context is IDLE with both buffers on the link side (R15, R34). -/
def LaneAccounts (s : State) (l : Fin 16) : Prop :=
  BufferSound (s.lane l).bufA ∧ BufferSound (s.lane l).bufB
    ∧ ((s.lane l).context = none → (s.lane l).state = .idle ∧ (s.lane l).drained = true)
    ∧ ∀ c ∈ (s.lane l).context, (s.lane l).state ≠ .idle ∧ c.announced = accounted c
        ∧ c.pending = uncountedIn s l .a + uncountedIn s l .b

/-- The lane, the buffer and the record position that the parser has in hand (R28). -/
def inHand : ParserPhase → Option (Fin 16 × BufId × Nat)
  | .idle => none
  | .parsing l i position | .stalled l i position _ _ => some (l, i, position)

/-- The record that the STALLED parser holds (R32). -/
def recordHeld : ParserPhase → Option CallRecord
  | .idle | .parsing _ _ _ => none
  | .stalled _ _ _ r _ => some r

/-- The parser's buffer in hand is the parser's, with the record in hand inside it, which is the record held (R28, R32). -/
def ParserAccounts (s : State) : Prop :=
  ∀ h ∈ inHand s.parser.phase,
    ((s.lane h.1).buf h.2.1).owner = .parser ∧ h.2.2 < ((s.lane h.1).buf h.2.1).records.length
      ∧ ∀ r ∈ recordHeld s.parser.phase, ((s.lane h.1).buf h.2.1).records[h.2.2]? = some r

/-- The conservation of records (R17): in every file context announced equals stored + rejected + duplicates + lost +
pending, pending being the records still in the lane's buffers, and pending is 0 in every entry of Recent Files. -/
def RecordsConserved (s : State) : Prop :=
  (∀ l, LaneAccounts s l) ∧ ParserAccounts s
    ∧ ∀ e ∈ s.recent, e.context.announced = accounted e.context ∧ e.context.pending = 0

/-- Nothing more can be granted (R125). -/
def GrantsTaken (s : State) : Prop := grantOne s = none

/-! ### Terms of single statements -/

/-- Frames put on the Feed link, and nothing sent where there is none. -/
def sentFeedAll (fs : List FeedFrame) (s : State) : State := if fs = [] then s else sentFeed fs s

/-- Frames put on the Feed link while it is UP, and discarded while it is DOWN (R26, R173). -/
def sentIfUp (fs : List FeedFrame) (s : State) : State := if s.feed.up = true then sentFeedAll fs s else s

/-- The good frame that brings a DOWN, locked Feed port UP (R182, R183). -/
def feedRaised (s : State) : State :=
  { s with feed := { s.feed with good := min max32 (s.feed.good + 1), lastGood := s.runTime, up := true } }

/-- The good frame that brings a DOWN, locked Store port UP. -/
def storeRaised (s : State) : State :=
  { s with store := { s.store with good := min max32 (s.store.good + 1), lastGood := s.runTime, up := true } }

/-- The lanes of the paused set, in ascending lane number (R26). -/
def pausedLanes (s : State) : List (Fin 16) := (List.finRange 16).filter (fun l => (s.lane l).paused)

/-- A good frame received on the Feed port in any link state; it may bring the link UP (R182, R183). -/
def heardAnyway (s : State) : State :=
  if s.feed.up = false ∧ s.feed.locked = true then
    flushReports (sentFeedAll ((pausedLanes s).map .lanePause) (feedRaised s))
  else heardFeed s

/-- The lanes of the records that a warm reset discards, one for each record, in the order taken: the buffer in hand from
the record in hand on, then the other full buffers, by lane, A before B (R37 steps 1 and 2; log entry 36). -/
def discards (s : State) : List (Fin 16) :=
  (match inHand s.parser.phase with
    | none => []
    | some (l, i, position) => List.replicate (((s.lane l).buf i).records.length - position) l)
  ++ (List.finRange 16).flatMap fun l => [BufId.a, BufId.b].flatMap fun i =>
      if ((s.lane l).buf i).owner = .parser ∧ (inHand s.parser.phase).map (fun h => (h.1, h.2.1)) ≠ some (l, i)
      then List.replicate ((s.lane l).buf i).records.length l else []

/-- A bank after `files` of its files have left their lanes: the bound files are fewer by them, and a DRAINING bank left
with none is READY (R57, R58). -/
def bankAfter (files : Nat) (b : Bank) : Bank :=
  { b with
    boundFiles := b.boundFiles - files
    state := if b.state = .draining ∧ 0 < files ∧ b.boundFiles ≤ files then .ready else b.state }

/-- The bank that a FILE OPEN would bind while `active` is ACTIVE: that of a pending NEXT_FILE selection, else `active`
(R18 test 4). -/
def bindsTo (s : State) (active : Fin 4) : Fin 4 :=
  match s.selection with
  | some { bank, mode := .nextFile } => bank
  | _ => active

/-- An ABORTED entry of Recent Files for a switch and file number (R18 test 6, R21). -/
def AbortedFor (switch fileNumber : Nat) (e : RecentEntry) : Prop :=
  e.outcome = .aborted ∧ e.context.switch = switch ∧ e.context.fileNumber = fileNumber

/-- Another lane, OPEN or DRAINING, holds the file (R18 test 5). -/
def HeldByOther (s : State) (l : Fin 16) (switch fileNumber : Nat) : Prop :=
  ∃ o, o ≠ l ∧ (s.lane o).state ≠ .idle ∧ ∃ c, (s.lane o).context = some c ∧ c.switch = switch ∧ c.fileNumber = fileNumber

/-- What a record with its verdict comes to in state `s`, in which its file's context is `c`: valid and matched in the
filter, a duplicate; else offered to the encoder, and held by the STALLED parser when refused, counted rejected or stored
when accepted (R29 steps 2 to 4, R30, R31, R32, R67, R68, R156). `answer` says of the state after it that it is the
outcome. -/
def RecordTaken (s : State) (l : Fin 16) (i : BufId) (position : Nat) (c : FileContext) (r : CallRecord) (v : Verdict)
    (answer : State → Prop) : Prop :=
  let counted := { c with
    pending := c.pending - 1, durationSum := c.durationSum + r.duration, chargeSum := c.chargeSum + r.charge }
  let gaps := match c.lastSequence with
    | none => c.sequenceGaps
    | some last => if r.sequence = (last + 1) % 4294967296 then c.sequenceGaps else min max32 (c.sequenceGaps + 1)
  let withContext := fun (x : State) (y : FileContext) => x.setLane l { x.lane l with context := some y }
  (v.reason = none → filterHit s.clock s.filter r = true →
    answer (nextRecord l i position (addToDay v.day c.switch .duplicates 1 (withContext s { counted with
      duplicates := c.duplicates + 1, lastSequence := some r.sequence, sequenceGaps := gaps }))))
  ∧ ((v.reason ≠ none ∨ filterHit s.clock s.filter r = false) →
    (∀ s', offerRecord c r v s = .refused s' →
      answer { s' with parser := { s'.parser with phase := .stalled l i position r v } })
    ∧ ∀ s', offerRecord c r v s = .accepted s' →
      (v.reason ≠ none → answer (nextRecord l i position
        (addToDay v.day c.switch .rejected 1 (withContext s' { counted with rejected := c.rejected + 1 }))))
      ∧ (v.reason = none →
        let stored := withContext s' { counted with
          stored := c.stored + 1, minDay := some (min v.day (c.minDay.getD v.day))
          maxDay := some (max v.day (c.maxDay.getD v.day)), lastSequence := some r.sequence, sequenceGaps := gaps }
        let inserted := if s.clock.inWindow v.day then { stored with filter := filterWith s.clock s.filter r v.day }
          else stored
        let evicted := if s.clock.inWindow v.day ∧ (chooseWay s.clock s.filter (bucketOf r)).2 = true
          then addToDay v.day r.switchId .evictions 1 inserted else inserted
        answer (nextRecord l i position (addToDay v.day c.switch .chargeSum r.charge
          (addToDay v.day c.switch .durationSum r.duration (addToDay v.day c.switch .stored 1 evicted))))))

/-- What the encoder gives a record of key `k` in state `s`, where `k` has no open segment and the list has room: a segment
opened on the first free id and the lowest FREE buffer, with the record as its first; or the refusal and the stall for want
of an id, with CATALOG_FULL while its flag is clear, or of a buffer (R93 steps 2 and 3, R94, R95). -/
def SegmentOpened (s : State) (k : SegmentKey) (fileSwitch : Nat) (r : CallRecord) (v : Verdict)
    (answer : Offer → Prop) : Prop :=
  (∀ id rest i, s.freeIds = id :: rest → (s.buffer i).state = .free → (∀ j < i, (s.buffer j).state ≠ .free) →
    let g : OpenSegment := {
      key := k, segmentId := id, edition := (s.entry id).edition, buffer := i
      late := decide (k.day < s.clock.currentDay.getD 0), deadline := (s.runTime + s.params.sealTimeoutMs) % 4294967296 }
    let bytes := encodeRecord (s.bank k.bank).dictionary {} v.reason r
    let entered := ({ s with freeIds := rest }).setEntry id
      { edition := g.edition, state := .opened, opening := some { key := k, late := g.late } }
    answer (.accepted { entered with
      buffers := s.buffers.set i { state := .filling, segmentId := id, bytes }
      banks := s.banks.set k.bank { s.bank k.bank with references := (s.bank k.bank).references + 1 }
      openSegments := s.openSegments.filter (fun x => decide (x.segmentId ≠ id))
        ++ [{ g with context := g.context.append r bytes, switches := recordSwitches fileSwitch r v [] }] }))
  ∧ (s.freeIds = [] →
    answer (.refused
      { (if s.catalogFull then s
         else raise .catalogFull (some k.day) k.cls (s.bufferCount .free) (s.stateCounts[3] + s.stateCounts[7])
           { s with catalogFull := true }) with stall := .stalled .noId }))
  ∧ (s.freeIds ≠ [] → (∀ i, (s.buffer i).state ≠ .free) → answer (.refused { s with stall := .stalled .noBuffer }))

/-- An encoding context agrees with a segment body: it has the body's length and the terms of its check value (R83, R85). -/
def ContextOf (c : EncodingContext) (body : List Byte) : Prop :=
  c.bodyLength = body.length ∧ checkTerms (0, 0) body = (c.checkA, c.checkB)

/-- An open segment whose fields lie in their ranges of R86 and whose context agrees with its body. -/
def SegmentSound (g : OpenSegment) (body : List Byte) : Prop :=
  g.key.cls ≤ 7 ∧ g.segmentId < Config.catalogEntries ∧ g.edition ≤ 255 ∧ g.key.day ≤ Config.lastDay
    ∧ g.key.generation ≤ max32 ∧ g.context.recordCount ≤ Config.segmentRecordLimit
    ∧ g.context.bodyLength ≤ Config.segmentBodyLimit ∧ (∀ t ∈ g.context.firstStart, t ≤ max32)
    ∧ (∀ t ∈ g.context.lastStart, t ≤ max32) ∧ g.context.durationSum ≤ max32 ∧ ContextOf g.context body

/-- A payload that its port discards as malformed (R182 step 2): a kind the port does not receive, a length other than its
layout's, a record count of 0 or above 170, or a lane, tag or status outside its range. A CONTROL REQUEST is malformed only
below two bytes (log entries 15 and 39). -/
def MalformedPayload (port : PortId) (kind : Nat) (p : List Byte) : Prop :=
  match port, kind with
  | _, 0x00 => p ≠ []
  | .feed, 0x11 => p.length ≠ 7 ∨ 15 < fieldAt p 0 1
  | .feed, 0x12 => p.length ≠ 6 + 48 * fieldAt p 5 1 ∨ fieldAt p 5 1 = 0 ∨ 170 < fieldAt p 5 1 ∨ 15 < fieldAt p 0 1
  | .feed, 0x13 => p.length ≠ 21 ∨ 15 < fieldAt p 0 1
  | .feed, 0x14 => p.length ≠ 1 ∨ 15 < fieldAt p 0 1
  | .feed, 0x18 => p.length < 2
  | .store, 0x51 => p.length ≠ 6 ∨ 7 < fieldAt p 0 1 ∨ 3 < fieldAt p 5 1
  | .store, 0x52 => p.length < 2 ∨ 16386 < p.length ∨ 7 < fieldAt p 0 1
  | _, _ => True

/-- A lane after Feed link loss: an OPEN lane drains with its trailer absent, and a DRAINING lane with both buffers on the
link side becomes IDLE (R36, R34). -/
def laneAfterLoss (x : Lane) : Lane :=
  if x.state = .idle then x
  else if x.bufA.owner = .link ∧ x.bufB.owner = .link then { x with state := .idle, context := none }
  else if x.state = .opened then
    { x with state := .draining, context := x.context.map (fun c => { c with trailer := none }) }
  else x

/-- The form test of R170 fails: a bank, table or mode code that the layout does not give, or a count outside its range. -/
def BadForm : Request → Prop
  | .catalogLoad entries => entries.length = 0 ∨ 8 < entries.length
  | .tableBegin bank force => 3 < bank ∨ 1 < force
  | .tableWrite bank _ entries => 3 < bank ∨ entryCount entries = 0 ∨ 64 < entryCount entries
  | .tableEnd bank supplied _ => 3 < bank ∨ 1 < supplied
  | .tableSelect bank mode => 3 < bank ∨ 1 < mode
  | .sweepStart mode | .verifyStart mode => 1 < mode
  | .unknown _ _ => True
  | .start _ | .tableCancel | .dayClose | .holdAdd _ _ _ _ | .holdRelease _ | .sweepStop | .verifyStop
  | .segmentRetry _ _ | .segmentDiscard _ _ | .set _ _ | .query _ => False

/-- The device state in which a request is answered BAD_STATE (R171). -/
def refusedIn : Request → Option DeviceState
  | .start _ | .catalogLoad _ => some .running
  | .dayClose | .holdAdd _ _ _ _ | .holdRelease _ | .sweepStart _ | .sweepStop | .verifyStart _ | .verifyStop
  | .segmentRetry _ _ | .segmentDiscard _ _ => some .starting
  | .tableBegin _ _ | .tableWrite _ _ _ | .tableEnd _ _ _ | .tableSelect _ _ | .tableCancel | .set _ _ | .query _
  | .unknown _ _ => none

/-- The control tags and request codes of the responses among frames, in order. -/
def answersIn (fs : List FeedFrame) : List (Nat × Nat) :=
  fs.filterMap fun f => match f with
    | .response tag code _ _ => some (tag, code)
    | .linkKeep | .lanePause _ | .laneResume _ | .bundle _ => none

/-- The reports that bundles among frames carry, in order. -/
def reportsIn (fs : List FeedFrame) : List Report :=
  fs.flatMap fun f => match f with
    | .bundle entries => entries
    | .response _ _ _ _ | .linkKeep | .lanePause _ | .laneResume _ => []

/-- The sweeper as a pass begins or continues (R136): EXTENDED_REST while a lane is paused, RESTING while the burst count
stands at or above the burst size, else RUNNING. -/
def passSweeper (s : State) (w : Sweeper) : Sweeper :=
  if s.anyPaused then { w with phase := .extendedRest, restExpiry := none }
  else if s.params.sweepBurst ≤ w.burstCount then
    { w with phase := .resting, burstCount := 0, restExpiry := some (s.after s.params.sweepRest) }
  else { w with phase := .running, restExpiry := none }

/-- The verifier as a pass begins or continues (R164). -/
def passVerifier (s : State) (v : Verifier) : Verifier :=
  { v with phase := if s.anyPaused then .extendedRest else .running, restExpiry := none }

/-- A pass is in progress. -/
def inPass (p : WalkPhase) : Prop := p = .running ∨ p = .resting ∨ p = .extendedRest

/-- The bodies of records encoded one after another (R72): each with its reject reason, against the one before it. -/
def bodyFrom (dictionary : NMap (List Nat)) : Reference → List (Option RejectReason × CallRecord) → List Byte
  | _, [] => []
  | ref, (reason, r) :: rest => encodeRecord dictionary ref reason r ++ bodyFrom dictionary (referenceOf r) rest

/-- A record as decoding gives it back (R88): each number with the digits that are written (R80, R81). -/
def asDecoded (r : CallRecord) : CallRecord :=
  { r with
    calling := { count := min r.calling.count 20, digits := r.calling.digits.take (min r.calling.count 20) }
    called := { count := min r.called.count 20, digits := r.called.digits.take (min r.called.count 20) } }

/-- A prefix dictionary as a bank can hold it (R41): canonical, at indices 1 to 255, digits 0 to 9, lengths 3 to 12. -/
def DictionarySound (d : NMap (List Nat)) : Prop :=
  NMap.canonical [] d = true
    ∧ ∀ p ∈ d, 1 ≤ p.1 ∧ p.1 ≤ 255 ∧ 3 ≤ p.2.length ∧ p.2.length ≤ 12 ∧ ∀ x ∈ p.2, x ≤ 9

end Sys2Proof.Safety
end

