-- ==== Sys2Proof/Machine/Layouts.lean ====
section
/-! DEFINITION. Chapter 12, the frames sent: the envelope (section 12.1), the Feed and Store payloads (12.2, 12.3), the
results of responses (12.6, R184), report entries (12.7) and the catalog entry (12.8). -/

namespace Sys2Proof.Machine

/-- The kind, length and payload of a frame, which its frame check covers (section 12.1). -/
def frameBody (kind : Nat) (payload : List Byte) : List Byte := toBytes 1 kind ++ toBytes 2 payload.length ++ payload

/-- A frame in its envelope (section 12.1). -/
def envelope (kind : Nat) (payload : List Byte) : List Byte :=
  frameBody kind payload ++ toBytes 4 (checkValue (frameBody kind payload))

/-! ### Fields of results (R184) -/

/-- A field that may be absent: a presence byte, and 0 when absent (R184). -/
def optionBytes (n : Nat) (v : Option Nat) : List Byte := toBytes 1 v.isSome.toNat ++ toBytes n (v.getD 0)

/-- An indication in one byte. -/
def flagByte (b : Bool) : List Byte := toBytes 1 b.toNat

/-- The bit of a switch in the first `n` bytes of a switch map: bit n for switch n, the first byte holding switches 0..7
from bit 7 down (R184). -/
def switchMapByte (switches : List Nat) (i : Nat) : Byte :=
  BitVec.ofNat 8 ((List.range 8).foldl (fun v k => v * 2 + (switches.contains (8 * i + k)).toNat) 0)

/-- A switch set as a 64-byte map (R184). -/
def switchMap (switches : List Nat) : List Byte := (List.range 64).map (switchMapByte switches)

/-- The device state, coded in the order of R171. -/
def DeviceState.code : DeviceState → Nat
  | .starting => 0
  | .running => 1

/-- The stall cause, coded in the order of R94. -/
def StallCause.code : StallCause → Nat
  | .noId => 0
  | .noBuffer => 1

/-- The bank state, coded in the order of R43. -/
def BankState.code : BankState → Nat
  | .empty => 0
  | .loading => 1
  | .ready => 2
  | .active => 3
  | .draining => 4

/-- The table, coded as in TABLE_WRITE (section 12.6). -/
def TableName.code : TableName → Nat
  | .serviceMap => 0
  | .classTable => 1
  | .switchTable => 2
  | .prefixDictionary => 3

/-- The selection mode, coded as in TABLE_SELECT (section 12.6). -/
def SelectMode.code : SelectMode → Nat
  | .nextFile => 0
  | .dayClose => 1

/-- The owner of a lane buffer, coded in the order of R22, whose text names the parser first (log entry 9). -/
def Owner.code : Owner → Nat
  | .parser => 0
  | .link => 1

/-- A lane buffer's name. -/
def BufId.code : BufId → Nat
  | .a => 0
  | .b => 1

/-- The hold kind, coded in the order of R134. -/
def HoldKind.code : HoldKind → Nat
  | .legal => 0
  | .audit => 1

/-- The store operation, coded in the order of R124. -/
def StoreOperation.code : StoreOperation → Nat
  | .write => 0
  | .read => 1
  | .delete => 2

/-- The state of a day record, coded in the order of R154. -/
def DayState.code : DayState → Nat
  | .opened => 0
  | .closed => 1

/-- The verify scope, coded as in SET (R174). -/
def VerifyScope.code : VerifyScope → Nat
  | .unverified => 0
  | .all => 1

/-- The response code (section 12.6). -/
def ResponseCode.code : ResponseCode → Nat
  | .done => 0
  | .refusedBusy => 1
  | .badRequest => 2
  | .badState => 3
  | .inUse => 4
  | .noRoom => 5
  | .notFound => 6

/-- The sweeper's state, coded in the order of R135. -/
def Sweeper.stateCode (w : Sweeper) : Nat := if w.suspended then 5 else w.phase.code

/-- The sweeper's resume state (R135). -/
def Sweeper.resumeCode (w : Sweeper) : Option Nat := if w.suspended then some w.phase.code else none

/-! ### The catalog entry (section 12.8) -/

/-- The verify result (section 12.8). -/
def VerifyResult.code : VerifyResult → Nat
  | .none => 0
  | .fullOk => 1
  | .checkOnlyOk => 2
  | .damaged _ => 3

/-- The reason of a DAMAGED result (section 12.8). -/
def VerifyResult.reasonCode : VerifyResult → Nat
  | .none | .fullOk | .checkOnlyOk => 0
  | .damaged .check => 1
  | .damaged .count => 2
  | .damaged .duration => 3
  | .damaged .header => 4
  | .damaged .decode => 5
  | .damaged .missing => 6

/-- The fields from the opening, bytes 5 to 13. That bits 7..1 of the flags byte are sent as 0 is a DESIGN CHOICE, unsafe
(log entry 40). -/
def openingBytes (o : Opening) : List Byte :=
  toBytes 1 o.key.cls ++ toBytes 2 o.key.day ++ toBytes 1 o.key.bank.val ++ toBytes 4 o.key.generation
    ++ toBytes 1 o.late.toNat

/-- The fields from the seal, bytes 14 to 103. -/
def figureBytes (f : Figures) : List Byte :=
  toBytes 2 f.recordCount ++ toBytes 2 f.bodyLength ++ toBytes 4 f.checkValue ++ toBytes 4 f.durationSum
    ++ toBytes 4 f.firstStart ++ toBytes 4 f.lastStart ++ toBytes 2 f.expiryDay ++ toBytes 1 f.writeAttempts
    ++ toBytes 1 f.deleteAttempts ++ toBytes 1 f.verify.code ++ toBytes 1 f.verify.reasonCode ++ switchMap f.switches

/-- The opening's bytes, written 0 when absent. -/
def optionOpening (o : Option Opening) : List Byte :=
  match o with
  | none => toBytes 9 0
  | some o => openingBytes o

/-- The figures' bytes, written 0 when absent. -/
def optionFigures (f : Option Figures) : List Byte :=
  match f with
  | none => toBytes 90 0
  | some f => figureBytes f

/-- A catalog entry in its 104 bytes (section 12.8). -/
def entryBytes (id : Nat) (e : CatalogEntry) : List Byte :=
  toBytes 3 id ++ toBytes 1 e.edition ++ toBytes 1 e.state.code.val ++ optionOpening e.opening ++ optionFigures e.figures

/-! ### The results of queries -/

/-- A trailer, written 0 when absent. -/
def trailerBytes (t : Option Trailer) : List Byte :=
  match t with
  | none => flagByte false ++ toBytes 20 0
  | some t => flagByte true ++ toBytes 4 t.recordCount ++ toBytes 8 t.durationSum ++ toBytes 8 t.chargeSum

/-- A file context, in the order of R16. -/
def contextBytes (c : FileContext) : List Byte :=
  toBytes 2 c.switch ++ toBytes 4 c.fileNumber ++ toBytes 1 c.bank.val ++ toBytes 4 c.generation ++ flagByte c.resend
    ++ flagByte c.continued ++ toBytes 4 c.expectedBlock ++ toBytes 4 c.blocksReceived ++ toBytes 4 c.blockGaps
    ++ toBytes 4 c.announced ++ toBytes 4 c.stored ++ toBytes 4 c.rejected ++ toBytes 4 c.duplicates ++ toBytes 4 c.lost
    ++ toBytes 4 c.pending ++ toBytes 8 c.durationSum ++ toBytes 8 c.chargeSum ++ optionBytes 2 c.minDay
    ++ optionBytes 2 c.maxDay ++ optionBytes 4 c.lastSequence ++ toBytes 4 c.sequenceGaps ++ flagByte c.overrun
    ++ optionBytes 2 c.fileDay ++ trailerBytes c.trailer

/-- A file context that may be absent (R39). -/
def optionContext (c : Option FileContext) : List Byte :=
  match c with
  | none => flagByte false ++ toBytes 105 0
  | some c => flagByte true ++ contextBytes c

/-- The results of QUERY LANE (R39). -/
def laneBytes (x : Lane) : List Byte :=
  toBytes 1 x.state.code ++ toBytes 1 x.bufA.owner.code ++ toBytes 1 x.bufB.owner.code ++ toBytes 1 x.lastFilled.code
    ++ flagByte x.paused ++ flagByte x.strayReport ++ toBytes 4 x.strayFrames ++ optionContext x.context

/-- A bank as QUERY BANKS gives it (R60). -/
def bankBytes (b : BankView) : List Byte :=
  toBytes 1 b.state.code ++ optionBytes 4 b.generation ++ toBytes 1 b.boundFiles ++ toBytes 4 b.references
    ++ optionBytes 1 (b.lastTable.map TableName.code) ++ toBytes 2 b.writeIndex

/-- The pending selection, written 0 when there is none (R60). -/
def selectionBytes (sel : Option Selection) : List Byte :=
  match sel with
  | none => flagByte false ++ toBytes 2 0
  | some x => flagByte true ++ toBytes 1 x.bank.val ++ toBytes 1 x.mode.code

/-- A hold's selector (R151); ANY is H'FFFF, as in HOLD_ADD (log entry 10). -/
def selectorBytes (h : HoldSelector) : List Byte :=
  toBytes 2 (h.switch.getD 0xFFFF) ++ toBytes 2 h.firstDay ++ toBytes 2 h.lastDay ++ toBytes 1 h.classes.toNat

/-- The nine totals, 64 bits each (R155, R158). -/
def totalsBytes (t : Totals) : List Byte :=
  toBytes 8 t.stored ++ toBytes 8 t.rejected ++ toBytes 8 t.duplicates ++ toBytes 8 t.lost ++ toBytes 8 t.evictions
    ++ toBytes 8 t.durationSum ++ toBytes 8 t.chargeSum ++ toBytes 8 t.filesClosed ++ toBytes 8 t.filesUnreconciled

/-- A switch row, each accumulator in its width (R155). -/
def rowBytes (r : SwitchRow) : List Byte :=
  toBytes 4 r.totals.stored ++ toBytes 4 r.totals.rejected ++ toBytes 4 r.totals.duplicates ++ toBytes 4 r.totals.lost
    ++ toBytes 4 r.totals.evictions ++ toBytes 8 r.totals.durationSum ++ toBytes 8 r.totals.chargeSum
    ++ toBytes 4 r.totals.filesClosed ++ toBytes 4 r.totals.filesUnreconciled ++ flagByte r.saturated

/-- The named switch's row, written 0 when it has none or no switch was named (R162). -/
def optionRow (r : Option (Option SwitchRow)) : List Byte :=
  match r with
  | some (some row) => flagByte true ++ rowBytes row
  | some none | none => flagByte false ++ toBytes 45 0

/-- The results of QUERY DAY (R162). -/
def dayBytes (d : DayView) : List Byte :=
  toBytes 1 d.state.code ++ toBytes 4 d.amendments ++ totalsBytes d.totals ++ toBytes 2 d.rowCount
    ++ toBytes 2 d.exceptions ++ optionRow d.row ++ totalsBytes d.unplaced

/-- A link's state and its three frame counts (R182, R183). -/
def portBytes (p : Port) : List Byte := flagByte p.up ++ toBytes 4 p.good ++ toBytes 4 p.checkFailed ++ toBytes 4 p.malformed

/-- The stall state and its cause (R94). -/
def stallBytes (s : StallState) : List Byte :=
  match s with
  | .runningFree => toBytes 1 s.code ++ optionBytes 1 none
  | .stalled c => toBytes 1 s.code ++ optionBytes 1 (some c.code)

/-- A tag: FREE 0 or OUTSTANDING 1, then its operation, id and edition, each absent in a FREE tag (R124, R184). -/
def tagBytes (t : Option Outstanding) : List Byte :=
  toBytes 1 t.isSome.toNat ++ optionBytes 1 (t.map fun op => op.operation.code) ++ optionBytes 4 (t.map Outstanding.segmentId)
    ++ optionBytes 1 (t.map Outstanding.edition)

/-- The Day Clock (R9). -/
def clockBytes (c : DayClock) : List Byte :=
  flagByte c.currentDay.isSome ++ optionBytes 2 c.currentDay ++ toBytes 1 c.lateWindow ++ optionBytes 1 c.pendingLate

/-- The sweeper with the auto sweep parameter (R151). -/
def sweeperBytes (w : Sweeper) (auto : Bool) : List Byte :=
  toBytes 1 w.stateCode ++ optionBytes 1 w.resumeCode ++ toBytes 4 w.cursor ++ flagByte w.anotherPass
    ++ toBytes 1 w.burstCount ++ toBytes 4 w.counts.examined ++ toBytes 4 w.counts.deleted ++ toBytes 4 w.counts.held
    ++ toBytes 4 w.counts.busy ++ toBytes 4 w.counts.notYetExpired ++ toBytes 4 w.counts.failed ++ flagByte auto

/-- The verifier with its scope and rest time (R163). -/
def verifierBytes (v : StatusView) : List Byte :=
  toBytes 1 v.verifierPhase.code ++ toBytes 4 v.verifierCursor ++ toBytes 4 v.verifierCounts.examined
    ++ toBytes 4 v.verifierCounts.fullOk ++ toBytes 4 v.verifierCounts.checkOnly ++ toBytes 4 v.verifierCounts.damaged
    ++ toBytes 4 v.verifierCounts.busy ++ toBytes 4 v.verifierCounts.failed ++ toBytes 1 v.verifyScope.code
    ++ toBytes 2 v.verifyRest

/-- The results of QUERY STATUS, in the order of R175. R175 names no fields of the holdoff state: that it is the run time
of the timer's expiry, in 4 bytes and absent while the timer is stopped, and then the due indication, is the model's choice
(log entry 38). R124 lists the stray-frame count before the tags and R175 after them: that R175 is followed is a DESIGN
CHOICE, unsafe (log entry 42). -/
def statusBytes (v : StatusView) : List Byte :=
  toBytes 1 v.device.code ++ toBytes 4 v.runTime ++ clockBytes v.clock ++ toBytes 1 v.controlLength
    ++ toBytes 1 v.reportLength ++ toBytes 4 v.reportsLost ++ optionBytes 4 v.holdoffTimer ++ flagByte v.holdoffDue
    ++ portBytes v.feed ++ portBytes v.store ++ toBytes 1 v.openSegments ++ toBytes 1 v.buffersFree
    ++ toBytes 1 v.buffersFilling ++ toBytes 1 v.buffersSealed ++ toBytes 1 v.buffersFailed ++ stallBytes v.stall
    ++ flagByte v.catalogFull ++ flagByte v.storeFull ++ toBytes 1 v.writeQueueLength ++ toBytes 1 v.writesOutstanding
    ++ toBytes 1 v.fullWaits ++ toBytes 4 v.freeIds ++ v.tags.flatMap tagBytes ++ toBytes 4 v.strayFrames
    ++ sweeperBytes v.sweeper v.autoSweep ++ verifierBytes v

/-- The results of QUERY IDENT (R175, R184). -/
def identBytes (device : DeviceState) (runTime : Nat) : List Byte :=
  toBytes 1 Config.vendorCode ++ toBytes 2 Config.partCode ++ toBytes 1 Config.revision ++ toBytes 1 Config.segmentFormat
    ++ toBytes 1 16 ++ toBytes 1 4 ++ toBytes 4 Config.catalogEntries ++ toBytes 1 32 ++ toBytes 1 8
    ++ toBytes 1 Config.holdEntries ++ toBytes 1 device.code ++ toBytes 4 runTime

/-- The results of QUERY PARAMS (R175), in the order of R174. -/
def paramBytes (p : Params) (lateWindow : Nat) (pendingLate : Option Nat) : List Byte :=
  toBytes 1 p.reportHoldoff ++ toBytes 1 lateWindow ++ toBytes 2 (p.sealTimeoutMs / 1000) ++ toBytes 2 p.storeTimeout
    ++ toBytes 2 p.fullRetry ++ toBytes 1 p.sweepBurst ++ toBytes 2 p.sweepRest ++ flagByte p.autoSweep
    ++ toBytes 2 p.verifyRest ++ toBytes 1 p.verifyScope.code ++ optionBytes 1 pendingLate

/-- The results of a response (section 12.6, R184). -/
def resultBytes : Results → List Byte
  | .none => []
  | .position entry => toBytes 1 entry
  | .index index => toBytes 2 index
  | .bankReady bank generation => toBytes 1 bank ++ toBytes 4 generation
  | .holdId holdId => toBytes 1 holdId
  | .valueTaken value => toBytes 4 value
  | .removed count => toBytes 1 count
  | .ident device runTime => identBytes device runTime
  | .status view => statusBytes view
  | .lane lane => laneBytes lane
  | .recent entry => contextBytes entry.context ++ toBytes 1 entry.outcome.code
  | .banks active selection loadCounter banks =>
    optionBytes 1 (active.map Fin.val) ++ selectionBytes selection ++ toBytes 4 loadCounter ++ banks.flatMap bankBytes
  | .catalog segmentId entry counts freeIds =>
    entryBytes segmentId entry ++ counts.flatMap (toBytes 4) ++ toBytes 4 freeIds
  | .day view => dayBytes view
  | .holds inUse waiting =>
    toBytes 1 inUse.length
      ++ inUse.flatMap (fun p => toBytes 1 p.1 ++ toBytes 1 p.2.kind.code ++ selectorBytes p.2.selector)
      ++ toBytes 1 waiting.length ++ waiting.flatMap selectorBytes
  | .params params lateWindow pendingLate => paramBytes params lateWindow pendingLate

/-! ### Reports (section 12.7) -/

/-- The kind code of a report (section 12.7). -/
def ReportKind.code : ReportKind → Nat
  | .fileClosed => 1
  | .fileAborted => 2
  | .fileRefused => 3
  | .laneOverrun => 4
  | .strayBlock => 5
  | .dayClosed => 6
  | .dayAmended => 7
  | .dayFinal => 8
  | .bankActive => 9
  | .bankRetired => 10
  | .segWriteFailed => 11
  | .storeFull => 12
  | .segDeleteFailed => 13
  | .segDamaged => 14
  | .sweepDone => 15
  | .sweepSuspended => 16
  | .verifyDone => 17
  | .holdMissed => 18
  | .holdPlaced => 19
  | .holdNotPlaced => 20
  | .catalogFull => 21
  | .catalogSpace => 22
  | .strayAck => 23
  | .accumSaturated => 24
  | .reportsLost => 25

/-- A report entry in its 24 bytes (section 12.7). That bits 7..2 of the presence byte are sent as 0 is a DESIGN CHOICE,
unsafe (log entry 40). -/
def reportBytes (r : Report) : List Byte :=
  toBytes 1 r.kind.code ++ toBytes 1 (r.archiveDay.isSome.toNat + 2 * r.subject.isSome.toNat)
    ++ toBytes 2 (r.archiveDay.getD 0) ++ toBytes 4 r.stamp ++ toBytes 4 (r.subject.getD 0) ++ toBytes 4 r.value1
    ++ toBytes 4 r.value2 ++ toBytes 4 r.value3

/-! ### Frames -/

/-- A frame sent on the Feed link (sections 12.1, 12.2, 12.6). -/
def feedBytes : FeedFrame → List Byte
  | .linkKeep => envelope 0x00 []
  | .lanePause lane => envelope 0x21 (toBytes 1 lane.val)
  | .laneResume lane => envelope 0x22 (toBytes 1 lane.val)
  | .response tag requestCode code results =>
    envelope 0x28 (toBytes 1 tag ++ toBytes 1 requestCode ++ toBytes 1 code.code ++ resultBytes results)
  | .bundle entries => envelope 0x29 (toBytes 1 entries.length ++ entries.flatMap reportBytes)

/-- The part byte of a SEGMENT WRITE: bit 7 the last marker, bits 1..0 the part number (section 12.3). The section names no
bits 6..2; that they are sent as 0 is a DESIGN CHOICE, unsafe (log entry 40). -/
def partByte (part : Nat) (last : Bool) : List Byte := toBytes 1 (128 * last.toNat + part % 4)

/-- The tag, segment id and edition that the Store link's frames begin with (section 12.3). -/
def operationBytes (tag : Fin 8) (segmentId edition : Nat) : List Byte :=
  toBytes 1 tag.val ++ toBytes 3 segmentId ++ toBytes 1 edition

/-- A frame sent on the Store link (sections 12.1, 12.3). -/
def storeBytes : StoreFrame → List Byte
  | .linkKeep => envelope 0x00 []
  | .segmentWrite tag segmentId edition part last bytes =>
    envelope 0x41 (operationBytes tag segmentId edition ++ partByte part last ++ bytes)
  | .segmentRead tag segmentId edition => envelope 0x42 (operationBytes tag segmentId edition)
  | .segmentDelete tag segmentId edition => envelope 0x43 (operationBytes tag segmentId edition)

end Sys2Proof.Machine
end

