-- ==== Sys2Proof/Machine/Receive.lean ====
section
/-! DEFINITION. Chapter 12, the frames received: the tests of R182 on the bytes that a receiver delimits, the reading of a
good frame as a command, and the writing of a command as the frame that carries it. -/

namespace Sys2Proof.Machine

/-! ### Fields -/

/-- A lane field, 0..15 (R182). -/
def laneOf (n : Nat) : Option (Fin 16) := if h : n < 16 then some ⟨n, h⟩ else none

/-- A tag field, 0..7 (R182). -/
def tagOf (n : Nat) : Option (Fin 8) := if h : n < 8 then some ⟨n, h⟩ else none

/-- A status field, 0..3 (R182, section 12.3). -/
def statusOf : Nat → Option AckStatus
  | 0 => some .ok
  | 1 => some .notFound
  | 2 => some .full
  | 3 => some .error
  | _ => none

/-- The code of a status (section 12.3). -/
def statusCode : AckStatus → Nat
  | .ok => 0
  | .notFound => 1
  | .full => 2
  | .error => 3

/-- Two digit positions to a byte, the first in the high half (section 12.4). -/
def digitsOfBytes (bs : List Byte) : List Nat := bs.flatMap (fun b => [b.toNat / 16, b.toNat % 16])

/-- Digit positions packed two to a byte (section 12.4). -/
def bytesOfDigits : List Nat → List Byte
  | d :: e :: rest => BitVec.ofNat 8 (16 * d + e) :: bytesOfDigits rest
  | [d] => [BitVec.ofNat 8 (16 * d)]
  | [] => []

/-- The pieces of `size` bytes that a run of bytes is made of. -/
def pieces (size : Nat) : Nat → List Byte → List (List Byte)
  | 0, _ => []
  | n + 1, bs => bs.take size :: pieces size n (bs.drop size)

/-! ### Call records (section 12.4) -/

/-- A call record read from its 48 bytes. -/
def recordOf (bs : List Byte) : CallRecord where
  kind := fieldAt bs 0 1
  cause := fieldAt bs 1 1
  switchId := fieldAt bs 2 3 / 32768
  service := fieldAt bs 2 3 / 32 % 1024
  trunk := fieldAt bs 5 2
  sequence := fieldAt bs 7 4
  startTime := fieldAt bs 11 4
  duration := fieldAt bs 15 4
  charge := fieldAt bs 19 4
  flags := fieldAt bs 23 2
  calling := { count := fieldAt bs 25 1, digits := digitsOfBytes ((bs.drop 26).take 10) }
  called := { count := fieldAt bs 36 1, digits := digitsOfBytes ((bs.drop 37).take 10) }

/-- A call record written in its 48 bytes. -/
def recordBytes (r : CallRecord) : List Byte :=
  toBytes 1 r.kind ++ toBytes 1 r.cause ++ toBytes 3 (r.switchId * 32768 + r.service * 32) ++ toBytes 2 r.trunk
    ++ toBytes 4 r.sequence ++ toBytes 4 r.startTime ++ toBytes 4 r.duration ++ toBytes 4 r.charge ++ toBytes 2 r.flags
    ++ toBytes 1 r.calling.count ++ bytesOfDigits r.calling.digits ++ toBytes 1 r.called.count
    ++ bytesOfDigits r.called.digits ++ toBytes 1 0

/-! ### Arguments of control requests (sections 12.6, 12.8, R184) -/

/-- The members of a switch map (R184). -/
def switchesOf (map : List Byte) : List Nat :=
  (List.range 512).filter (fun n => ((map.getD (n / 8) 0).toNat / 2 ^ (7 - n % 8)) % 2 = 1)

/-- A loaded entry read from its 104 bytes (section 12.8). -/
def loadEntryOf (bs : List Byte) : LoadEntry where
  segmentId := fieldAt bs 0 3
  edition := fieldAt bs 3 1
  cls := fieldAt bs 5 1
  day := fieldAt bs 6 2
  bank := fieldAt bs 8 1
  generation := fieldAt bs 9 4
  late := decide (fieldAt bs 13 1 % 2 = 1)
  recordCount := fieldAt bs 14 2
  bodyLength := fieldAt bs 16 2
  checkValue := fieldAt bs 18 4
  durationSum := fieldAt bs 22 4
  firstStart := fieldAt bs 26 4
  lastStart := fieldAt bs 30 4
  expiryDay := fieldAt bs 34 2
  verifyCode := fieldAt bs 38 1
  reasonCode := fieldAt bs 39 1
  switches := switchesOf (bs.drop 40)

/-- A loaded entry written in its 104 bytes; the state and both attempt counts are not read and are written 0. -/
def loadEntryBytes (e : LoadEntry) : List Byte :=
  toBytes 3 e.segmentId ++ toBytes 1 e.edition ++ toBytes 1 0 ++ toBytes 1 e.cls ++ toBytes 2 e.day ++ toBytes 1 e.bank
    ++ toBytes 4 e.generation ++ flagByte e.late ++ toBytes 2 e.recordCount ++ toBytes 2 e.bodyLength
    ++ toBytes 4 e.checkValue ++ toBytes 4 e.durationSum ++ toBytes 4 e.firstStart ++ toBytes 4 e.lastStart
    ++ toBytes 2 e.expiryDay ++ toBytes 2 0 ++ toBytes 1 e.verifyCode ++ toBytes 1 e.reasonCode ++ switchMap e.switches

/-- The entry size of a TABLE_WRITE's table (R184). -/
def tableEntrySize : TableName → Nat
  | .serviceMap => 1
  | .classTable => 2
  | .switchTable => 3
  | .prefixDictionary => 7

/-- The table that a table byte names (section 12.6). -/
def tableNamed : Nat → Option TableName
  | 0 => some .serviceMap
  | 1 => some .classTable
  | 2 => some .switchTable
  | 3 => some .prefixDictionary
  | _ => none

/-- A switch table entry read from its 3 bytes (R184). -/
def switchPairOf (bs : List Byte) : Nat × Int := (fieldAt bs 0 1, ofWord16 (fieldAt bs 1 2))

/-- A dictionary entry read from its 7 bytes (R184). -/
def dictionaryNumberOf (bs : List Byte) : Number := { count := fieldAt bs 0 1, digits := digitsOfBytes ((bs.drop 1).take 6) }

/-- The entries of a TABLE_WRITE read from their bytes (R184). -/
def tableEntriesOf (table : TableName) (n : Nat) (bs : List Byte) : TableEntries :=
  let items := pieces (tableEntrySize table) n bs
  match table with
  | .serviceMap => .serviceMap (items.map ofBytes)
  | .classTable => .classTable (items.map ofBytes)
  | .switchTable => .switchTable (items.map switchPairOf)
  | .prefixDictionary => .prefixDictionary (items.map dictionaryNumberOf)

/-- The entries of a TABLE_WRITE written in their bytes (R184). -/
def tableEntryBytes : TableEntries → List Byte
  | .serviceMap xs => xs.flatMap (toBytes 1)
  | .classTable xs => xs.flatMap (toBytes 2)
  | .switchTable xs => xs.flatMap (fun e => toBytes 1 e.1 ++ toBytes 2 (toWord16 e.2))
  | .prefixDictionary xs => xs.flatMap (fun d => toBytes 1 d.count ++ bytesOfDigits d.digits)

/-- The start index that a word stands for; H'FFFF is CONTINUE (section 12.6). -/
def startIndexOf (word : Nat) : Option Nat := if word = 0xFFFF then none else some word

/-- A command whose arguments have the length of their layout. -/
def withLength (n : Nat) (args : List Byte) (i : Instr) : Option Instr := if args.length = n then some i else none

/-- RESET's arguments (section 12.6). -/
def resetCommand (tag : Nat) (args : List Byte) : Option Instr :=
  if args.length = 1 then
    match fieldAt args 0 1 with
    | 0 => some (.resetWarm tag)
    | 1 => some (.resetCold tag)
    | _ => none
  else none

/-- CATALOG_LOAD's arguments (section 12.6). -/
def catalogLoadCommand (tag : Nat) (args : List Byte) : Option Instr :=
  let n := fieldAt args 0 1
  withLength (1 + 104 * n) args (.catalogLoad tag ((pieces 104 n (args.drop 1)).map loadEntryOf))

/-- TABLE_WRITE's arguments (section 12.6, R184). -/
def tableWriteCommand (tag : Nat) (args : List Byte) : Option Instr :=
  match tableNamed (fieldAt args 1 1) with
  | none => none
  | some table =>
    let n := fieldAt args 4 1
    withLength (5 + n * tableEntrySize table) args
      (.tableWrite tag (fieldAt args 0 1) (startIndexOf (fieldAt args 2 2)) (tableEntriesOf table n (args.drop 5)))

/-- SET's arguments: the parameter, numbered in the order of R174, and the value (section 12.6). -/
def setCommand (tag : Nat) (args : List Byte) : Option Instr :=
  let v := fieldAt args 1 4
  if args.length = 5 then
    match fieldAt args 0 1 with
    | 0 => some (.setReportHoldoff tag v)
    | 1 => some (.setLateWindow tag v)
    | 2 => some (.setSealTimeout tag v)
    | 3 => some (.setStoreTimeout tag v)
    | 4 => some (.setFullRetry tag v)
    | 5 => some (.setSweepBurst tag v)
    | 6 => some (.setSweepRest tag v)
    | 7 => some (.setAutoSweep tag v)
    | 8 => some (.setVerifyRest tag v)
    | 9 => some (.setVerifyScope tag v)
    | _ => none
  else none

/-- QUERY's arguments: the kind, numbered in the order of R175, and the argument (section 12.6, R184). -/
def queryCommand (tag : Nat) (args : List Byte) : Option Instr :=
  let v := fieldAt args 1 4
  if args.length = 5 then
    match fieldAt args 0 1 with
    | 0 => some (.queryIdent tag)
    | 1 => some (.queryStatus tag)
    | 2 => some (.queryLane tag v)
    | 3 => some (.queryRecent tag v)
    | 4 => some (.queryBanks tag)
    | 5 => some (.queryCatalog tag v)
    | 6 => some (.queryDay tag (v / 65536) (v % 65536))
    | 7 => some (.queryHolds tag)
    | 8 => some (.queryParams tag)
    | _ => none
  else none

/-- The control request that a request code and arguments name; none when the name is unknown or the length does not match
its layout (section 12.6, R170 test 1). -/
def namedRequest (tag code : Nat) (args : List Byte) : Option Instr :=
  match code with
  | 0x01 => withLength 2 args (.start tag (fieldAt args 0 2))
  | 0x02 => catalogLoadCommand tag args
  | 0x10 => withLength 2 args (.tableBegin tag (fieldAt args 0 1) (fieldAt args 1 1))
  | 0x11 => tableWriteCommand tag args
  | 0x12 => withLength 6 args (.tableEnd tag (fieldAt args 0 1) (fieldAt args 1 1) (fieldAt args 2 4))
  | 0x13 => withLength 2 args (.tableSelect tag (fieldAt args 0 1) (fieldAt args 1 1))
  | 0x14 => withLength 0 args (.tableCancel tag)
  | 0x20 => withLength 0 args (.dayClose tag)
  | 0x30 => withLength 7 args (.holdAdd tag (fieldAt args 0 2) (fieldAt args 2 2) (fieldAt args 4 2) (fieldAt args 6 1))
  | 0x31 => withLength 1 args (.holdRelease tag (fieldAt args 0 1))
  | 0x40 => withLength 1 args (.sweepStart tag (fieldAt args 0 1))
  | 0x41 => withLength 0 args (.sweepStop tag)
  | 0x48 => withLength 1 args (.verifyStart tag (fieldAt args 0 1))
  | 0x49 => withLength 0 args (.verifyStop tag)
  | 0x50 => withLength 4 args (.segmentRetry tag (fieldAt args 0 3) (fieldAt args 3 1))
  | 0x51 => withLength 4 args (.segmentDiscard tag (fieldAt args 0 3) (fieldAt args 3 1))
  | 0x60 => setCommand tag args
  | 0x70 => queryCommand tag args
  | 0x7F => resetCommand tag args
  | _ => none

/-- The control request of a CONTROL REQUEST payload of two bytes or more (section 12.6). -/
def controlCommand (tag code : Nat) (args : List Byte) : Instr :=
  (namedRequest tag code args).getD (.unknownControlRequest tag code args)

/-! ### Payloads (sections 12.2, 12.3) -/

/-- FILE OPEN. -/
def fileOpenCommand (p : List Byte) : Option Instr :=
  if p.length = 7 then
    (laneOf (fieldAt p 0 1)).map fun lane =>
      .fileOpen lane (decide (32768 ≤ fieldAt p 1 2)) (fieldAt p 1 2 % 512) (fieldAt p 3 4)
  else none

/-- RECORD BLOCK. -/
def recordBlockCommand (p : List Byte) : Option Instr :=
  let n := fieldAt p 5 1
  if 6 ≤ p.length ∧ p.length = 6 + 48 * n ∧ 1 ≤ n ∧ n ≤ Config.blockRecordLimit then
    (laneOf (fieldAt p 0 1)).map fun lane =>
      .recordBlock lane (fieldAt p 1 4) ((pieces 48 n (p.drop 6)).map recordOf)
  else none

/-- FILE CLOSE. -/
def fileCloseCommand (p : List Byte) : Option Instr :=
  if p.length = 21 then
    (laneOf (fieldAt p 0 1)).map fun lane => .fileClose lane (fieldAt p 1 4) (fieldAt p 5 8) (fieldAt p 13 8)
  else none

/-- FILE ABORT. -/
def fileAbortCommand (p : List Byte) : Option Instr :=
  if p.length = 1 then (laneOf (fieldAt p 0 1)).map .fileAbort else none

/-- CONTROL REQUEST: a payload of fewer than two bytes has no request to answer (log entry 15). A longer payload is a good
frame whatever its length, above the 16,390 bytes of section 12.1 too (log entry 39). -/
def controlRequestCommand (p : List Byte) : Option Instr :=
  if p.length < 2 then none else some (controlCommand (fieldAt p 0 1) (fieldAt p 1 1) (p.drop 2))

/-- STORE ACK. -/
def storeAckCommand (p : List Byte) : Option Instr :=
  if p.length = 6 then
    match tagOf (fieldAt p 0 1), statusOf (fieldAt p 5 1) with
    | some tag, some status => some (.storeAck tag (fieldAt p 1 3) (fieldAt p 4 1) status)
    | _, _ => none
  else none

/-- READ DATA. Bit 7 of the last byte is the last marker (section 12.3); that its other bits are not read is a DESIGN CHOICE,
unsafe (log entry 40). -/
def readDataCommand (p : List Byte) : Option Instr :=
  if 2 ≤ p.length ∧ p.length ≤ 2 + Config.partLimit then
    (tagOf (fieldAt p 0 1)).map fun tag => .readData tag (decide (128 ≤ fieldAt p 1 1)) (p.drop 2)
  else none

/-- The command of a payload, by the kinds that each port receives; none when the frame is malformed (R182 step 2). -/
def payloadCommand (port : PortId) (kind : Nat) (p : List Byte) : Option Instr :=
  match port, kind with
  | _, 0x00 => if p = [] then some (.linkKeep port) else none
  | .feed, 0x11 => fileOpenCommand p
  | .feed, 0x12 => recordBlockCommand p
  | .feed, 0x13 => fileCloseCommand p
  | .feed, 0x14 => fileAbortCommand p
  | .feed, 0x18 => controlRequestCommand p
  | .store, 0x51 => storeAckCommand p
  | .store, 0x52 => readDataCommand p
  | _, _ => none

/-- The command that a received frame is (R182): a failed check, a malformed frame, or what the frame carries. Section 12.1
gives the length field as 0..16,390; R182 names no test of that limit and the model makes none, so that a CONTROL REQUEST
above it is a good frame (log entry 39). -/
def receive (port : PortId) (frame : List Byte) : Instr :=
  let body := frame.take (frame.length - 4)
  let payload := body.drop 3
  if frame.length < 7 ∨ ofBytes (frame.drop (frame.length - 4)) ≠ checkValue body then .frameCheckFailed port
  else if fieldAt frame 1 2 ≠ payload.length then .malformedFrame port
  else (payloadCommand port (fieldAt frame 0 1) payload).getD (.malformedFrame port)

/-! ### Frames written -/

/-- A CONTROL REQUEST frame (section 12.6). -/
def requestFrame (tag code : Nat) (args : List Byte) : PortId × List Byte :=
  (.feed, envelope 0x18 (toBytes 1 tag ++ toBytes 1 code ++ args))

/-- A SET frame. -/
def setFrame (tag parameter value : Nat) : PortId × List Byte :=
  requestFrame tag 0x60 (toBytes 1 parameter ++ toBytes 4 value)

/-- A QUERY frame. -/
def queryFrame (tag kind argument : Nat) : PortId × List Byte :=
  requestFrame tag 0x70 (toBytes 1 kind ++ toBytes 4 argument)

/-- The table byte of a TABLE_WRITE. -/
def tableByte (entries : TableEntries) : List Byte := toBytes 1 (tableOf entries).code

/-- The frame that carries a command, with the port it arrives on; none for a command that is no frame. -/
def frameOf : Instr → Option (PortId × List Byte)
  | .linkKeep port => some (port, envelope 0x00 [])
  | .fileOpen lane continueFlag switchId fileNumber =>
    some (.feed, envelope 0x11
      (toBytes 1 lane.val ++ toBytes 2 (32768 * continueFlag.toNat + switchId) ++ toBytes 4 fileNumber))
  | .recordBlock lane blockNumber records =>
    some (.feed, envelope 0x12
      (toBytes 1 lane.val ++ toBytes 4 blockNumber ++ toBytes 1 records.length ++ records.flatMap recordBytes))
  | .fileClose lane recordCount durationSum chargeSum =>
    some (.feed, envelope 0x13
      (toBytes 1 lane.val ++ toBytes 4 recordCount ++ toBytes 8 durationSum ++ toBytes 8 chargeSum))
  | .fileAbort lane => some (.feed, envelope 0x14 (toBytes 1 lane.val))
  | .storeAck tag segmentId edition status =>
    some (.store, envelope 0x51 (operationBytes tag segmentId edition ++ toBytes 1 (statusCode status)))
  | .readData tag last bytes => some (.store, envelope 0x52 (toBytes 1 tag.val ++ toBytes 1 (128 * last.toNat) ++ bytes))
  | .resetWarm tag => some (requestFrame tag 0x7F (toBytes 1 0))
  | .resetCold tag => some (requestFrame tag 0x7F (toBytes 1 1))
  | .start tag day => some (requestFrame tag 0x01 (toBytes 2 day))
  | .catalogLoad tag entries => some (requestFrame tag 0x02 (toBytes 1 entries.length ++ entries.flatMap loadEntryBytes))
  | .tableBegin tag bank force => some (requestFrame tag 0x10 (toBytes 1 bank ++ toBytes 1 force))
  | .tableWrite tag bank startIndex entries =>
    some (requestFrame tag 0x11
      (toBytes 1 bank ++ tableByte entries ++ toBytes 2 (startIndex.getD 0xFFFF) ++ toBytes 1 (entryCount entries)
        ++ tableEntryBytes entries))
  | .tableEnd tag bank supplied generation =>
    some (requestFrame tag 0x12 (toBytes 1 bank ++ toBytes 1 supplied ++ toBytes 4 generation))
  | .tableSelect tag bank mode => some (requestFrame tag 0x13 (toBytes 1 bank ++ toBytes 1 mode))
  | .tableCancel tag => some (requestFrame tag 0x14 [])
  | .dayClose tag => some (requestFrame tag 0x20 [])
  | .holdAdd tag switchWord firstDay lastDay classSet =>
    some (requestFrame tag 0x30 (toBytes 2 switchWord ++ toBytes 2 firstDay ++ toBytes 2 lastDay ++ toBytes 1 classSet))
  | .holdRelease tag holdId => some (requestFrame tag 0x31 (toBytes 1 holdId))
  | .sweepStart tag mode => some (requestFrame tag 0x40 (toBytes 1 mode))
  | .sweepStop tag => some (requestFrame tag 0x41 [])
  | .verifyStart tag mode => some (requestFrame tag 0x48 (toBytes 1 mode))
  | .verifyStop tag => some (requestFrame tag 0x49 [])
  | .segmentRetry tag segmentId edition => some (requestFrame tag 0x50 (toBytes 3 segmentId ++ toBytes 1 edition))
  | .segmentDiscard tag segmentId edition => some (requestFrame tag 0x51 (toBytes 3 segmentId ++ toBytes 1 edition))
  | .setReportHoldoff tag value => some (setFrame tag 0 value)
  | .setLateWindow tag value => some (setFrame tag 1 value)
  | .setSealTimeout tag value => some (setFrame tag 2 value)
  | .setStoreTimeout tag value => some (setFrame tag 3 value)
  | .setFullRetry tag value => some (setFrame tag 4 value)
  | .setSweepBurst tag value => some (setFrame tag 5 value)
  | .setSweepRest tag value => some (setFrame tag 6 value)
  | .setAutoSweep tag value => some (setFrame tag 7 value)
  | .setVerifyRest tag value => some (setFrame tag 8 value)
  | .setVerifyScope tag value => some (setFrame tag 9 value)
  | .queryIdent tag => some (queryFrame tag 0 0)
  | .queryStatus tag => some (queryFrame tag 1 0)
  | .queryLane tag lane => some (queryFrame tag 2 lane)
  | .queryRecent tag position => some (queryFrame tag 3 position)
  | .queryBanks tag => some (queryFrame tag 4 0)
  | .queryCatalog tag segmentId => some (queryFrame tag 5 segmentId)
  | .queryDay tag day switchWord => some (queryFrame tag 6 (65536 * day + switchWord))
  | .queryHolds tag => some (queryFrame tag 7 0)
  | .queryParams tag => some (queryFrame tag 8 0)
  | .unknownControlRequest tag code arguments => some (requestFrame tag code arguments)
  | .powerOnReset | .feedLinkLoss _ | .feedLinkUp | .storeLinkLoss _ | .storeLinkUp | .linkKeepSend _ | .parseRecord
  | .sealTimeout _ | .tagTimeout _ | .fullWaitExpiry _ | .sweepRestExpiry | .verifyRestExpiry | .holdoffTimerExpiry
  | .validationComplete | .startComputationComplete | .frameCheckFailed _ | .malformedFrame _ | .receiverLocked _
  | .receiverLockLost _ => none

end Sys2Proof.Machine
end

