-- ==== Sys2Proof/WellFormed.lean ====
section
/-! DEFINITION. Well-formed commands: every operand inside the range that its field of chapter 12 can carry. Operands that
a rule of the spec refuses (a bank above 3, a day of 65,535, an edition that does not match) are well formed: their
refusal is the command's effect. -/

namespace Sys2Proof.WellFormed

/-- A value that fits in `n` bytes. -/
def fits (n v : Nat) : Bool := decide (v < 256 ^ n)

/-- A number of a call record: a count of one byte and 20 digit positions of four bits (section 12.4). -/
def number (positions : Nat) (x : Number) : Bool :=
  fits 1 x.count && decide (x.digits.length = positions) && x.digits.all (fun d => decide (d < 16))

/-- A call record (section 12.4). -/
def record (r : CallRecord) : Bool :=
  fits 1 r.kind && fits 1 r.cause && decide (r.switchId < 512) && decide (r.service < 1024) && fits 2 r.trunk
    && fits 4 r.sequence && fits 4 r.startTime && fits 4 r.duration && fits 4 r.charge && fits 2 r.flags
    && number 20 r.calling && number 20 r.called

/-- The records of a RECORD BLOCK, 1 to 170 (R23, R182). -/
def records (rs : List CallRecord) : Bool :=
  decide (1 ≤ rs.length) && decide (rs.length ≤ Config.blockRecordLimit) && rs.all record

/-- A switch set in ascending order without repeats, of ids 0..511 (R184). -/
def switchSet (ws : List Nat) : Bool := decide (ws.Pairwise (· < ·)) && ws.all (fun w => decide (w < 512))

/-- A loaded entry (section 12.8). -/
def loadEntry (e : LoadEntry) : Bool :=
  fits 3 e.segmentId && fits 1 e.edition && fits 1 e.cls && fits 2 e.day && fits 1 e.bank && fits 4 e.generation
    && fits 2 e.recordCount && fits 2 e.bodyLength && fits 4 e.checkValue && fits 4 e.durationSum && fits 4 e.firstStart
    && fits 4 e.lastStart && fits 2 e.expiryDay && fits 1 e.verifyCode && fits 1 e.reasonCode && switchSet e.switches

/-- The entries of a CATALOG_LOAD: no more than one frame's payload carries (sections 12.1, 12.6). -/
def loadEntries (es : List LoadEntry) : Bool := decide (es.length ≤ 157) && es.all loadEntry

/-- A switch table entry: a byte and a signed 16-bit offset (R184). -/
def switchPair (e : Nat × Int) : Bool := fits 1 e.1 && decide (-32768 ≤ e.2) && decide (e.2 ≤ 32767)

/-- The entries of a TABLE_WRITE, with a count of one byte (R184). -/
def tableEntries (xs : TableEntries) : Bool :=
  fits 1 (Machine.entryCount xs)
    && (match xs with
        | .serviceMap cs => cs.all (fits 1)
        | .classTable ds => ds.all (fits 2)
        | .switchTable es => es.all switchPair
        | .prefixDictionary ns => ns.all (number 12))

/-- A start index: two bytes, of which H'FFFF stands for CONTINUE (section 12.6). -/
def startIndex (i : Option Nat) : Bool :=
  match i with
  | none => true
  | some i => decide (i < 0xFFFF)

/-- A request that no layout of section 12.6 reads: bytes of a frame that name nothing (R170 test 1). -/
def unknownRequest (tag code : Nat) (arguments : List Byte) : Bool :=
  fits 1 tag && fits 1 code && decide (arguments.length ≤ 16388)
    && (Machine.namedRequest tag code arguments).isNone

/-- Every operand of a command is inside the range of its field. -/
def command : Instr → Bool
  | .powerOnReset | .feedLinkLoss _ | .feedLinkUp | .storeLinkLoss _ | .storeLinkUp | .linkKeep _ | .linkKeepSend _
  | .fileAbort _ | .parseRecord | .tagTimeout _ | .sweepRestExpiry | .verifyRestExpiry | .holdoffTimerExpiry
  | .validationComplete | .startComputationComplete | .frameCheckFailed _ | .malformedFrame _ | .receiverLocked _
  | .receiverLockLost _ => true
  | .resetWarm tag | .resetCold tag | .tableCancel tag | .dayClose tag | .sweepStop tag | .verifyStop tag
  | .queryIdent tag | .queryStatus tag | .queryBanks tag | .queryHolds tag | .queryParams tag => fits 1 tag
  | .fileOpen _ _ switchId fileNumber => decide (switchId < 512) && fits 4 fileNumber
  | .recordBlock _ blockNumber rs => fits 4 blockNumber && records rs
  | .fileClose _ recordCount durationSum chargeSum => fits 4 recordCount && fits 8 durationSum && fits 8 chargeSum
  | .storeAck _ segmentId edition _ => fits 3 segmentId && fits 1 edition
  | .readData _ _ bytes => decide (bytes.length ≤ Config.partLimit)
  | .sealTimeout segmentId | .fullWaitExpiry segmentId => decide (segmentId < Config.catalogEntries)
  | .start tag day => fits 1 tag && fits 2 day
  | .catalogLoad tag es => fits 1 tag && loadEntries es
  | .tableBegin tag bank force => fits 1 tag && fits 1 bank && fits 1 force
  | .tableWrite tag bank start xs => fits 1 tag && fits 1 bank && startIndex start && tableEntries xs
  | .tableEnd tag bank supplied generation => fits 1 tag && fits 1 bank && fits 1 supplied && fits 4 generation
  | .tableSelect tag bank mode => fits 1 tag && fits 1 bank && fits 1 mode
  | .holdAdd tag switchWord firstDay lastDay classSet =>
    fits 1 tag && fits 2 switchWord && fits 2 firstDay && fits 2 lastDay && fits 1 classSet
  | .holdRelease tag holdId => fits 1 tag && fits 1 holdId
  | .sweepStart tag mode | .verifyStart tag mode => fits 1 tag && fits 1 mode
  | .segmentRetry tag segmentId edition | .segmentDiscard tag segmentId edition =>
    fits 1 tag && fits 3 segmentId && fits 1 edition
  | .setReportHoldoff tag value | .setLateWindow tag value | .setSealTimeout tag value | .setStoreTimeout tag value
  | .setFullRetry tag value | .setSweepBurst tag value | .setSweepRest tag value | .setAutoSweep tag value
  | .setVerifyRest tag value | .setVerifyScope tag value => fits 1 tag && fits 4 value
  | .queryLane tag argument | .queryRecent tag argument | .queryCatalog tag argument => fits 1 tag && fits 4 argument
  | .queryDay tag day switchWord => fits 1 tag && fits 2 day && fits 2 switchWord
  | .unknownControlRequest tag code arguments => unknownRequest tag code arguments

end Sys2Proof.WellFormed
end

