-- ==== Sys2Proof/Certificates/Slice0/Obligations.lean ====
section
/-! DEFINITION. The statements about the CA-420: one `def Obligations.<Name> : Prop` each. A command's result is written as
the whole next state, so that it states the command's frame with its effect. In those equations `flushReports` stands for
the bundles due at the end of an event (`FlushSendsOldestFirst`), `arbitrate` for the arbiter's grants
(`ArbiterLeavesNothingToGrant`, `ArbiterDeletesOnlyExpiredUnheld`), and `settle` for the one after the other (log entry
3). A request's result is stated where it is taken at once (`Attentive`); `RequestsWaitTheirTurn` and
`WaitingRequestsAnswered` state the other cases. -/

open Sys2Proof Sys2Proof.Machine Sys2Proof.Safety

/-! ### The block and its queue of commands -/

/-- A step runs the command at the front of the queue on the queue's rest; with none waiting a millisecond passes. That the
commands form one queue, and that the empty queue stands for the passing of time, is the model's choice (log entry 1). -/
def Obligations.StepTakesFrontCommand : Prop :=
  ∀ s : State,
    (∀ c rest, s.pending = c :: rest → step s = exec c { s with pending := rest })
    ∧ (s.pending = [] → step s = .next { s with runTime := (s.runTime + 1) % 4294967296 })

/-- Every command has a next state in every state. None touches the queue of commands, and frames already sent on a link
stay as they were sent. That the queue and the two logs of sent frames are there, and are kept over every command, the
resets among them, is the model's choice (log entries 1, 8 and 25). -/
def Obligations.EveryCommandCompletes : Prop :=
  ∀ (c : Instr) (s : State), ∃ t,
    exec c s = .next t ∧ t.pending = s.pending ∧ s.feedTx <+: t.feedTx ∧ s.storeTx <+: t.storeTx

/-- Nothing is sent on a port that is DOWN with its receiver not locked, whatever the command (R173, R26, R122, R183). -/
def Obligations.NothingSentOnDownLinks : Prop :=
  ∀ (c : Instr) (s t : State), exec c s = .next t →
    (s.feed.up = false → s.feed.locked = false → t.feedTx = s.feedTx)
    ∧ (s.store.up = false → s.store.locked = false → t.storeTx = s.storeTx)

/-! ### Resets -/

/-- What power-on reset leaves, block by block, and that it meets every invariant of Safety. The two indicator outputs show
both links DOWN (R183). The spec gives the Verifier's read buffer no value after reset: that it is empty is the model's own
(DEDUCED, log entry 29). -/
def Obligations.ResetHoldsPowerOnValues : Prop :=
  let s := State.reset
  (s.device = .starting ∧ s.runTime = 0 ∧ s.control = []
    ∧ s.reports = { entries := [], lost := 0, timer := none, due := false }
    ∧ s.params = { reportHoldoff := 1, sealTimeoutMs := 300000, storeTimeout := 2000, fullRetry := 1000, sweepBurst := 8,
                   sweepRest := 50, autoSweep := true, verifyRest := 200, verifyScope := .unverified })
  ∧ (∀ p, (s.port p).up = false ∧ (s.port p).locked = false ∧ (s.port p).good = 0 ∧ (s.port p).checkFailed = 0
      ∧ (s.port p).malformed = 0)
  ∧ s.linkFd = false ∧ s.linkSt = false
  ∧ s.clock = { currentDay := none, lateWindow := 2, pendingLate := none }
  ∧ (∀ l, (s.lane l).state = .idle ∧ (s.lane l).context = none ∧ (s.lane l).bufA.owner = .link
      ∧ (s.lane l).bufB.owner = .link ∧ (s.lane l).lastFilled = .b ∧ (s.lane l).paused = false
      ∧ (s.lane l).strayReport = false ∧ (s.lane l).strayFrames = 0)
  ∧ s.recent = [] ∧ s.parser = { phase := .idle, lastLane := 15 }
  ∧ (∀ b, (s.bank b).state = .empty ∧ (s.bank b).generation = none ∧ (s.bank b).boundFiles = 0
      ∧ (s.bank b).references = 0 ∧ (s.bank b).lastTable = none ∧ (s.bank b).writeIndex = 0)
  ∧ s.selection = none ∧ s.loadCounter = 0
  ∧ (∀ bucket way, wayAt s.filter bucket way = none)
  ∧ s.openSegments = [] ∧ (∀ i, (s.buffer i).state = .free) ∧ s.stall = .runningFree
  ∧ s.catalogFull = false ∧ s.storeFull = false ∧ s.writeQueue = [] ∧ s.fullWaits = []
  ∧ (∀ id, s.entry id = { edition := 0, state := .free, opening := none, figures := none })
  ∧ s.stateCounts = #v[262144, 0, 0, 0, 0, 0, 0, 0] ∧ s.freeIds = []
  ∧ (∀ t, s.tag t = none) ∧ s.lastTag = 7 ∧ s.turn = .sweeper ∧ s.strayFrames = 0
  ∧ (∀ h, s.hold h = none) ∧ s.pendingHolds = []
  ∧ s.sweeper = { phase := .idle, suspended := false, cursor := 0, anotherPass := false, burstCount := 0, restExpiry := none
                  counts := { examined := 0, deleted := 0, held := 0, busy := 0, notYetExpired := 0, failed := 0 } }
  ∧ s.verifier = { phase := .idle, cursor := 0, restExpiry := none, readBuffer := []
                   counts := { examined := 0, fullOk := 0, checkOnly := 0, damaged := 0, busy := 0, failed := 0 } }
  ∧ s.days = [] ∧ s.unplaced = {}
  ∧ ReportsSound s ∧ ListsBounded s ∧ SuspendedExactly s ∧ BanksSound s ∧ PausedExactly s ∧ WalkersSound s
  ∧ ParamsInRange s ∧ CatalogSound s ∧ RecordsConserved s ∧ GrantsTaken s

/-- POWER_ON_RESET and RESET_COLD give every piece of the LSI's state its value after power-on reset; the DONE response of
RESET_COLD is sent first where the Feed link is UP. On a DOWN, locked port the RESET frame first brings the link UP, and what
that hands on is sent before DONE: this is DEDUCED (log entry 23). That the commands still waiting and the frames already
sent are kept is the model's choice (log entries 8 and 25). -/
def Obligations.PowerOnAndColdReset : Prop :=
  ∀ s : State,
    let fresh := fun sent : List FeedFrame =>
      { State.reset with pending := s.pending, feedTx := s.feedTx ++ sent, storeTx := s.storeTx }
    exec .powerOnReset s = .next (fresh [])
    ∧ ∀ tag,
      (s.feed.up = true → exec (.resetCold tag) s = .next (fresh [.response tag 0x7F .done .none]))
      ∧ (s.feed.up = false → s.feed.locked = false → exec (.resetCold tag) s = .next (fresh []))
      ∧ (s.feed.up = false → s.feed.locked = true →
          ∃ sent, exec (.resetCold tag) s = .next (fresh (sent ++ [.response tag 0x7F .done .none])))

/-- RESET_WARM ends the ingest and background work as the state `t` says: the walkers stop and the queue empties; each
discarded record is one lost addition on the current day; the lanes empty and the paused ones are resumed; the files end as
ABORTED in ascending lane number, each leaving its bank; the open segments are sealed in list order; DONE carries the number
of requests removed; then come the grants and the bundles (R176, R37, R98, R142, R164). The rest stays: device state, Time
Base, parameters, Day Clock, selection, load counter, filter, free ids, holds, FULL waits, flags, the OUTSTANDING tags, the
entries of no open segment, the banks but for the files that leave. The order of the blocks and of the bundles is DEDUCED
(log entries 11, 3 and 21), that of the LANE RESUMEs and of the discarded records the model's choice (log entries 35, 36), as
is the log of sent frames (log entry 8). -/
def Obligations.WarmResetEndsIngest : Prop :=
  ∀ (s : State) (tag : Nat), RecordsConserved s → ListsBounded s →
    let h := heardAnyway s
    let stopped := { h with
      control := []
      sweeper := if s.sweeper.phase = .idle ∨ s.sweeper.phase = .stopped then s.sweeper
        else { s.sweeper with phase := .stopped, restExpiry := none }
      verifier := if s.verifier.phase = .idle ∨ s.verifier.phase = .stopped then s.verifier
        else { s.verifier with phase := .stopped, restExpiry := none } }
    let counted := (discards s).foldl (fun x l => match (s.lane l).context with
      | none => x
      | some c => addToCurrentDay c.switch .lost 1 x) stopped
    let emptied := sentIfUp ((pausedLanes s).map .laneResume) { counted with
      lanes := s.lanes.map fun x => { x with
        context := x.context.map fun c => { c with pending := 0, lost := c.lost + c.pending }
        bufA := {}, bufB := {}, paused := false } }
    let files := (List.finRange 16).filterMap fun l => (s.lane l).context.map fun c =>
      (l, { c with pending := 0, lost := c.lost + c.pending, trailer := none })
    let ended := files.foldl (fun x p =>
        let raised := raise .fileAborted (some p.1.val) p.2.switch p.2.fileNumber p.2.lost x
        unbindFile p.2.bank { raised with
          recent := (if 64 ≤ x.recent.length then x.recent.drop 1 else x.recent) ++ [{ context := p.2, outcome := .aborted }]
          lanes := x.lanes.set p.1 { x.lane p.1 with state := .idle, context := none } })
      emptied
    let sealed := ended.openSegments.foldl (fun x g => sealSegment g x) ended
    let t := settle (sentIfUp [.response tag 0x7F .done (.removed s.control.length)]
      { sealed with stall := .runningFree, parser := { s.parser with phase := .idle } })
    exec (.resetWarm tag) s = .next t
    ∧ t.control = [] ∧ t.openSegments = [] ∧ t.stall = .runningFree ∧ t.parser = { s.parser with phase := .idle }
    ∧ (∀ l, t.lane l
        = { s.lane l with state := .idle, context := none, bufA := {}, bufB := {}, paused := false })
    ∧ (let aborted : List RecentEntry := files.map fun p => { context := p.2, outcome := .aborted }
       t.recent = (s.recent ++ aborted).drop ((s.recent ++ aborted).length - 64))
    ∧ t.sweeper = stopped.sweeper ∧ t.verifier = stopped.verifier
    ∧ (∀ b, t.bank b = bankAfter (files.countP fun p => decide (p.2.bank = b)) (s.bank b))
    ∧ (NMap.canonical {} s.catalog = true →
        ∀ id, (∀ g ∈ s.openSegments, g.segmentId ≠ id) → t.entry id = s.entry id)
    ∧ (∀ g, s.tag g ≠ none → t.tag g = s.tag g)
    ∧ t.days = counted.days ∧ t.unplaced = counted.unplaced
    ∧ t.device = s.device ∧ t.runTime = s.runTime ∧ t.params = s.params ∧ t.clock = s.clock
    ∧ t.selection = s.selection ∧ t.loadCounter = s.loadCounter ∧ t.filter = s.filter ∧ t.freeIds = s.freeIds
    ∧ t.holds = s.holds ∧ t.pendingHolds = s.pendingHolds ∧ t.fullWaits = s.fullWaits
    ∧ t.catalogFull = s.catalogFull ∧ t.storeFull = s.storeFull ∧ t.strayFrames = s.strayFrames
    ∧ (s.feed.up = true → ∃ bundles : List (List Report),
        t.feedTx = s.feedTx ++ (pausedLanes s).map .laneResume
          ++ [.response tag 0x7F .done (.removed s.control.length)] ++ bundles.map .bundle)

/-! ### Ports and links -/

/-- FRAME_CHECK_FAILED, MALFORMED_FRAME, RECEIVER_LOCKED, RECEIVER_LOCK_LOST and LINK_KEEP_SEND change their port and send
at most a LINK KEEP (R182, R183). That LINK_KEEP_SEND does nothing before its 10 ms is the model's choice (log entry 2). -/
def Obligations.PortsCountFrames : Prop :=
  ∀ (s : State) (p : PortId),
    exec (.frameCheckFailed p) s
        = .next (s.setPort p { s.port p with checkFailed := min max32 ((s.port p).checkFailed + 1) })
    ∧ exec (.malformedFrame p) s
        = .next (s.setPort p { s.port p with malformed := min max32 ((s.port p).malformed + 1) })
    ∧ exec (.receiverLocked p) s = .next (s.setPort p { s.port p with locked := true })
    ∧ ((s.port p).up = false → exec (.receiverLockLost p) s = .next (s.setPort p { s.port p with locked := false }))
    ∧ ((s.port p).up = true → exec (.receiverLockLost p) s
        = exec (match p with | .feed => .feedLinkLoss .lockLost | .store => .storeLinkLoss .lockLost) s)
    ∧ ((s.port p).locked = true → 10 ≤ s.since (s.port p).lastSent → exec (.linkKeepSend p) s
        = .next (match p with | .feed => sentFeed [.linkKeep] s | .store => sentStore [.linkKeep] s))
    ∧ ((s.port p).locked = false ∨ s.since (s.port p).lastSent < 10 → exec (.linkKeepSend p) s = .next s)

/-- A good frame is counted, and brings a DOWN, locked port UP: the Feed link then sends LANE PAUSE for each paused lane in
ascending lane number and the bundles due, the Store link has the arbiter grant (R182, R183, R27, R125, R132). LINK_FD and
LINK_ST show the links UP after it exactly where they were UP or the receiver was locked (R183). That FEED_LINK_UP and
STORE_LINK_UP stand for such a frame without content, and change nothing on a port that is UP or not locked, is the model's
choice (log entry 4). -/
def Obligations.LinksComeUp : Prop :=
  ∀ s : State,
    (s.feed.up = true → exec (.linkKeep .feed) s = .next (flushReports (heardFeed s)) ∧ exec .feedLinkUp s = .next s)
    ∧ (s.feed.up = false → s.feed.locked = true →
        exec (.linkKeep .feed) s
            = .next (flushReports (sentFeedAll ((pausedLanes s).map .lanePause) (feedRaised s)))
        ∧ exec .feedLinkUp s
            = .next (flushReports (sentFeedAll ((pausedLanes s).map .lanePause) (feedRaised s))))
    ∧ (s.feed.up = false → s.feed.locked = false →
        exec (.linkKeep .feed) s = .next (heardFeed s) ∧ exec .feedLinkUp s = .next s)
    ∧ (s.store.up = true →
        exec (.linkKeep .store) s = .next (flushReports (heardStore s)) ∧ exec .storeLinkUp s = .next s)
    ∧ (s.store.up = false → s.store.locked = true →
        exec (.linkKeep .store) s = .next (flushReports (arbitrate (storeRaised s)))
        ∧ exec .storeLinkUp s = .next (flushReports (arbitrate (storeRaised s))))
    ∧ (s.store.up = false → s.store.locked = false →
        exec (.linkKeep .store) s = .next (flushReports (heardStore s)) ∧ exec .storeLinkUp s = .next s)
    ∧ (∀ t, exec (.linkKeep .feed) s = .next t → (t.linkFd = true ↔ s.feed.up = true ∨ s.feed.locked = true))
    ∧ ∀ t, exec (.linkKeep .store) s = .next t → (t.linkSt = true ↔ s.store.up = true ∨ s.store.locked = true)

/-- Link loss: of an UP link when its receiver loses lock or 50 ms pass without a good frame. The Feed link's drains the
OPEN lanes, with their trailers absent, and the drain completions are taken in ascending lane number, each as
DrainCompletionEndsFile states it; it keeps the parser, the control queue, the parameters, the clocks and the filter. The
Store link's keeps everything (R183, R36, R34, R132). That a loss not due, or of a DOWN link, changes nothing is the
model's choice (log entry 6). -/
def Obligations.LinkLossDrainsLanes : Prop :=
  ∀ (s : State) (cause : LossCause),
    let due := fun x : Port => x.up = true ∧ (cause = .lockLost ∨ 50 ≤ s.since x.lastGood)
    let down := fun x : Port => { x with up := false, locked := if cause = .lockLost then false else x.locked }
    (due s.store → exec (.storeLinkLoss cause) s = .next { s with store := down s.store })
    ∧ (¬ due s.store → exec (.storeLinkLoss cause) s = .next s)
    ∧ (due s.feed →
        let t := settle ((List.finRange 16).foldl (fun x l => drainLane l x) { s with
          feed := down s.feed
          lanes := s.lanes.map fun x => if x.state = .opened
            then { x with state := .draining, context := x.context.map fun c => { c with trailer := none } } else x })
        exec (.feedLinkLoss cause) s = .next t
        ∧ t.feed = down s.feed ∧ t.feedTx = s.feedTx
        ∧ ((∀ l, LaneAccounts s l) → ∀ l, t.lane l = laneAfterLoss (s.lane l))
        ∧ t.parser = s.parser ∧ t.control = s.control ∧ t.device = s.device ∧ t.runTime = s.runTime
        ∧ t.params = s.params ∧ t.clock = s.clock ∧ t.filter = s.filter ∧ t.selection = s.selection
        ∧ t.loadCounter = s.loadCounter ∧ t.freeIds = s.freeIds ∧ t.fullWaits = s.fullWaits ∧ t.stall = s.stall)
    ∧ (¬ due s.feed → exec (.feedLinkLoss cause) s = .next s)

/-! ### Files on the lanes -/

/-- FILE_OPEN refused: the first of the six reasons that applies, in the order of R18, gives FILE_REFUSED and leaves the
lanes, the banks, the selection and Recent Files as they were. -/
def Obligations.FileOpenRefused : Prop :=
  ∀ (s : State) (l : Fin 16) (continueFlag : Bool) (switchId fileNumber : Nat), s.feed.up = true → BanksSound s →
    let refused := fun reason : Nat => exec (.fileOpen l continueFlag switchId fileNumber) s
      = .next (settle (raise .fileRefused (some l.val) reason switchId fileNumber (heardFeed s)))
    (s.device = .starting → refused 0)
    ∧ (s.device = .running → (∀ b, (s.bank b).state ≠ .active) → refused 1)
    ∧ ∀ active, s.device = .running → (s.bank active).state = .active →
      ((s.lane l).state ≠ .idle → refused 2)
      ∧ ((s.lane l).state = .idle →
        (((s.bank (bindsTo s active)).switchOf switchId).enabled = false → refused 3)
        ∧ (((s.bank (bindsTo s active)).switchOf switchId).enabled = true →
          (HeldByOther s l switchId fileNumber → refused 4)
          ∧ (¬ HeldByOther s l switchId fileNumber → continueFlag = true →
              (∀ e ∈ s.recent, ¬ AbortedFor switchId fileNumber e) → refused 5)))

/-- FILE_OPEN accepted: a pending NEXT_FILE selection takes effect, the file binds to the ACTIVE bank, and the lane becomes
OPEN with a new context, or with the context of the newest ABORTED entry, which leaves Recent Files (R19, R20, R21). -/
def Obligations.FileOpenAccepted : Prop :=
  ∀ (s : State) (l : Fin 16) (switchId fileNumber : Nat) (active : Fin 4) (g : Nat),
    s.feed.up = true → BanksSound s → s.device = .running → (s.bank active).state = .active →
    (s.lane l).state = .idle → ((s.bank (bindsTo s active)).switchOf switchId).enabled = true →
    ¬ HeldByOther s l switchId fileNumber → (s.bank (bindsTo s active)).generation = some g →
    let bank := bindsTo s active
    let heard := heardFeed s
    let selected := if bank = active then heard else selectBank bank .nextFile heard
    let opened := fun (context : FileContext) (recent : List RecentEntry) =>
      settle { selected.setBank bank { selected.bank bank with boundFiles := (selected.bank bank).boundFiles + 1 } with
        recent := recent
        lanes := selected.lanes.set l { s.lane l with state := .opened, context := some context, strayReport := false } }
    exec (.fileOpen l false switchId fileNumber) s
        = .next (opened { switch := switchId, fileNumber, bank, generation := g,
                          resend := s.recent.any fun e => e.context.switch == switchId
                            && e.context.fileNumber == fileNumber && e.outcome != .aborted } s.recent)
    ∧ ∀ older e newer, s.recent = older ++ e :: newer → AbortedFor switchId fileNumber e →
        (∀ x ∈ newer, ¬ AbortedFor switchId fileNumber x) →
        exec (.fileOpen l true switchId fileNumber) s
          = .next (opened { e.context with bank, generation := g, continued := true, pending := 0, trailer := none }
              (older ++ newer))

/-- A RECORD_BLOCK on an OPEN lane with a link-side buffer fills it: the one after the buffer filled last when both are
free, else the free one. Announced and pending go up by the record count; a lane whose two buffers are then the parser's is
paused, LANE PAUSE is sent, and the walkers yield where the paused set was empty (R22, R23, R26, R139, R168). -/
def Obligations.RecordBlockFillsBuffer : Prop :=
  ∀ (s : State) (l : Fin 16) (blockNumber : Nat) (records : List CallRecord) (c : FileContext),
    s.feed.up = true → 1 ≤ records.length → records.length ≤ 170 → (s.lane l).state = .opened →
    (s.lane l).context = some c → c.announced + records.length ≤ 4294967295 →
    ((s.lane l).bufA.owner = .link ∨ (s.lane l).bufB.owner = .link) →
    let x := s.lane l
    let i := if (x.buf x.lastFilled.other).owner = .link then x.lastFilled.other else x.lastFilled
    let context := { c with
      blocksReceived := min max32 (c.blocksReceived + 1)
      blockGaps := if blockNumber = c.expectedBlock then c.blockGaps else min max32 (c.blockGaps + 1)
      expectedBlock := (blockNumber + 1) % 4294967296
      announced := c.announced + records.length
      pending := c.pending + records.length }
    let filled := { x.setBuf i { owner := .parser, records } with lastFilled := i, context := some context }
    let heard := heardFeed s
    ((x.buf i.other).owner = .link →
      exec (.recordBlock l blockNumber records) s = .next (flushReports (startBuffer (heard.setLane l filled))))
    ∧ ((x.buf i.other).owner = .parser →
      exec (.recordBlock l blockNumber records) s
        = .next (flushReports (startBuffer (sentFeed [.lanePause l]
            { heard.setLane l { filled with paused := true } with
              sweeper := if s.anyPaused then s.sweeper else s.sweeper.yieldToIngest
              verifier := if s.anyPaused then s.verifier else s.verifier.yieldToIngest }))))

/-- A RECORD_BLOCK on an OPEN lane whose two buffers are the parser's is an overrun: the block is counted, its records are
lost, and the first overrun of a file gives LANE_OVERRUN (R23, R24, R156). The order of the addition and the report is the
model's choice (log entry 21). -/
def Obligations.RecordBlockOverruns : Prop :=
  ∀ (s : State) (l : Fin 16) (blockNumber : Nat) (records : List CallRecord) (c : FileContext),
    s.feed.up = true → 1 ≤ records.length → records.length ≤ 170 → (s.lane l).state = .opened →
    (s.lane l).context = some c → c.announced + records.length ≤ 4294967295 →
    (s.lane l).bufA.owner = .parser → (s.lane l).bufB.owner = .parser →
    let n := records.length
    let context := { c with
      blocksReceived := min max32 (c.blocksReceived + 1)
      blockGaps := if blockNumber = c.expectedBlock then c.blockGaps else min max32 (c.blockGaps + 1)
      expectedBlock := (blockNumber + 1) % 4294967296
      announced := c.announced + n
      lost := c.lost + n
      overrun := true }
    let added := addToCurrentDay c.switch .lost n ((heardFeed s).setLane l { s.lane l with context := some context })
    exec (.recordBlock l blockNumber records) s
      = .next (flushReports (startBuffer (if c.overrun then added
          else raise .laneOverrun (some l.val) blockNumber n (c.lost + n) added)))

/-- Stray frames at a lane: counted, and a stray RECORD_BLOCK gives STRAY_BLOCK while the lane's stray-report flag is
clear; no file context and no buffer changes (R25). A RECORD_BLOCK of 0 or more than 170 records is malformed (R182; log
entry 22). The code of the lane state in STRAY_BLOCK is DEDUCED (log entry 9). -/
def Obligations.StrayLaneFrames : Prop :=
  ∀ (s : State) (l : Fin 16), s.feed.up = true →
    let counted := { s.lane l with strayFrames := min max32 ((s.lane l).strayFrames + 1) }
    let strayed := (heardFeed s).setLane l counted
    ((s.lane l).state ≠ .opened →
      (∀ a b c, exec (.fileClose l a b c) s = .next (settle strayed)) ∧ exec (.fileAbort l) s = .next (settle strayed))
    ∧ ∀ (blockNumber : Nat) (records : List CallRecord),
      (1 ≤ records.length → records.length ≤ 170 →
        ((s.lane l).state ≠ .opened
          ∨ (s.lane l).state = .opened
            ∧ ∃ c, (s.lane l).context = some c ∧ 4294967295 < c.announced + records.length) →
        exec (.recordBlock l blockNumber records) s
          = .next (flushReports (startBuffer (if (s.lane l).strayReport then strayed
              else raise .strayBlock (some l.val) blockNumber records.length
                (match (s.lane l).state with | .idle => 0 | .opened => 1 | .draining => 2)
                ((heardFeed s).setLane l { counted with strayReport := true })))))
      ∧ (records.length = 0 ∨ 170 < records.length →
        exec (.recordBlock l blockNumber records) s
          = .next { s with feed := { s.feed with malformed := min max32 (s.feed.malformed + 1) } })

/-- FILE_CLOSE and FILE_ABORT make an OPEN lane DRAINING, with the trailer or without; a lane with both buffers on the link
side completes its drain at the same event (R33, R35, R34). -/
def Obligations.FileEndsDelivery : Prop :=
  ∀ (s : State) (l : Fin 16) (c : FileContext),
    s.feed.up = true → (s.lane l).state = .opened → (s.lane l).context = some c →
    let ended := fun trailer : Option Trailer =>
      (heardFeed s).setLane l { s.lane l with state := .draining, context := some { c with trailer } }
    let drained := (s.lane l).bufA.owner = .link ∧ (s.lane l).bufB.owner = .link
    (∀ recordCount durationSum chargeSum,
      let t := ended (some { recordCount, durationSum, chargeSum })
      (drained → exec (.fileClose l recordCount durationSum chargeSum) s = .next (settle (drainLane l t)))
      ∧ (¬ drained → exec (.fileClose l recordCount durationSum chargeSum) s = .next (settle t)))
    ∧ (drained → exec (.fileAbort l) s = .next (settle (drainLane l (ended none))))
    ∧ (¬ drained → exec (.fileAbort l) s = .next (settle (ended none)))

/-- Drain completion: without a trailer the file enters Recent Files as ABORTED; with one it is reconciled by the four
conditions, its close is counted and reported with the three differences, a day not OPEN is amended, and an UNRECONCILED
file that stored a record asks for an audit hold. The lane becomes IDLE and the bank loses a bound file (R34, R152, R153,
R147, R38); a lane not DRAINING, or with a buffer at the parser, does not change. Beside it: the amendment by the state of
the day record (R159); the audit hold placed in the lowest free entry, or appended to the Pending Audit Hold list, or merged
into its newest entry, with the suspension of the sweeper at the first (R147, R148, R149); the bound-file count, and the
retirement of a DRAINING bank at 0 (R57, R58). The codes of the reports are DEDUCED (log entry 9). -/
def Obligations.DrainCompletionEndsFile : Prop :=
  (∀ (s : State) (l : Fin 16) (c : FileContext),
    (s.lane l).state = .draining → (s.lane l).context = some c → (s.lane l).bufA.owner = .link →
    (s.lane l).bufB.owner = .link →
    let left := fun (outcome : FileOutcome) (x : State) => unbindFile c.bank
      { x with
        recent := (if 64 ≤ s.recent.length then s.recent.drop 1 else s.recent) ++ [{ context := c, outcome }]
        lanes := s.lanes.set l { s.lane l with state := .idle, context := none } }
    (c.trailer = none → drainLane l s = left .aborted (raise .fileAborted (some l.val) c.switch c.fileNumber c.lost s))
    ∧ ∀ t, c.trailer = some t →
      let day := c.fileDay.getD (s.clock.currentDay.getD 0)
      let whole := c.stored + c.rejected + c.duplicates
      let difference := fun a b : Nat => ((max (-2147483648) (min 2147483647 ((a : Int) - (b : Int)))) % 4294967296).toNat
      let closed := addToDay day c.switch .filesClosed 1 s
      let reported := fun (code : Nat) (x : State) => raiseOn (some day) .fileClosed (some (code * 16777216 + l.val))
        (difference whole t.recordCount) (difference c.durationSum t.durationSum) (difference c.chargeSum t.chargeSum) x
      ((whole = t.recordCount ∧ c.lost = 0 ∧ c.durationSum = t.durationSum ∧ c.chargeSum = t.chargeSum) →
        drainLane l s = left .reconciled (amendDay day .reconciled c.switch (reported 0 closed)))
      ∧ (¬ (whole = t.recordCount ∧ c.lost = 0 ∧ c.durationSum = t.durationSum ∧ c.chargeSum = t.chargeSum) →
        let amended := amendDay day .unreconciled c.switch (reported 1 (addToDay day c.switch .filesUnreconciled 1 closed))
        (c.stored = 0 → drainLane l s = left .unreconciled amended)
        ∧ ∀ first last, 0 < c.stored → c.minDay = some first → c.maxDay = some last →
          drainLane l s = left .unreconciled
            (requestAudit { switch := some c.switch, firstDay := first, lastDay := last, classes := 0xFF#8 } amended)))
  ∧ (∀ (s : State) (l : Fin 16),
    ((s.lane l).state ≠ .draining ∨ (s.lane l).bufA.owner = .parser ∨ (s.lane l).bufB.owner = .parser) → drainLane l s = s)
  ∧ (∀ (s : State) (day switchId code : Nat) (outcome : FileOutcome),
    (outcome = .reconciled ∧ code = 0 ∨ outcome = .unreconciled ∧ code = 1) →
    (s.dayRecord day = none →
      amendDay day outcome switchId s = raise .dayAmended (some day) 0xFFFFFFFF code switchId s)
    ∧ ∀ d, s.dayRecord day = some d →
      (d.state = .opened → amendDay day outcome switchId s = s)
      ∧ (d.state = .closed →
        let n := min max32 (d.amendments + 1)
        amendDay day outcome switchId s = raise .dayAmended (some day) n code switchId
          { s with days := s.days.map fun x => if x.day = day then { d with amendments := n } else x }))
  ∧ (∀ (s : State) (r : HoldSelector),
    let switchValue := r.switch.getD 0xFFFFFFFF
    (∀ h, s.hold h = none → (∀ x < h, s.hold x ≠ none) →
      requestAudit r s = raise .holdPlaced (some h.val) switchValue r.firstDay r.lastDay
        { s with holds := s.holds.set h (some { kind := .audit, selector := r }) })
    ∧ ((∀ h, s.hold h ≠ none) →
      let waits := fun (code : Nat) (list : List HoldSelector) =>
        raise .holdNotPlaced (some r.firstDay) switchValue r.lastDay code { s with pendingHolds := list }
      let phase := match s.sweeper.phase with
        | .idle => 0 | .running => 1 | .resting => 2 | .extendedRest => 3 | .stopped => 4
      (s.pendingHolds = [] → requestAudit r s = raise .sweepSuspended s.clock.currentDay phase s.sweeper.cursor 64
        { waits 0 [r] with sweeper := { s.sweeper with suspended := true } })
      ∧ (s.pendingHolds ≠ [] → s.pendingHolds.length < 8 → requestAudit r s = waits 0 (s.pendingHolds ++ [r]))
      ∧ ∀ older p, s.pendingHolds = older ++ [p] → 8 ≤ s.pendingHolds.length →
        requestAudit r s = waits 1 (older ++ [{
          switch := if p.switch = r.switch then p.switch else none
          firstDay := min p.firstDay r.firstDay, lastDay := max p.lastDay r.lastDay, classes := p.classes ||| r.classes }])))
  ∧ ∀ (s : State) (b : Fin 4),
    let lowered := { s with banks := s.banks.set b { s.bank b with boundFiles := (s.bank b).boundFiles - 1 } }
    (((s.bank b).state ≠ .draining ∨ 1 < (s.bank b).boundFiles) → unbindFile b s = lowered)
    ∧ ((s.bank b).state = .draining → (s.bank b).boundFiles ≤ 1 →
      let sealed := (s.openSegments.filter fun g =>
          decide (g.key.bank = b) && decide (some g.key.generation = (s.bank b).generation)).foldl
        (fun x g => sealSegment g x) lowered
      unbindFile b s = raise .bankRetired (some b.val) ((s.bank b).generation.getD 0) (s.bank b).references 1
        { sealed with banks := s.banks.set b { s.bank b with state := .ready, boundFiles := 0 } })

/-! ### The parser, the filter and the encoder -/

/-- An IDLE parser takes a buffer of the first lane, counting upward from the lane served last plus one, that holds one of
its own, and of that lane's two the one filled earlier; nothing else changes (R28, R22). -/
def Obligations.ParserTakesNextLane : Prop :=
  ∀ s : State,
    (s.parser.phase ≠ .idle → startBuffer s = s)
    ∧ (s.parser.phase = .idle → (∀ l, (s.lane l).bufA.owner = .link ∧ (s.lane l).bufB.owner = .link) → startBuffer s = s)
    ∧ ∀ (k : Fin 16) (i : BufId), s.parser.phase = .idle →
      (∀ j : Fin 16, j < k → (s.lane (s.parser.lastLane + 1 + j)).bufA.owner = .link
        ∧ (s.lane (s.parser.lastLane + 1 + j)).bufB.owner = .link) →
      ((s.lane (s.parser.lastLane + 1 + k)).buf i).owner = .parser →
      (((s.lane (s.parser.lastLane + 1 + k)).buf i.other).owner = .parser →
        (s.lane (s.parser.lastLane + 1 + k)).lastFilled = i.other) →
      startBuffer s
        = { s with parser := { phase := .parsing (s.parser.lastLane + 1 + k) i 0, lastLane := s.parser.lastLane + 1 + k } }

/-- PARSE_RECORD: the record in hand is validated and, when valid and matched in the filter, counted a duplicate; otherwise
it is offered to the encoder, and counted stored or rejected when accepted, held by the STALLED parser when refused (R29,
R30, R31, R32, R156). Then the parser passes to the next record, or returns the buffer, which may resume a paused lane, bring
the walkers back, complete a drain and start the next buffer (R28, R26, R139, R168, R34). A held record is taken up when the
stall is over (R32, R94). While the parser is IDLE or STALLED there is no PARSE_RECORD (log entry 2); that an eviction's
addition stands before the stored record's is DEDUCED (log entry 21). -/
def Obligations.ParseRecordCounts : Prop :=
  (∀ s : State,
    ((∀ l i position, s.parser.phase ≠ .parsing l i position) → exec .parseRecord s = .next (settle s))
    ∧ ∀ (l : Fin 16) (i : BufId) (position : Nat) (c : FileContext) (r : CallRecord),
      s.parser.phase = .parsing l i position → (s.lane l).context = some c →
      ((s.lane l).buf i).records[position]? = some r →
      let v := validate s.clock (s.bank c.bank) c.switch r
      let noted := { c with fileDay := some (c.fileDay.getD v.day) }
      RecordTaken (s.setLane l { s.lane l with context := some noted }) l i position noted r v
        (fun t => exec .parseRecord s = .next (settle t)))
  ∧ (∀ s : State,
    ((s.stall ≠ .runningFree ∨ ∀ l i position r v, s.parser.phase ≠ .stalled l i position r v) → takeUpHeld s = s)
    ∧ ∀ (l : Fin 16) (i : BufId) (position : Nat) (c : FileContext) (r : CallRecord) (v : Verdict),
      s.stall = .runningFree → s.parser.phase = .stalled l i position r v → (s.lane l).context = some c →
      RecordTaken s l i position c r v (fun t => takeUpHeld s = t))
  ∧ ∀ (s : State) (l : Fin 16) (i : BufId) (position : Nat),
    let x := s.lane l
    (position + 1 < (x.buf i).records.length →
      nextRecord l i position s = { s with parser := { s.parser with phase := .parsing l i (position + 1) } })
    ∧ ((x.buf i).records.length ≤ position + 1 →
      let returned := { s with
        lanes := s.lanes.set l { x.setBuf i { owner := .link, records := [] } with paused := false }
        parser := { s.parser with phase := .idle } }
      let resumed := sentIfUp [.laneResume l] returned
      let finishes := fun y : State => nextRecord l i position s = startBuffer (drainLane l y)
      (x.paused = false → finishes returned)
      ∧ (x.paused = true → (∃ o, o ≠ l ∧ (s.lane o).paused = true) → finishes resumed)
      ∧ (x.paused = true → (∀ o, o ≠ l → (s.lane o).paused = false) → finishes { resumed with
          sweeper := if s.sweeper.phase = .extendedRest then { s.sweeper with phase := .running, burstCount := 0 }
            else s.sweeper
          verifier := if s.verifier.phase = .extendedRest then { s.verifier with phase := .running } else s.verifier }))

/-- A record offered to the encoder: appended to the open segment of its key when it fits; else that segment is sealed and a
new one is opened or refused; with no segment of its key one is opened or refused, the list's head sealed first when the
list holds its 16 (R92, R93, R83, R90). A new segment takes the first free id and the lowest FREE buffer; the encoder stalls
for want of either (R94, R95). -/
def Obligations.EncoderTakesRecord : Prop :=
  ∀ (s : State) (c : FileContext) (r : CallRecord) (v : Verdict), ListsBounded s →
    let k : SegmentKey := { cls := v.cls, day := v.day, bank := c.bank, generation := c.generation }
    let opens := fun x : State => SegmentOpened x k c.switch r v (fun o => offerRecord c r v s = o)
    (∀ g, s.openSegment k = some g →
      let bytes := encodeRecord (s.bank c.bank).dictionary g.context.reference v.reason r
      ((g.context.recordCount ≠ 4096 ∧ g.context.bodyLength + bytes.length ≤ 65496) →
        offerRecord c r v s = .accepted { s with
          buffers := s.buffers.set g.buffer { s.buffer g.buffer with bytes := (s.buffer g.buffer).bytes ++ bytes }
          openSegments := s.openSegments.filter (fun x => decide (x.segmentId ≠ g.segmentId))
            ++ [{ g with context := g.context.append r bytes, switches := recordSwitches c.switch r v g.switches }] })
      ∧ (¬ (g.context.recordCount ≠ 4096 ∧ g.context.bodyLength + bytes.length ≤ 65496) → opens (sealSegment g s)))
    ∧ (s.openSegment k = none →
      (s.openSegments.length < 16 → opens s)
      ∧ ∀ head rest, s.openSegments = head :: rest → s.openSegments.length = 16 → opens (sealSegment head s))

/-- A seal: header and body are the image, the entry leaves the list, the catalog entry becomes WRITING with the figures of
R99, and the segment joins the tail of the write queue. The header has the fields of R86 at the offsets of section 12.5, and
the image of a segment whose context agrees with its body passes the HEADER and CHECK tests for its entry (R166); a context
agrees with the empty body at first and after each record appended (R83, R85). SEAL_TIMEOUT seals an open segment at its
deadline, which is reached as TimersExpire states; a segment not in the list, or before its deadline, is not sealed (R96,
R99; log entry 2). -/
def Obligations.SealTimeoutSealsSegment : Prop :=
  (∀ (s : State) (g : OpenSegment),
    let c := g.context
    let figures : Figures := {
      recordCount := c.recordCount, bodyLength := c.bodyLength, checkValue := c.checkB * 65536 + c.checkA
      durationSum := c.durationSum, firstStart := c.firstStart.getD 0, lastStart := c.lastStart.getD 0
      switches := g.switches, expiryDay := min 65535 (g.key.day + (s.bank g.key.bank).retentionOf g.key.cls)
      writeAttempts := 0, deleteAttempts := 0, verify := .none }
    let body := (s.buffer g.buffer).bytes
    let image := headerBytes g.key g.segmentId g.edition g.late c ++ body
    sealSegment g s = { s.setEntry g.segmentId { s.entry g.segmentId with state := .writing, figures := some figures } with
      buffers := s.buffers.set g.buffer { s.buffer g.buffer with state := .sealed, bytes := image }
      openSegments := s.openSegments.filter (fun x => decide (x.segmentId ≠ g.segmentId))
      writeQueue := s.writeQueue ++ [g.segmentId] }
    ∧ (SegmentSound g body →
      image.length = 40 + body.length ∧ image.drop 40 = body
      ∧ fieldAt image 0 2 = 0xA5C3 ∧ fieldAt image 2 1 = 1 ∧ fieldAt image 3 1 = g.key.cls
      ∧ fieldAt image 4 3 = g.segmentId ∧ fieldAt image 7 1 = g.edition ∧ fieldAt image 8 1 = (if g.late then 1 else 0)
      ∧ fieldAt image 9 1 = g.key.bank.val ∧ fieldAt image 10 2 = g.key.day ∧ fieldAt image 12 4 = g.key.generation
      ∧ fieldAt image 16 4 = c.recordCount ∧ fieldAt image 20 4 = c.bodyLength ∧ fieldAt image 24 4 = checkValue body
      ∧ fieldAt image 28 4 = c.firstStart.getD 0 ∧ fieldAt image 32 4 = c.lastStart.getD 0
      ∧ fieldAt image 36 4 = c.durationSum
      ∧ ∀ bank : Bank,
        let checked := checkImage bank g.segmentId g.edition { key := g.key, late := g.late } figures image false
        checked.result ≠ .damaged .header ∧ checked.result ≠ .damaged .check))
  ∧ ContextOf {} []
  ∧ (∀ (c : EncodingContext) (body : List Byte) (r : CallRecord) (bytes : List Byte),
    ContextOf c body → ContextOf (c.append r bytes) (body ++ bytes))
  ∧ ∀ (s : State) (id : Nat),
    ((∀ g ∈ s.openSegments, g.segmentId ≠ id) → exec (.sealTimeout id) s = .next (settle s))
    ∧ ∀ earlier g later, s.openSegments = earlier ++ g :: later → g.segmentId = id →
      (∀ x ∈ earlier, x.segmentId ≠ id) →
      (s.reached g.deadline = false → exec (.sealTimeout id) s = .next (settle s))
      ∧ (s.reached g.deadline = true → exec (.sealTimeout id) s = .next (settle (sealSegment g s)))

/-- Validation: the first of the four tests that a record fails is its reason; the archive day is the floor of the adjusted
time over 86,400; the assigned day is the archive day when it is computable and inside the window, else the current day;
the class is that of the service map for a valid record and 0 for a rejected one (R2 to R8, R10). -/
def Obligations.ValidationInOrder : Prop :=
  ∀ (clock : DayClock) (bank : Bank) (fileSwitch : Nat) (r : CallRecord) (current : Nat), clock.currentDay = some current →
    let adjusted : Int := (r.startTime : Int) + 60 * (bank.switchOf fileSwitch).offset
    let computable := 0 ≤ adjusted ∧ adjusted / 86400 ≤ 65535
    let inside := computable ∧ ((current - clock.lateWindow : Nat) : Int) ≤ adjusted / 86400
      ∧ adjusted / 86400 ≤ (current : Int) + 1
    let badDigits := fun n : Number => 20 < n.count ∨ ∃ d ∈ n.digits.take n.count, 9 < d
    let badField := r.kind = 0 ∨ 16 ≤ r.kind ∨ badDigits r.calling ∨ badDigits r.called ∨ 172800 < r.duration
    let v := validate clock bank fileSwitch r
    (v.reason = some .badField ↔ badField)
    ∧ (v.reason = some .switchMismatch ↔ ¬ badField ∧ r.switchId ≠ fileSwitch)
    ∧ (v.reason = some .timeRange ↔ ¬ badField ∧ r.switchId = fileSwitch ∧ ¬ inside)
    ∧ (v.reason = some .serviceUnmapped
        ↔ ¬ badField ∧ r.switchId = fileSwitch ∧ inside ∧ NMap.read 0 bank.serviceMap r.service = 0)
    ∧ (v.reason = none → v.cls = NMap.read 0 bank.serviceMap r.service ∧ v.cls ≠ 0)
    ∧ (v.reason ≠ none → v.cls = 0)
    ∧ (inside → (v.day : Int) = adjusted / 86400)
    ∧ (¬ inside → v.day = current)

/-- An inserted key is hit from then on while its day lies in the window; the insertion writes the lowest-numbered empty or
dead way, else the lowest-numbered live way of the lowest day, which is an eviction, and leaves every other way (R62, R65,
R67, R68). -/
def Obligations.FilterInsertHits : Prop :=
  ∀ (clock : DayClock) (filter : NMap Way) (r : CallRecord) (day : Nat),
    NMap.rising filter = true → clock.inWindow day = true →
    let bucket := (r.sequence + 3 * r.startTime + 40503 * r.switchId) % 32768
    let live := fun w => ∃ e, wayAt filter bucket w = some e ∧ clock.inWindow e.day = true
    let after := filterWith clock filter r day
    NMap.rising after = true
    ∧ filterHit clock after r = true
    ∧ (filterHit clock filter r = true ↔ ∃ w < 8, ∃ e, wayAt filter bucket w = some e ∧ clock.inWindow e.day = true
        ∧ e.switch = r.switchId ∧ e.sequence = r.sequence ∧ e.startTime = r.startTime)
    ∧ ∃ w < 8,
      wayAt after bucket w = some { switch := r.switchId, sequence := r.sequence, startTime := r.startTime, day }
      ∧ (∀ b x, x < 8 → (b ≠ bucket ∨ x ≠ w) → wayAt after b x = wayAt filter b x)
      ∧ ((∃ x < 8, ¬ live x) → ¬ live w ∧ (∀ x < w, live x) ∧ (chooseWay clock filter bucket).2 = false)
      ∧ ((∀ x < 8, live x) → (chooseWay clock filter bucket).2 = true
          ∧ ∀ x < 8, wayDay filter bucket w ≤ wayDay filter bucket x
              ∧ (x < w → wayDay filter bucket w < wayDay filter bucket x))

/-- The encoded length of a record: 6 to 51 bytes for a valid record, 7 to 54 for one in class 0 (R82). -/
def Obligations.EncodedLengthBounded : Prop :=
  ∀ (dictionary : NMap (List Nat)) (ref : Reference) (r : CallRecord),
    DictionarySound dictionary → WellFormed.record r = true → ref.sequence < 4294967296 → ref.startTime < 4294967296 →
    (∀ reason, 7 ≤ (encodeRecord dictionary ref (some reason) r).length
      ∧ (encodeRecord dictionary ref (some reason) r).length ≤ 54)
    ∧ (badField r = false → 6 ≤ (encodeRecord dictionary ref none r).length
      ∧ (encodeRecord dictionary ref none r).length ≤ 51)

/-- Decoding undoes encoding: the body of any run of records, each encoded against the one before it from the zero record,
decodes to the records, with no malformation. The reason byte is present exactly in class 0 (R72 to R81, R88, R89). -/
def Obligations.BodyDecodesToItsRecords : Prop :=
  ∀ (dictionary : NMap (List Nat)) (cls : Nat) (records : List (Option RejectReason × CallRecord)),
    DictionarySound dictionary → (∀ p ∈ records, WellFormed.record p.2 = true) →
    (∀ p ∈ records, p.1.isSome = true ↔ cls = 0) →
    (∀ p ∈ records, p.1 = none → badField p.2 = false) →
    decodeBody dictionary cls (bodyFrom dictionary {} records)
      = { records := records.map (fun p => asDecoded p.2), malformed := false }

/-! ### Frames and images as bytes -/

/-- The file frames and the Store link frames: what is received from the bytes of a well-formed command's frame is that
command, with every operand at every value of its field (R184, sections 12.1 to 12.4). A frame below 7 bytes or with a wrong
check, and no other, is check-failed; of the others those with a wrong length field, a kind the port does not receive, or a
payload against its layout are malformed, and no other (R182; log entries 15, 39 and 40). -/
def Obligations.LinkFramesReadBack : Prop :=
  (∀ (i : Instr) (port : PortId) (bytes : List Byte), WellFormed.command i = true → frameOf i = some (port, bytes) →
    (∃ p, i = .linkKeep p) ∨ (∃ l c w n, i = .fileOpen l c w n) ∨ (∃ l b rs, i = .recordBlock l b rs)
      ∨ (∃ l a b c, i = .fileClose l a b c) ∨ (∃ l, i = .fileAbort l) ∨ (∃ t id e x, i = .storeAck t id e x)
      ∨ (∃ t last bs, i = .readData t last bs) →
    receive port bytes = i)
  ∧ ∀ (port : PortId) (frame : List Byte),
    let body := frame.take (frame.length - 4)
    let payload := body.drop 3
    let checked := 7 ≤ frame.length ∧ ofBytes (frame.drop (frame.length - 4)) = checkValue body
    (receive port frame = .frameCheckFailed port ↔ ¬ checked)
    ∧ (receive port frame = .malformedFrame port
      ↔ checked ∧ (fieldAt frame 1 2 ≠ payload.length ∨ MalformedPayload port (fieldAt frame 0 1) payload))

/-- The CONTROL REQUEST frames: what is received from the bytes of a well-formed request's frame is that request, RESET and
the unknown ones among them (R184, sections 12.1, 12.6, 12.8). A frame of that kind with two payload bytes or more is a good
frame whatever its payload: the request that its arguments spell, else UNKNOWN_CONTROL_REQUEST (R182, R170). That it is good
above 16,390 payload bytes too is the model's choice (log entry 39). -/
def Obligations.ControlFramesReadBack : Prop :=
  (∀ (i : Instr) (port : PortId) (bytes : List Byte), WellFormed.command i = true → frameOf i = some (port, bytes) →
    (∃ tag, i = .resetWarm tag ∨ i = .resetCold tag ∨ (∃ code args, i = .unknownControlRequest tag code args)
      ∨ ∃ r, requestOf i = some (tag, r)) →
    port = .feed ∧ receive port bytes = i)
  ∧ ∀ (tag code : Nat) (args : List Byte), tag < 256 → code < 256 → args.length ≤ 65533 →
    receive .feed (envelope 0x18 (toBytes 1 tag ++ toBytes 1 code ++ args))
      = (namedRequest tag code args).getD (.unknownControlRequest tag code args)

/-- The SEGMENT WRITE frames of an image: their bytes in order are the image; they are numbered from 0; all but the last
carry 16,384 bytes, the last at most that many and at least one; only the last carries the last marker (R127). -/
def Obligations.ImagePartsRejoin : Prop :=
  ∀ (t : Fin 8) (id edition : Nat) (image : List Byte), 1 ≤ image.length → image.length ≤ 65536 →
    ∃ parts : List (List Byte),
      parts.flatten = image ∧ parts.length = (image.length + 16383) / 16384
      ∧ (∀ k bs, parts[k]? = some bs →
          1 ≤ bs.length ∧ bs.length ≤ 16384 ∧ (k + 1 < parts.length → bs.length = 16384))
      ∧ writeFrames t id edition image
          = parts.mapIdx (fun k bs => .segmentWrite t id edition k (decide (k + 1 = parts.length)) bs)

/-- The checks of an image in their order: HEADER, CHECK, and, where the entry's bank holds its generation, DECODE, COUNT
and DURATION, else CHECK_ONLY_OK; an image that passes all of them is FULL_OK (R166). The entry then returns to STORED with
the result, the pass counts follow, DAMAGED gives SEG_DAMAGED with its reason and, for DECODE, the records decoded whole,
and a RUNNING verifier rests (R112, R167, R168). The reason codes are DEDUCED (log entry 9). -/
def Obligations.ImageCheckedInOrder : Prop :=
  (∀ (bank : Bank) (id edition : Nat) (o : Opening) (f : Figures) (image : List Byte) (overlong : Bool),
    let body := image.drop 40
    let header := overlong = false ∧ 40 ≤ image.length ∧ image.length = 40 + fieldAt image 20 4
      ∧ fieldAt image 0 2 = 0xA5C3 ∧ fieldAt image 2 1 = 1 ∧ fieldAt image 4 3 = id ∧ fieldAt image 7 1 = edition
      ∧ fieldAt image 3 1 = o.key.cls ∧ fieldAt image 10 2 = o.key.day ∧ fieldAt image 16 4 = f.recordCount
      ∧ fieldAt image 20 4 = f.bodyLength
    let check := checkValue body = f.checkValue
    let held := bank.generation = some o.key.generation
      ∧ (bank.state = .ready ∨ bank.state = .active ∨ bank.state = .draining)
    let decoded := decodeBody bank.dictionary o.key.cls body
    let sum := (decoded.records.map CallRecord.duration).sum % 4294967296
    let checked := checkImage bank id edition o f image overlong
    (¬ header → checked = { result := .damaged .header })
    ∧ (header → ¬ check → checked = { result := .damaged .check })
    ∧ (header → check → ¬ held → checked = { result := .checkOnlyOk })
    ∧ (header → check → held →
      (decoded.malformed = true → checked = { result := .damaged .decode, whole := decoded.records.length })
      ∧ (decoded.malformed = false →
        (decoded.records.length ≠ f.recordCount → checked = { result := .damaged .count })
        ∧ (decoded.records.length = f.recordCount →
          (sum ≠ f.durationSum → checked = { result := .damaged .duration })
          ∧ (sum = f.durationSum → checked = { result := .fullOk })))))
  ∧ ∀ (s : State) (id : Nat) (image : List Byte) (overlong : Bool) (o : Opening) (f : Figures),
    let e := s.entry id
    e.state = .verifying → e.opening = some o → e.figures = some f →
    let checked := checkImage (s.bank o.key.bank) id e.edition o f image overlong
    let stored := s.setEntry id { e with state := .stored, figures := some { f with verify := checked.result } }
    let counts := s.verifier.counts
    let rested := fun x : VerifyCounts =>
      let v : Verifier := { s.verifier with counts := x }
      if v.phase = .running then
        { v with phase := .resting, restExpiry := some ((s.runTime + s.params.verifyRest) % 4294967296) } else v
    (checked.result = .fullOk → verifyImage id image overlong s
      = { stored with verifier := rested { counts with fullOk := min max32 (counts.fullOk + 1) } })
    ∧ (checked.result = .checkOnlyOk → verifyImage id image overlong s
      = { stored with verifier := rested { counts with checkOnly := min max32 (counts.checkOnly + 1) } })
    ∧ ∀ reason, checked.result = .damaged reason →
      let code := match reason with
        | .header => 0 | .check => 1 | .decode => 2 | .count => 3 | .duration => 4 | .missing => 5
      verifyImage id image overlong s = { raise .segDamaged (some id) e.edition code checked.whole stored with
        verifier := rested { counts with damaged := min max32 (counts.damaged + 1) } }

/-! ### The arbiter and the reports -/

/-- The arbiter grants one after another until nothing more can be granted, and changes only the Store link, its tags and
turn, the write queue, the walkers, the catalog and the Report Queue (R125, R126). One grant goes on the FREE tag first from
the last granted plus one: to the head of the write queue, whose image is sent, and else to a walker that waits, by the turn
when both do (R125 to R128). The verifier's examination counts the entry, claims and reads a STORED one in its scope, and
passes on; past the last id it gives VERIFY_DONE and becomes IDLE (R165, R111). -/
def Obligations.ArbiterLeavesNothingToGrant : Prop :=
  ∀ s : State,
    (let t := arbitrate s
     (t.store.up = false ∨ (∀ tag, t.tag tag ≠ none) ∨
       (t.writeQueue = [] ∧ sweeperWaits t = false ∧ verifierWaits t = false))
     ∧ t = { s with
         storeTx := t.storeTx, store := { s.store with lastSent := t.store.lastSent }, tags := t.tags, lastTag := t.lastTag
         turn := t.turn, writeQueue := t.writeQueue, sweeper := t.sweeper, verifier := t.verifier, catalog := t.catalog
         stateCounts := t.stateCounts, reports := t.reports })
    ∧ (grantOne s = none → arbitrate s = s)
    ∧ (∀ x, grantOne s = some x → arbitrate s = arbitrate x)
    ∧ ((s.store.up = false ∨ ∀ g, s.tag g ≠ none) → grantOne s = none)
    ∧ ∀ k : Fin 8, s.store.up = true → (∀ j < k, s.tag (s.lastTag + 1 + j) ≠ none) → s.tag (s.lastTag + 1 + k) = none →
      let g := s.lastTag + 1 + k
      let given := fun (o : StoreOperation) (id : Nat) (frames : List StoreFrame) (x : State) => sentStore frames { x with
        lastTag := g
        tags := s.tags.set g (some {
          operation := o, segmentId := id, edition := (s.entry id).edition
          expiry := (s.runTime + s.params.storeTimeout) % 4294967296, overlong := false }) }
      let held := fun o : StoreOperation => (List.finRange 8).countP fun h => match s.tag h with
        | none => false
        | some op => decide (op.operation = o)
      let sweeps := s.sweeper.phase = .running ∧ s.sweeper.suspended = false ∧ held .delete < 4
      let verifies := s.verifier.phase = .running ∧ held .read = 0
      (∀ id rest i, s.writeQueue = id :: rest → s.bufferOf id = some i →
        grantOne s
          = some (given .write id (writeFrames g id (s.entry id).edition (s.buffer i).bytes) { s with writeQueue := rest }))
      ∧ (s.writeQueue = [] →
        (¬ sweeps → ¬ verifies → grantOne s = none)
        ∧ (sweeps → (verifies → s.turn = .sweeper) → grantOne s = some (sweepExamine g s))
        ∧ (verifies → (sweeps → s.turn = .verifier) → grantOne s = some (verifyExamine g s)))
      ∧ (let id := s.verifier.cursor
         let e := s.entry id
         let c := { s.verifier.counts with examined := min max32 (s.verifier.counts.examined + 1) }
         let counted := fun x : VerifyCounts => { s with verifier := { s.verifier with counts := x } }
         let passes := fun x : State => verifyExamine g s = (if id + 1 < 262144
           then { x with verifier := { x.verifier with cursor := id + 1 } }
           else
             let n := x.verifier.counts
             let pair := fun a b : Nat => min 65535 a * 65536 + min 65535 b
             { raise .verifyDone s.clock.currentDay (pair n.examined n.fullOk) (pair n.checkOnly n.damaged)
                 (pair n.busy n.failed) x with
               verifier := { x.verifier with cursor := 0, phase := .idle, restExpiry := none } })
         ((e.state = .verifying ∨ e.state = .deleting) → passes (counted { c with busy := min max32 (c.busy + 1) }))
         ∧ (e.state ≠ .verifying → e.state ≠ .deleting → e.state ≠ .stored → passes (counted c))
         ∧ (let outside := s.params.verifyScope = .unverified ∧ ∃ f, e.figures = some f ∧ f.verify ≠ .none
            (e.state = .stored → outside → passes (counted c))
            ∧ (e.state = .stored → ¬ outside →
              passes (given .read id [.segmentRead g id e.edition]
                { (counted c).setEntry id { e with state := .verifying } with
                  turn := .sweeper, verifier := { s.verifier with counts := c, readBuffer := [] } }))))

/-- The arbiter makes an entry DELETING only when it was STORED, its expiry day is below the current day, no hold in use and
no Pending Audit Hold entry matches it, and the sweeper is not SUSPENDED; SEGMENT DELETE is sent for it then (R133, R137,
R149). A hold matches by day, class and switch (R134). The sweeper's examination counts the entry as busy, not yet expired
or held, or claims and deletes it, which may begin a rest, and passes on; past the last id it gives SWEEP_DONE and becomes
IDLE, or begins another pass (R137, R138, R140, R111, R125). That another pass begins RUNNING whatever burst count and burst
size stand is the model's choice (log entry 41). -/
def Obligations.ArbiterDeletesOnlyExpiredUnheld : Prop :=
  (∀ (s : State) (id : Nat), NMap.canonical {} s.catalog = true →
    ((arbitrate s).entry id).state = .deleting → (s.entry id).state ≠ .deleting →
    (s.entry id).state = .stored ∧ s.sweeper.suspended = false
      ∧ (s.entry id).expiryDay < s.clock.currentDay.getD 0
      ∧ (∀ h x, s.hold h = some x → x.selector.matchesEntry (s.entry id) = false)
      ∧ (∀ p ∈ s.pendingHolds, p.matchesEntry (s.entry id) = false)
      ∧ ∃ sent tag, (arbitrate s).storeTx = s.storeTx ++ sent ∧ .segmentDelete tag id (s.entry id).edition ∈ sent)
  ∧ (∀ (p : HoldSelector) (e : CatalogEntry), p.matchesEntry e = true
    ↔ ∃ o f, e.opening = some o ∧ e.figures = some f ∧ p.firstDay ≤ o.key.day ∧ o.key.day ≤ p.lastDay
        ∧ p.classes.getLsbD o.key.cls = true ∧ (p.switch = none ∨ ∃ w ∈ f.switches, p.switch = some w))
  ∧ ∀ (s : State) (g : Fin 8), s.store.up = true →
    let id := s.sweeper.cursor
    let e := s.entry id
    let c := { s.sweeper.counts with examined := min max32 (s.sweeper.counts.examined + 1) }
    let counted := fun x : SweepCounts => { s with sweeper := { s.sweeper with counts := x } }
    let passes := fun x : State => sweepExamine g s = (if id + 1 < 262144
      then { x with sweeper := { x.sweeper with cursor := id + 1 } }
      else
        let n := x.sweeper.counts
        let pair := fun a b : Nat => min 65535 a * 65536 + min 65535 b
        let ended := { x.sweeper with cursor := 0 }
        let again := { ended with anotherPass := false, counts := {} }
        { raise .sweepDone s.clock.currentDay (pair n.examined n.deleted) (pair n.held n.busy)
            (pair n.notYetExpired n.failed) x with
          sweeper :=
            if s.sweeper.anotherPass = false then { ended with phase := .idle, restExpiry := none }
            else if s.anyPaused = true then { again with phase := .extendedRest, restExpiry := none } else again })
    let expired := e.expiryDay < s.clock.currentDay.getD 0
    let held := (∃ h x, s.hold h = some x ∧ x.selector.matchesEntry e = true)
      ∨ ∃ p ∈ s.pendingHolds, p.matchesEntry e = true
    ((e.state = .verifying ∨ e.state = .deleting) → passes (counted { c with busy := min max32 (c.busy + 1) }))
    ∧ (e.state ≠ .verifying → e.state ≠ .deleting → e.state ≠ .stored → passes (counted c))
    ∧ (e.state = .stored → ¬ expired →
      passes (counted { c with notYetExpired := min max32 (c.notYetExpired + 1) }))
    ∧ (e.state = .stored → expired → held → passes (counted { c with held := min max32 (c.held + 1) }))
    ∧ (e.state = .stored → expired → ¬ held →
      let deleted := { s.sweeper with
        counts := { c with deleted := min max32 (c.deleted + 1) }, burstCount := s.sweeper.burstCount + 1 }
      passes (sentStore [.segmentDelete g id e.edition] { s.setEntry id { e with state := .deleting } with
        lastTag := g
        tags := s.tags.set g (some {
          operation := .delete, segmentId := id, edition := e.edition
          expiry := (s.runTime + s.params.storeTimeout) % 4294967296, overlong := false })
        turn := .verifier
        sweeper := if s.params.sweepBurst ≤ s.sweeper.burstCount + 1 then
          { deleted with phase := .resting, burstCount := 0
                         restExpiry := some ((s.runTime + s.params.sweepRest) % 4294967296) } else deleted }))

/-- A report enters the queue at the tail with the run time and the archive day, starting a stopped holdoff timer where the
holdoff is 2 or more and due is clear; with 64 entries held it is dropped and counted lost (R179, R180, R181). Ten kinds
are urgent (R179). While a send condition of R181 holds, and only then, a bundle carries up to 8 of the oldest entries; a
lost count above 0 then enters as REPORTS_LOST, an emptied queue stops the timer and clears due, and the condition is
judged again, until none is due. Nothing but the Feed link and the Report Queue changes. -/
def Obligations.FlushSendsOldestFirst : Prop :=
  (∀ s : State,
    let t := flushReports s
    let urgent : List ReportKind := [.fileRefused, .laneOverrun, .segWriteFailed, .storeFull, .reportsLost, .segDamaged,
      .sweepSuspended, .holdMissed, .holdNotPlaced, .catalogFull]
    let due := fun x : State => x.feed.up = true ∧ x.reports.entries ≠ []
      ∧ ((∃ r ∈ x.reports.entries, r.kind ∈ urgent) ∨ 48 ≤ x.reports.entries.length
          ∨ x.params.reportHoldoff = 1 ∨ (2 ≤ x.params.reportHoldoff ∧ x.reports.due = true))
    let q := s.reports
    let left := q.entries.drop 8
      ++ (if 0 < q.lost then [{ kind := .reportsLost, stamp := s.runTime, archiveDay := s.clock.currentDay, subject := none,
                                value1 := q.lost, value2 := 0, value3 := 0 }] else [])
    let starts := 0 < q.lost ∧ 2 ≤ s.params.reportHoldoff ∧ q.timer = none ∧ q.due = false
    let bundled := sentFeed [.bundle (q.entries.take 8)] { s with reports := {
      entries := left
      lost := 0
      timer := if left = [] then none
        else if starts then some ((s.runTime + s.params.reportHoldoff) % 4294967296) else q.timer
      due := if left = [] then false else q.due } }
    (¬ due s → t = s)
    ∧ (due s → t = flushReports bundled)
    ∧ ¬ due t
    ∧ t = { s with feedTx := t.feedTx, feed := { s.feed with lastSent := t.feed.lastSent }, reports := t.reports }
    ∧ ∃ bundles : List (List Report),
      t.feedTx = s.feedTx ++ bundles.map .bundle
      ∧ (bundles ≠ [] ↔ due s)
      ∧ (∀ b ∈ bundles, 1 ≤ b.length ∧ b.length ≤ 8)
      ∧ bundles.flatten ++ t.reports.entries = s.reports.entries
          ++ (if bundles ≠ [] ∧ 0 < s.reports.lost then
                [{ kind := .reportsLost, stamp := s.runTime, archiveDay := s.clock.currentDay, subject := none,
                   value1 := s.reports.lost, value2 := 0, value3 := 0 }] else [])
      ∧ t.reports.lost = (if bundles = [] then s.reports.lost else 0))
  ∧ ∀ (s : State) (day : Option Nat) (kind : ReportKind) (subject : Option Nat) (v1 v2 v3 : Nat),
    let q := s.reports
    let starts := 2 ≤ s.params.reportHoldoff ∧ q.timer = none ∧ q.due = false
    (q.entries.length < 64 → raiseOn day kind subject v1 v2 v3 s = { s with reports := { q with
      entries := q.entries ++ [{ kind, stamp := s.runTime, archiveDay := day, subject, value1 := v1, value2 := v2,
                                 value3 := v3 }]
      timer := if starts then some ((s.runTime + s.params.reportHoldoff) % 4294967296) else q.timer } })
    ∧ (64 ≤ q.entries.length → raiseOn day kind subject v1 v2 v3 s
      = { s with reports := { q with lost := min max32 (q.lost + 1) } })
    ∧ raise kind subject v1 v2 v3 s = raiseOn s.clock.currentDay kind subject v1 v2 v3 s

/-! ### Invariants that every step keeps -/

/-- The Report Queue stays within its 64 entries, with a lost count only while it is full (R180, R181), the lists keep their
capacities (R169, R38, R148, R90), the parameters and late windows their ranges (R174, R9), and the sweeper is SUSPENDED
exactly while the Pending Audit Hold list is not empty (R149). -/
def Obligations.BoundsStayKept : Prop :=
  ∀ s t, step s = .next t →
    (ReportsSound s → ReportsSound t) ∧ (ParamsInRange s → ParamsInRange t)
    ∧ (ListsBounded s → SuspendedExactly s → ListsBounded t ∧ SuspendedExactly t)

/-- At most one bank is ACTIVE, and a pending selection names a READY bank (R43, R53). -/
def Obligations.BanksStaySound : Prop := ∀ s t, BanksSound s → step s = .next t → BanksSound t

/-- A lane is paused exactly while the parser holds both its buffers, and the walkers yield exactly while a lane is paused
(R26, R139, R168). -/
def Obligations.PausedSetStaysExact : Prop :=
  ∀ s t, PausedExactly s → WalkersSound s → step s = .next t → PausedExactly t ∧ WalkersSound t

/-- The catalog stays canonical with ids below 262,144, and its eight state counts stay the counts of its entries (R108). -/
def Obligations.CatalogStaysSound : Prop := ∀ s t, CatalogSound s → step s = .next t → CatalogSound t

/-- The conservation of records (R17): no step loses a record from a file context's account. -/
def Obligations.RecordsStayConserved : Prop := ∀ s t, RecordsConserved s → step s = .next t → RecordsConserved t

/-- No step leaves a grant that could be made unmade: the arbiter has granted whatever waits at every event (R125). -/
def Obligations.GrantsStayTaken : Prop := ∀ s t, GrantsTaken s → step s = .next t → GrantsTaken t

/-! ### Control requests -/

/-- A control request that finds the queue full is answered REFUSED_BUSY and not taken; one that finds others before it
waits at the tail, and nothing else happens (R169). -/
def Obligations.RequestsWaitTheirTurn : Prop :=
  ∀ (c : Instr) (s : State) (tag : Nat) (r : Request), requestOf c = some (tag, r) → s.feed.up = true →
    (4 ≤ s.control.length →
      exec c s = .next (flushReports (replied tag (requestCode r) .refusedBusy .none (heardFeed s))))
    ∧ (s.control ≠ [] → s.control.length < 4 →
      exec c s = .next (flushReports { heardFeed s with control := s.control ++ [{ tag, request := r }] }))

/-- Waiting requests are taken in order of arrival, each answered once with its own tag and request code, until one holds
the head for a validation or a START computation (R169, R173). The request at the head has its whole effect before the rest
of the queue is taken, and one that passes its tests of R49 or R11 holds it. A request that finds the queue empty is taken
in the same way (R169). -/
def Obligations.WaitingRequestsAnswered : Prop :=
  (∀ s : State, s.feed.up = true →
    ∃ taken sent,
      s.control = taken ++ (takeTurns s).control
      ∧ (takeTurns s).feedTx = s.feedTx ++ sent
      ∧ answersIn sent = taken.map (fun q => (q.tag, requestCode q.request))
      ∧ ∀ q, (takeTurns s).control.head? = some q →
          (∃ day, q.request = .start day ∧ day ≤ 65534) ∨ (∃ b g n, q.request = .tableEnd b g n))
  ∧ (∀ s : State,
    (s.control = [] → takeTurns s = s)
    ∧ ∀ q rest, s.control = q :: rest →
      let computes := ∃ day, q.request = .start day ∧ s.device = .starting ∧ day ≤ 65534
      let validates := ∃ (b : Fin 4) (supplied generation : Nat), q.request = .tableEnd b.val supplied generation
        ∧ supplied ≤ 1 ∧ (s.bank b).state = .loading
        ∧ (supplied = 1 → s.device = .starting ∧ generation ≠ 0
            ∧ ∀ o, o ≠ b → (s.bank o).holdsGeneration generation = false)
        ∧ (supplied = 0 → s.loadCounter ≠ 4294967295)
      ((computes ∨ validates) → takeTurns s = s)
      ∧ (¬ (computes ∨ validates) → takeTurns s = takeTurns { takeRequest q s with control := rest }))
  ∧ ∀ (c : Instr) (s : State) (tag : Nat) (r : Request), requestOf c = some (tag, r) → Attentive s →
    exec c s = .next (flushReports (takeTurns { heardFeed s with control := [{ tag, request := r }] }))

/-- A request taken at the head is refused first for its form, with BAD_REQUEST, and then for the device state, with
BAD_STATE; a refused request changes no state (R170, R171). An UNKNOWN_CONTROL_REQUEST is always refused so, and a malformed
RESET at its arrival, whatever the queue holds (R169; log entry 16). -/
def Obligations.RequestsRefusedByFormAndState : Prop :=
  (∀ (c : Instr) (s : State) (tag : Nat) (r : Request), requestOf c = some (tag, r) → Attentive s →
    (BadForm r → exec c s = .next (flushReports (replied tag (requestCode r) .badRequest .none (heardFeed s))))
    ∧ (¬ BadForm r → refusedIn r = some s.device →
        exec c s = .next (flushReports (replied tag (requestCode r) .badState .none (heardFeed s)))))
  ∧ ∀ (s : State) (tag : Nat) (arguments : List Byte), s.feed.up = true →
      exec (.unknownControlRequest tag 0x7F arguments) s
        = .next (flushReports (replied tag 0x7F .badRequest .none (heardFeed s)))

/-- START of a day up to 65,534 holds the head of the queue while its computation runs; a day above is BAD_REQUEST (R11,
R119). At the completion the device is RUNNING with its clock set to the day, the FREE ids make the free-id list in
ascending order, the banks have their reference counts, the load counter is the larger of its value and the largest
generation of an entry that is not FREE, the Day Table has a
record for each day of the window, DONE is given, and the waiting requests are taken (R120, R119, R154, R172). That the
completion is a command that may come at any time is the model's choice (log entry 26), and that it does nothing without a
START at the head is DEDUCED (log entry 2). -/
def Obligations.StartAndItsCompletion : Prop :=
  (∀ (s : State) (tag day : Nat), Attentive s → s.device = .starting →
    (day ≤ 65534 →
      exec (.start tag day) s = .next (flushReports { heardFeed s with control := [{ tag, request := .start day }] }))
    ∧ (65534 < day → exec (.start tag day) s = .next (flushReports (replied tag 0x01 .badRequest .none (heardFeed s)))))
  ∧ (∀ (s : State) (tag day : Nat) (rest : List QueuedRequest), s.feed.up = true →
    s.control = { tag, request := .start day } :: rest →
    ∃ t, exec .startComputationComplete s = .next (flushReports (takeTurns (replied tag 0x01 .done .none t)))
      ∧ t = { s with
          control := rest, device := .running, freeIds := t.freeIds, banks := t.banks
          clock := { currentDay := some day, lateWindow := s.clock.pendingLate.getD s.clock.lateWindow, pendingLate := none }
          loadCounter := max s.loadCounter (largestGeneration s.catalog)
          days := (daysFrom (day - s.clock.pendingLate.getD s.clock.lateWindow) (day + 1)).map
            fun d => { day := d, state := if d < day then .closed else .opened } }
      ∧ (NMap.canonical {} s.catalog = true →
        let carries := fun g => ∃ id o, (s.entry id).state ≠ .free ∧ (s.entry id).opening = some o ∧ o.key.generation = g
        (∀ g, carries g → g ≤ largestGeneration s.catalog)
        ∧ (largestGeneration s.catalog = 0 ∨ carries (largestGeneration s.catalog)))
      ∧ (∀ id, id ∈ t.freeIds ↔ id < 262144 ∧ (s.entry id).state = .free) ∧ t.freeIds.Pairwise (· < ·)
      ∧ ∀ b, t.bank b = { s.bank b with references := match (s.bank b).generation with
          | none => 0
          | some g => if (s.bank b).holdsGeneration g
              then (s.catalog.filter fun p => p.2.carries b g).length else 0 })
  ∧ ∀ s : State, (∀ tag day rest, s.control ≠ { tag, request := .start day } :: rest) →
      exec .startComputationComplete s = .next (flushReports s)

/-- CATALOG_LOAD in STARTING: the first entry outside its ranges, else the first whose id is taken, refuses the whole with
its position; else every entry is written at its id as STORED and the state counts follow (R118). The ranges are those
of R108, with a result and a reason that section 12.8 codes and a switch set that is not empty (R118 test 2). -/
def Obligations.CatalogLoadPlacesEntries : Prop :=
  ∀ (s : State) (tag : Nat) (entries : List LoadEntry),
    Attentive s → s.device = .starting → 1 ≤ entries.length → entries.length ≤ 8 →
    let answered := fun (code : ResponseCode) (results : Results) (t : State) =>
      exec (.catalogLoad tag entries) s = .next (flushReports (replied tag 0x02 code results t))
    (∀ good e rest, entries = good ++ e :: rest → (∀ x ∈ good, badLoadEntry x = false) → badLoadEntry e = true →
      answered .badRequest (.position (good.length + 1)) (heardFeed s))
    ∧ ((∀ e ∈ entries, badLoadEntry e = false) →
      (∀ good e rest, entries = good ++ e :: rest →
        (∀ x ∈ good, (s.entry x.segmentId).state = .free) → (good.map LoadEntry.segmentId).Nodup →
        ((s.entry e.segmentId).state ≠ .free ∨ e.segmentId ∈ good.map LoadEntry.segmentId) →
        answered .inUse (.position (good.length + 1)) (heardFeed s))
      ∧ (NMap.canonical {} s.catalog = true → (∀ e ∈ entries, (s.entry e.segmentId).state = .free) →
        (entries.map LoadEntry.segmentId).Nodup →
        ∃ t, answered .done .none t
          ∧ t = { heardFeed s with catalog := t.catalog, stateCounts := t.stateCounts }
          ∧ (∀ e ∈ entries, t.entry e.segmentId = {
              edition := e.edition
              state := .stored
              opening := some {
                key := { cls := e.cls, day := e.day, bank := bankOf e.bank, generation := e.generation }, late := e.late }
              figures := some {
                recordCount := e.recordCount, bodyLength := e.bodyLength, checkValue := e.checkValue
                durationSum := e.durationSum, firstStart := e.firstStart, lastStart := e.lastStart
                switches := switchSetOf e.switches, expiryDay := e.expiryDay, writeAttempts := 0, deleteAttempts := 0
                verify := (loadedVerify e.verifyCode e.reasonCode).getD .none } })
          ∧ (∀ id, id ∉ entries.map LoadEntry.segmentId → t.entry id = s.entry id)
          ∧ t.stateCounts = (s.stateCounts.set 0 (s.stateCounts[0] - entries.length)).set 4
              (s.stateCounts[4] + entries.length)))
    ∧ (∀ e, badLoadEntry e = true ↔ 262143 < e.segmentId ∨ 255 < e.edition ∨ 7 < e.cls ∨ 65535 < e.day ∨ 3 < e.bank
        ∨ e.generation < 1 ∨ 4294967295 < e.generation ∨ e.recordCount < 1 ∨ 4096 < e.recordCount ∨ e.bodyLength < 6
        ∨ 65496 < e.bodyLength ∨ 4294967295 < e.checkValue ∨ 4294967295 < e.durationSum ∨ 4294967295 < e.firstStart
        ∨ 4294967295 < e.lastStart ∨ 65535 < e.expiryDay ∨ loadedVerify e.verifyCode e.reasonCode = none
        ∨ e.switches = [] ∨ ∃ w ∈ e.switches, 511 < w)
    ∧ ∀ code reason result, loadedVerify code reason = some result ↔
        (code, reason, result) ∈ [(0, 0, VerifyResult.none), (1, 0, .fullOk), (2, 0, .checkOnlyOk), (3, 1, .damaged .check),
          (3, 2, .damaged .count), (3, 3, .damaged .duration), (3, 4, .damaged .header), (3, 5, .damaged .decode),
          (3, 6, .damaged .missing)]

/-- TABLE_BEGIN: refused for an ACTIVE or DRAINING bank, and without force for a READY bank with references; else the bank
is cleared and LOADING, and a pending selection of it is cancelled (R46). -/
def Obligations.TableBeginClearsBank : Prop :=
  ∀ (s : State) (tag force : Nat) (b : Fin 4), Attentive s → force ≤ 1 →
    let answered := fun (code : ResponseCode) (t : State) =>
      exec (.tableBegin tag b.val force) s = .next (flushReports (replied tag 0x10 code .none t))
    let kept := match s.selection with
      | none => none
      | some sel => if sel.bank = b then none else some sel
    let cleared := { heardFeed s with
      selection := kept
      banks := s.banks.set b { state := .loading, generation := none, boundFiles := (s.bank b).boundFiles, references := 0
                               lastTable := none, writeIndex := 0, serviceMap := [], classTable := [], switchTable := []
                               dictionary := [] } }
    (((s.bank b).state = .active ∨ (s.bank b).state = .draining) → answered .badState (heardFeed s))
    ∧ ((s.bank b).state = .ready → 0 < (s.bank b).references → force = 0 → answered .inUse (heardFeed s))
    ∧ ((s.bank b).state = .ready → ((s.bank b).references = 0 ∨ force = 1) → answered .done cleared)
    ∧ (((s.bank b).state = .empty ∨ (s.bank b).state = .loading) → answered .done cleared)

/-- TABLE_WRITE: its three tests in order, and the run stored from the start index, which CONTINUE takes from the write
index or from the table's first index (R47, R48, R41). A run stored in a table reads back, and leaves the other entries. That
the refusals of a bank not LOADING and of a range outside the table carry no result is DEDUCED (log entry 14). -/
def Obligations.TableWriteStoresRun : Prop :=
  (∀ (s : State) (tag : Nat) (b : Fin 4) (startIndex : Option Nat) (entries : TableEntries),
    Attentive s → 1 ≤ entryCount entries → entryCount entries ≤ 64 →
    let first := match tableOf entries with | .prefixDictionary => 1 | _ => 0
    let last := match tableOf entries with
      | .serviceMap => 1023 | .classTable => 7 | .switchTable => 511 | .prefixDictionary => 255
    let start := match startIndex with
      | some i => i
      | none => if (s.bank b).lastTable = some (tableOf entries) then (s.bank b).writeIndex else first
    let n := entryCount entries
    let bad := fun k : Nat => match entries with
      | .serviceMap cs => ∃ c, cs[k]? = some c ∧ 7 < c
      | .classTable ds => ∃ d, ds[k]? = some d ∧ (d < 1 ∨ 1095 < d)
      | .switchTable es => ∃ e, es[k]? = some e ∧ (1 < e.1 ∨ e.2 < -720 ∨ 840 < e.2)
      | .prefixDictionary ns => ∃ x, ns[k]? = some x
          ∧ (x.count = 1 ∨ x.count = 2 ∨ 12 < x.count ∨ ∃ d ∈ x.digits.take x.count, 9 < d)
    let noted := { s.bank b with lastTable := some (tableOf entries), writeIndex := start + n }
    let written := match entries with
      | .serviceMap cs => { noted with serviceMap := writeRun 0 (s.bank b).serviceMap start cs }
      | .classTable ds => { noted with classTable := writeRun 1 (s.bank b).classTable start ds }
      | .switchTable es => { noted with
          switchTable := writeRun {} (s.bank b).switchTable start
            (es.map fun e => { enabled := decide (e.1 = 1), offset := e.2 }) }
      | .prefixDictionary ns => { noted with
          dictionary := writeRun [] (s.bank b).dictionary start (ns.map fun x => x.digits.take x.count) }
    let answered := fun (code : ResponseCode) (results : Results) (t : State) =>
      exec (.tableWrite tag b.val startIndex entries) s = .next (flushReports (replied tag 0x11 code results t))
    ((s.bank b).state ≠ .loading → answered .badState .none (heardFeed s))
    ∧ ((s.bank b).state = .loading →
      (start < first ∨ last + 1 < start + n → answered .badRequest .none (heardFeed s))
      ∧ (first ≤ start → start + n ≤ last + 1 →
        (∀ k, bad k → (∀ j < k, ¬ bad j) → answered .badRequest (.index (start + k)) (heardFeed s))
        ∧ ((∀ k, ¬ bad k) →
          answered .done (.index (start + n)) { heardFeed s with banks := s.banks.set b written }))))
  ∧ ∀ (α : Type) [DecidableEq α] (default : α) (table : NMap α) (start : Nat) (run : List α) (k : Nat),
      NMap.canonical default table = true →
      NMap.canonical default (writeRun default table start run) = true
      ∧ NMap.read default (writeRun default table start run) k
        = (if start ≤ k ∧ k < start + run.length then run.getD (k - start) default else NMap.read default table k)

/-- TABLE_END: its five tests in order; one that passes holds the head while its validation runs (R49). At the completion
the lowest index whose string equals one at a lower index refuses it; else the bank is READY with the supplied generation
or the next of the load counter (R50, R51, R45). That the completion is a command that may come at any time is the model's
choice (log entry 26), and that it does nothing without a TABLE_END at the head is DEDUCED (log entry 2). -/
def Obligations.TableEndAndValidation : Prop :=
  (∀ (s : State) (tag supplied generation : Nat) (b : Fin 4), Attentive s → supplied ≤ 1 →
    let refused := fun code : ResponseCode =>
      exec (.tableEnd tag b.val supplied generation) s = .next (flushReports (replied tag 0x12 code .none (heardFeed s)))
    let holds := exec (.tableEnd tag b.val supplied generation) s = .next (flushReports
      { heardFeed s with control := [{ tag, request := .tableEnd b.val supplied generation }] })
    let elsewhere := ∃ o, o ≠ b ∧ (s.bank o).holdsGeneration generation = true
    ((s.bank b).state ≠ .loading → refused .badState)
    ∧ ((s.bank b).state = .loading →
      (supplied = 1 → s.device = .running → refused .badRequest)
      ∧ (supplied = 1 → s.device = .starting → generation = 0 → refused .badRequest)
      ∧ (supplied = 1 → s.device = .starting → generation ≠ 0 → elsewhere → refused .inUse)
      ∧ (supplied = 1 → s.device = .starting → generation ≠ 0 → ¬ elsewhere → holds)
      ∧ (supplied = 0 → s.loadCounter = 4294967295 → refused .badState)
      ∧ (supplied = 0 → s.loadCounter ≠ 4294967295 → holds)))
  ∧ (∀ (s : State) (tag supplied generation : Nat) (b : Fin 4) (rest : List QueuedRequest), s.feed.up = true →
    s.control = { tag, request := .tableEnd b.val supplied generation } :: rest →
    NMap.canonical [] (s.bank b).dictionary = true → supplied ≤ 1 →
    let string := fun i => NMap.read [] (s.bank b).dictionary i
    let repeats := fun j => string j ≠ [] ∧ ∃ i < j, string i = string j
    (∀ j, repeats j → (∀ i < j, ¬ repeats i) →
      exec .validationComplete s
        = .next (flushReports (takeTurns (replied tag 0x12 .badRequest (.index j) { s with control := rest }))))
    ∧ ((∀ j, ¬ repeats j) →
      let counter := if supplied = 1 then max s.loadCounter generation else s.loadCounter + 1
      let given := if supplied = 1 then generation else s.loadCounter + 1
      exec .validationComplete s
        = .next (flushReports (takeTurns (replied tag 0x12 .done (.bankReady b.val given) { s with
            control := rest, loadCounter := counter
            banks := s.banks.set b { s.bank b with state := .ready, generation := some given, references := 0 } })))))
  ∧ ∀ s : State, (∀ tag b supplied generation rest,
        s.control ≠ { tag, request := .tableEnd b supplied generation } :: rest) →
      exec .validationComplete s = .next (flushReports s)

/-- TABLE_SELECT by the state of the bank (R53). A selection that takes effect makes the bank ACTIVE with a BANK_ACTIVE
report, and supersedes the bank that was ACTIVE: DRAINING while files are bound to it, else retired, with its open segments
sealed and a BANK_RETIRED report (R54, R55, R58). The codes of that report and of BANK_ACTIVE are DEDUCED (log entry 9). -/
def Obligations.TableSelectByBankState : Prop :=
  (∀ (s : State) (tag mode : Nat) (b : Fin 4), Attentive s → mode ≤ 1 →
    let answered := fun (code : ResponseCode) (t : State) =>
      exec (.tableSelect tag b.val mode) s = .next (flushReports (replied tag 0x13 code .none t))
    ((s.bank b).state = .active → answered .done { heardFeed s with selection := none })
    ∧ (((s.bank b).state = .empty ∨ (s.bank b).state = .loading ∨ (s.bank b).state = .draining) →
        answered .badState (heardFeed s))
    ∧ ((s.bank b).state = .ready → (∀ o, (s.bank o).state ≠ .active) →
        answered .done (raise .bankActive (some b.val) ((s.bank b).generation.getD 0) 0xFFFFFFFF 0
          { heardFeed s with selection := none, banks := s.banks.set b { s.bank b with state := .active } }))
    ∧ ((s.bank b).state = .ready → (∃ o, (s.bank o).state = .active) →
        answered .done { heardFeed s with
          selection := some { bank := b, mode := if mode = 0 then .nextFile else .dayClose } }))
  ∧ ∀ (s : State) (b old : Fin 4) (how : SelectedBy), BanksSound s → (s.bank b).state = .ready →
    (s.bank old).state = .active →
    let reported := raise .bankActive (some b.val) ((s.bank b).generation.getD 0) old.val how.code
      { s with selection := none, banks := s.banks.set b { s.bank b with state := .active } }
    (0 < (s.bank old).boundFiles →
      selectBank b how s = { reported with banks := reported.banks.set old { s.bank old with state := .draining } })
    ∧ ((s.bank old).boundFiles = 0 →
      let sealed := sealWhere
        (fun g => decide (g.key.bank = old) && decide (some g.key.generation = (s.bank old).generation)) reported
      selectBank b how s = raise .bankRetired (some old.val) ((s.bank old).generation.getD 0) (s.bank old).references 0
        { sealed with banks := reported.banks.set old { s.bank old with state := .ready } })

/-- TABLE_CANCEL: DONE drops a pending selection; with none pending, NOT_FOUND. No bank changes state, in STARTING as in
RUNNING (R56). -/
def Obligations.TableCancelDropsSelection : Prop :=
  ∀ (s : State) (tag : Nat), Attentive s →
    (s.selection ≠ none → exec (.tableCancel tag) s
      = .next (flushReports (replied tag 0x14 .done .none { heardFeed s with selection := none })))
    ∧ (s.selection = none →
      exec (.tableCancel tag) s = .next (flushReports (replied tag 0x14 .notFound .none (heardFeed s))))

/-- DAY_CLOSE: refused at current day 65,534; else the clock advances, adopting a pending late window, and the banks, the
encoder, the sweeper with the grants that follow and the Day Table take their parts in this order, after the response
(R13, R12, R54, R97, R141, R160). The place of the grants, after the sweeper's part and before the Day Table's, is DEDUCED
(log entry 3). -/
def Obligations.DayCloseAdvances : Prop :=
  ∀ (s : State) (tag c : Nat), Attentive s → s.device = .running → s.clock.currentDay = some c →
    (65533 < c → exec (.dayClose tag) s = .next (flushReports (replied tag 0x20 .badState .none (heardFeed s))))
    ∧ (c ≤ 65533 →
      let advanced := replied tag 0x20 .done .none { heardFeed s with
        clock := { currentDay := some (c + 1), lateWindow := s.clock.pendingLate.getD s.clock.lateWindow
                   pendingLate := none } }
      let selected := match s.selection with
        | some { bank, mode := .dayClose } => selectBank bank .dayClose advanced
        | _ => advanced
      let sealed := (selected.openSegments.filter fun g => decide (g.key.day < c + 1)).foldl
        (fun x g => sealSegment g x) selected
      let sweeper := match s.sweeper.phase with
        | .idle => passSweeper s { s.sweeper with cursor := 0, counts := {}, anotherPass := false }
        | .stopped => passSweeper s { s.sweeper with anotherPass := s.sweeper.anotherPass || decide (0 < s.sweeper.cursor) }
        | .running | .resting | .extendedRest => { s.sweeper with anotherPass := true }
      let swept := if s.params.autoSweep then { sealed with sweeper := sweeper } else sealed
      exec (.dayClose tag) s = .next (flushReports (closeDayTable c (arbitrate swept))))

/-- The Day Table at a taken DAY_CLOSE: the closed day's record becomes CLOSED, the new current day's is kept, a new OPEN
record is made above it, records below the new window are retired, and window days without a record get a new CLOSED one;
DAY_CLOSED with the day's stored, closed and unreconciled totals and then each DAY_FINAL with its stored total, its
exceptions and whether a row is SATURATED are raised, and nothing else changes (R160, R161). That neither shows an eviction
count is the model's choice between R68 and R161 (log entry 37); the yes or no code is DEDUCED (log entry 9). -/
def Obligations.DayTableFollowsClose : Prop :=
  ∀ (s : State) (c : Nat), s.clock.currentDay = some (c + 1) → (s.days.map DayRecord.day).Pairwise (· < ·) →
    (∀ d ∈ s.days, d.day ≤ c + 1) →
    let first := c + 1 - s.clock.lateWindow
    let t := closeDayTable c s
    (t.days.map DayRecord.day).Pairwise (· < ·)
    ∧ (∀ day, t.dayRecord day
        = if day < first ∨ c + 2 < day then none
          else if day = c + 2 then some { day := day, state := .opened }
          else if day = c + 1 then s.dayRecord day
          else if day = c then some ((s.dayRecord c).elim { day := day, state := .closed } (fun d => { d with state := .closed }))
          else some ((s.dayRecord day).getD { day := day, state := .closed }))
    ∧ t = { (((s.days.filter fun d => decide (d.day < first)).map fun d =>
                if d.day = c then { d with state := .closed } else d).foldl
                (fun x d => raise .dayFinal (some d.day) (min 4294967295 d.totals.stored)
                  (d.rows.filter fun p =>
                    decide (0 < p.2.totals.filesUnreconciled ∨ 0 < p.2.totals.lost ∨ p.2.saturated = true)).length
                  (if ∃ p ∈ d.rows, p.2.saturated = true then 1 else 0) x)
              (match s.dayRecord c with
                | none => s
                | some d => raise .dayClosed (some c) (min 4294967295 d.totals.stored)
                    (min 4294967295 d.totals.filesClosed) (min 4294967295 d.totals.filesUnreconciled) s))
          with days := t.days }

/-- An addition to the Day Table: to the row of its switch and day and in full to the day totals; a row accumulator is held
at its maximum, which sets SATURATED and gives ACCUM_SATURATED once; a day without a record takes it in the unplaced totals
(R155, R157, R158). An addition to the current day is one to that day (R156); while the Day Clock is unset, which no run
shows, it does nothing (log entry 20). -/
def Obligations.AdditionReachesItsRow : Prop :=
  ∀ (s : State) (day switchId : Nat) (a : Accumulator) (n : Nat),
    let t := addToDay day switchId a n s
    (s.clock.currentDay = some day → addToCurrentDay switchId a n s = t)
    ∧ (s.clock.currentDay = none → addToCurrentDay switchId a n s = s)
    ∧ (s.dayRecord day = none → t = { s with unplaced := s.unplaced.put a (min max64 (s.unplaced.get a + n)) })
    ∧ ∀ d, s.dayRecord day = some d → NMap.rising d.rows = true →
      let row := (NMap.find? d.rows switchId).getD {}
      let limit := match a with | .durationSum | .chargeSum => max64 | _ => max32
      ∃ d', t.dayRecord day = some d'
        ∧ d' = { d with rows := d'.rows, totals := d.totals.put a (min max64 (d.totals.get a + n)) }
        ∧ NMap.find? d'.rows switchId = some {
            totals := row.totals.put a (min limit (row.totals.get a + n))
            saturated := row.saturated || decide (limit < row.totals.get a + n) }
        ∧ (∀ other, other ≠ switchId → NMap.find? d'.rows other = NMap.find? d.rows other)
        ∧ (∀ other, other ≠ day → t.dayRecord other = s.dayRecord other)
        ∧ t = { (if limit < row.totals.get a + n ∧ row.saturated = false
                  then raise .accumSaturated (some day) switchId a.code n s else s) with days := t.days }

/-- HOLD_ADD places a LEGAL hold in the lowest-numbered free entry and gives HOLD_MISSED, in ascending tag order, for each
entry that an OUTSTANDING DELETE holds DELETING and the hold matches. HOLD_RELEASE frees an entry, which then serves the
oldest pending entry; the end of the pending list ends the suspension (R144, R145, R146, R149). How an expiry is found
reached is DEDUCED (log entry 2), as is the place of the grants after the response (log entry 3). That a class set above
255, which no frame carries, is read modulo 256 is the model's choice (log entry 32). -/
def Obligations.HoldsAddedAndReleased : Prop :=
  (∀ (s : State) (tag switchWord firstDay lastDay classSet : Nat), Attentive s →
    let bad := lastDay < firstDay ∨ 65535 < firstDay ∨ 65535 < lastDay ∨ (511 < switchWord ∧ switchWord ≠ 0xFFFF)
      ∨ classSet % 256 = 0
    let selector : HoldSelector := {
      switch := if switchWord = 0xFFFF then none else some switchWord, firstDay, lastDay
      classes := BitVec.ofNat 8 classSet }
    let answered := fun (code : ResponseCode) (results : Results) (after : State → State) (t : State) =>
      exec (.holdAdd tag switchWord firstDay lastDay classSet) s
        = .next (flushReports (after (replied tag 0x30 code results t)))
    (s.device = .starting → answered .badState .none id (heardFeed s))
    ∧ (s.device = .running → bad → answered .badRequest .none id (heardFeed s))
    ∧ (s.device = .running → ¬ bad → (∀ h, s.hold h ≠ none) → answered .noRoom .none id (heardFeed s))
    ∧ (s.device = .running → ¬ bad → ∀ h, s.hold h = none → (∀ x < h, s.hold x ≠ none) →
      let missed := fun t : Fin 8 => ∃ op, s.tag t = some op ∧ op.operation = .delete
        ∧ (s.entry op.segmentId).state = .deleting ∧ selector.matchesEntry (s.entry op.segmentId) = true
      ∃ reported : List (Fin 8), reported.Pairwise (· < ·) ∧ (∀ t, t ∈ reported ↔ missed t)
        ∧ answered .done (.holdId h.val)
            (fun x => reported.foldl (fun y t => match s.tag t with
              | none => y
              | some op => raise .holdMissed (some op.segmentId) h.val (s.entry op.segmentId).edition
                  (s.entry op.segmentId).expiryDay y) x)
            { heardFeed s with holds := s.holds.set h (some { kind := .legal, selector }) }))
  ∧ ∀ (s : State) (tag : Nat), Attentive s →
    (s.device = .starting → ∀ holdId,
      exec (.holdRelease tag holdId) s = .next (flushReports (replied tag 0x31 .badState .none (heardFeed s))))
    ∧ (s.device = .running → ∀ holdId, 63 < holdId →
      exec (.holdRelease tag holdId) s = .next (flushReports (replied tag 0x31 .badRequest .none (heardFeed s))))
    ∧ (s.device = .running → ∀ h : Fin 64,
      (s.hold h = none →
        exec (.holdRelease tag h.val) s = .next (flushReports (replied tag 0x31 .notFound .none (heardFeed s))))
      ∧ (s.hold h ≠ none →
        let released := fun t : State =>
          exec (.holdRelease tag h.val) s = .next (flushReports (arbitrate (replied tag 0x31 .done .none t)))
        (s.pendingHolds = [] → released { heardFeed s with holds := s.holds.set h none })
        ∧ ∀ p rest, s.pendingHolds = p :: rest →
          let placed := raise .holdPlaced (some h.val) (optionValue p.switch) p.firstDay p.lastDay
            { heardFeed s with holds := s.holds.set h (some { kind := .audit, selector := p }), pendingHolds := rest }
          (rest ≠ [] → released placed)
          ∧ (rest = [] →
              let rested := s.sweeper.phase = .resting ∧ ∃ t, s.sweeper.restExpiry = some t ∧ s.reached t = true
              (rested → released { placed with
                sweeper := { s.sweeper with suspended := false, phase := .running, restExpiry := none } })
              ∧ (¬ rested → released { placed with sweeper := { s.sweeper with suspended := false } }))))

/-- SWEEP_START, SWEEP_STOP, VERIFY_START and VERIFY_STOP by the walker's phase, which is the resume state of a SUSPENDED
sweeper (R136, R142, R150, R164). -/
def Obligations.WalkersStartAndStop : Prop :=
  ∀ (s : State) (tag : Nat), Attentive s → s.device = .running →
    let w := s.sweeper
    let v := s.verifier
    let started := fun (c : Instr) (code : Nat) (t : State) =>
      exec c s = .next (flushReports (arbitrate (replied tag code .done .none t)))
    let stopped := fun (c : Instr) (code : Nat) (t : State) =>
      exec c s = .next (flushReports (replied tag code .done .none t))
    (w.phase = .idle ∨ w.phase = .stopped → started (.sweepStart tag 0) 0x40
      { heardFeed s with sweeper := passSweeper s { w with cursor := 0, counts := {}, anotherPass := false } })
    ∧ (inPass w.phase → started (.sweepStart tag 0) 0x40
      { heardFeed s with sweeper := { w with cursor := 0, counts := {} } })
    ∧ (w.phase = .idle → started (.sweepStart tag 1) 0x40
      { heardFeed s with sweeper := passSweeper s { w with counts := {}, anotherPass := false } })
    ∧ (w.phase = .stopped → started (.sweepStart tag 1) 0x40 { heardFeed s with sweeper := passSweeper s w })
    ∧ (inPass w.phase → started (.sweepStart tag 1) 0x40 (heardFeed s))
    ∧ (inPass w.phase → stopped (.sweepStop tag) 0x41
      { heardFeed s with sweeper := { w with phase := .stopped, restExpiry := none } })
    ∧ (w.phase = .idle ∨ w.phase = .stopped → stopped (.sweepStop tag) 0x41 (heardFeed s))
    ∧ (v.phase = .idle ∨ v.phase = .stopped → started (.verifyStart tag 0) 0x48
      { heardFeed s with verifier := passVerifier s { v with cursor := 0, counts := {} } })
    ∧ (inPass v.phase → started (.verifyStart tag 0) 0x48
      { heardFeed s with verifier := { v with cursor := 0, counts := {} } })
    ∧ (v.phase = .idle → started (.verifyStart tag 1) 0x48
      { heardFeed s with verifier := passVerifier s { v with counts := {} } })
    ∧ (v.phase = .stopped → started (.verifyStart tag 1) 0x48 { heardFeed s with verifier := passVerifier s v })
    ∧ (inPass v.phase → started (.verifyStart tag 1) 0x48 (heardFeed s))
    ∧ (inPass v.phase → stopped (.verifyStop tag) 0x49
      { heardFeed s with verifier := { v with phase := .stopped, restExpiry := none } })
    ∧ (v.phase = .idle ∨ v.phase = .stopped → stopped (.verifyStop tag) 0x49 (heardFeed s))

/-- SEGMENT_RETRY and SEGMENT_DISCARD test the id, the edition and the state in this order. A retry sends a WRITE_FAILED
entry back to the write queue with 0 attempts, and a DELETE_FAILED one back to STORED; a discard frees a WRITE_FAILED entry
and its buffer, after which a stall may end (R106, R107, R116, R113; the response's place is log entry 13). -/
def Obligations.FailedSegmentsRetriedOrDiscarded : Prop :=
  ∀ (s : State) (tag id edition : Nat), Attentive s → s.device = .running →
    let e := s.entry id
    let refused := fun code : ResponseCode =>
      exec (.segmentRetry tag id edition) s = .next (flushReports (replied tag 0x50 code .none (heardFeed s)))
      ∧ exec (.segmentDiscard tag id edition) s = .next (flushReports (replied tag 0x51 code .none (heardFeed s)))
    (262144 ≤ id → refused .badRequest)
    ∧ (id < 262144 → e.edition ≠ edition → refused .notFound)
    ∧ (id < 262144 → e.edition = edition → e.state ≠ .writeFailed → e.state ≠ .deleteFailed → refused .badState)
    ∧ (id < 262144 → e.edition = edition → e.state = .writeFailed → ∀ (f : Figures) (i : Fin 32),
      e.figures = some f → s.bufferOf id = some i →
      let retried := (heardFeed s).setEntry id { e with state := .writing, figures := some { f with writeAttempts := 0 } }
      exec (.segmentRetry tag id edition) s = .next (flushReports (arbitrate (replied tag 0x50 .done .none
        { retried with
          buffers := s.buffers.set i { s.buffer i with state := .sealed }, writeQueue := s.writeQueue ++ [id] })))
      ∧ exec (.segmentDiscard tag id edition) s = .next (flushReports (arbitrate (takeUpHeld (replied tag 0x51 .done .none
          (freeEntry id { heardFeed s with buffers := s.buffers.set i {} }))))))
    ∧ (id < 262144 → e.edition = edition → e.state = .deleteFailed → ∀ f, e.figures = some f →
      exec (.segmentRetry tag id edition) s = .next (flushReports (replied tag 0x50 .done .none
        ((heardFeed s).setEntry id { e with state := .stored, figures := some { f with deleteAttempts := 0 } })))
      ∧ exec (.segmentDiscard tag id edition) s
          = .next (flushReports (replied tag 0x51 .badState .none (heardFeed s))))

/-- The freeing of an entry: FREE with the next edition, its id at the tail of the free-id list, its bank's reference count
lowered where the bank holds its generation, a stall judged anew, and a set catalog-full flag cleared with CATALOG_SPACE
(R113, R117, R94, R95). That CATALOG_SPACE carries the figures after this, and before a held record is taken up, is DEDUCED
(log entry 12). -/
def Obligations.FreedEntryReturnsItsId : Prop :=
  ∀ (s : State) (id : Nat) (o : Opening), (s.entry id).opening = some o →
    let freed := s.setEntry id
      { edition := ((s.entry id).edition + 1) % 256, state := .free, opening := none, figures := none }
    let b := s.bank o.key.bank
    let lowered := if b.holdsGeneration o.key.generation = true
      then s.banks.set o.key.bank { b with references := b.references - 1 } else s.banks
    let stall := match s.stall with
      | .runningFree => .runningFree
      | .stalled _ => if s.freeBuffer = none then .stalled .noBuffer else .runningFree
    let done := { freed with freeIds := s.freeIds ++ [id], banks := lowered, stall := stall }
    (s.catalogFull = false → freeEntry id s = done)
    ∧ (s.catalogFull = true → freeEntry id s
        = raise .catalogSpace (some id) (s.freeIds.length + 1) (s.bufferCount .free)
            (match stall with | .runningFree => 0 | .stalled _ => 1) { done with catalogFull := false })

/-- The ten SETs take the value, or the nearest end of the parameter's range, and answer DONE with the value taken; the
late window is kept as pending, the seal timeout in milliseconds, and a SET of the report holdoff acts on its timer (R174,
R181). -/
def Obligations.SetsTakeClampedValues : Prop :=
  ∀ (s : State) (tag value : Nat), Attentive s →
    let p := s.params
    let took := fun (c : Instr) (low high : Nat) (after : Nat → State) =>
      exec c s = .next (flushReports (replied tag 0x60 .done (.valueTaken (max low (min high value)))
        (after (max low (min high value)))))
    took (.setReportHoldoff tag value) 0 255 (fun v => { heardFeed s with
        params := { p with reportHoldoff := v }
        reports := { s.reports with
          due := false
          timer := if s.reports.entries ≠ [] ∧ 2 ≤ v then some ((s.runTime + v) % 4294967296) else none } })
    ∧ took (.setLateWindow tag value) 0 7 (fun v => { heardFeed s with clock := { s.clock with pendingLate := some v } })
    ∧ took (.setSealTimeout tag value) 10 3600 (fun v => { heardFeed s with params := { p with sealTimeoutMs := 1000 * v } })
    ∧ took (.setStoreTimeout tag value) 100 10000 (fun v => { heardFeed s with params := { p with storeTimeout := v } })
    ∧ took (.setFullRetry tag value) 100 60000 (fun v => { heardFeed s with params := { p with fullRetry := v } })
    ∧ took (.setSweepBurst tag value) 1 64 (fun v => { heardFeed s with params := { p with sweepBurst := v } })
    ∧ took (.setSweepRest tag value) 1 10000 (fun v => { heardFeed s with params := { p with sweepRest := v } })
    ∧ took (.setAutoSweep tag value) 0 1 (fun v => { heardFeed s with params := { p with autoSweep := decide (v = 1) } })
    ∧ took (.setVerifyRest tag value) 1 10000 (fun v => { heardFeed s with params := { p with verifyRest := v } })
    ∧ took (.setVerifyScope tag value) 0 1 (fun v => { heardFeed s with
        params := { p with verifyScope := if v = 1 then .all else .unverified } })

/-- The nine QUERYs answer with what stands when they are taken, in any device state, and change no state but the frame
counted and the response sent (R175, R39, R60, R121, R151, R162). That the queue length of STATUS counts the query itself is
DEDUCED (log entry 27), and what its holdoff state holds is the model's choice (log entry 38). -/
def Obligations.QueriesReadState : Prop :=
  ∀ (s : State) (tag : Nat), Attentive s →
    let answered := fun (c : Instr) (code : ResponseCode) (results : Results) =>
      exec c s = .next (flushReports (replied tag 0x70 code results (heardFeed s)))
    answered (.queryIdent tag) .done (.ident s.device s.runTime)
    ∧ (let buffers := fun st : BufferState => (List.finRange 32).countP fun i => decide ((s.buffer i).state = st)
       answered (.queryStatus tag) .done (.status {
         device := s.device, runTime := s.runTime, clock := s.clock, controlLength := 1
         reportLength := s.reports.entries.length, reportsLost := s.reports.lost
         holdoffTimer := s.reports.timer, holdoffDue := s.reports.due
         feed := { s.feed with good := min max32 (s.feed.good + 1), lastGood := s.runTime }, store := s.store
         openSegments := s.openSegments.length, buffersFree := buffers .free, buffersFilling := buffers .filling
         buffersSealed := buffers .sealed, buffersFailed := buffers .failed, stall := s.stall
         catalogFull := s.catalogFull, storeFull := s.storeFull, writeQueueLength := s.writeQueue.length
         writesOutstanding := (List.finRange 8).countP fun t => match s.tag t with
           | none => false
           | some op => decide (op.operation = .write)
         fullWaits := s.fullWaits.length, freeIds := s.freeIds.length, tags := (List.finRange 8).map s.tag
         strayFrames := s.strayFrames, sweeper := s.sweeper, autoSweep := s.params.autoSweep
         verifierPhase := s.verifier.phase, verifierCursor := s.verifier.cursor, verifierCounts := s.verifier.counts
         verifyScope := s.params.verifyScope, verifyRest := s.params.verifyRest }))
    ∧ (∀ l : Fin 16, answered (.queryLane tag l.val) .done (.lane (s.lane l)))
    ∧ (∀ lane, 15 < lane → answered (.queryLane tag lane) .badRequest .none)
    ∧ (∀ older e newer, s.recent = older ++ e :: newer → newer.length ≤ 63 →
        answered (.queryRecent tag newer.length) .done (.recent e))
    ∧ (∀ position, s.recent.length ≤ position → position ≤ 63 → answered (.queryRecent tag position) .notFound .none)
    ∧ (∀ position, 63 < position → answered (.queryRecent tag position) .badRequest .none)
    ∧ (∃ active views, answered (.queryBanks tag) .done (.banks active s.selection s.loadCounter views)
        ∧ ((∀ b, (s.bank b).state ≠ .active) → active = none)
        ∧ (BanksSound s → ∀ b, (s.bank b).state = .active → active = some b)
        ∧ views.length = 4
        ∧ ∀ b : Fin 4, views[b.val]? = some {
            state := (s.bank b).state, generation := (s.bank b).generation, boundFiles := (s.bank b).boundFiles
            references := (s.bank b).references, lastTable := (s.bank b).lastTable, writeIndex := (s.bank b).writeIndex })
    ∧ (∀ id, id < 262144 →
        answered (.queryCatalog tag id) .done (.catalog id (s.entry id) s.stateCounts.toList s.freeIds.length))
    ∧ (∀ id, 262143 < id → answered (.queryCatalog tag id) .badRequest .none)
    ∧ (∀ day switchWord, 511 < switchWord → switchWord ≠ 0xFFFF →
        answered (.queryDay tag day switchWord) .badRequest .none)
    ∧ (∀ day switchWord, (switchWord ≤ 511 ∨ switchWord = 0xFFFF) → s.dayRecord day = none →
        answered (.queryDay tag day switchWord) .notFound .none)
    ∧ (∀ day switchWord d, (switchWord ≤ 511 ∨ switchWord = 0xFFFF) → s.dayRecord day = some d →
        answered (.queryDay tag day switchWord) .done (.day {
          state := d.state, amendments := d.amendments, totals := d.totals, rowCount := d.rows.length
          exceptions := (d.rows.filter fun p =>
            decide (0 < p.2.totals.filesUnreconciled ∨ 0 < p.2.totals.lost ∨ p.2.saturated = true)).length
          row := if switchWord = 0xFFFF then none else some (NMap.find? d.rows switchWord)
          unplaced := s.unplaced }))
    ∧ (∃ inUse, answered (.queryHolds tag) .done (.holds inUse s.pendingHolds)
        ∧ (inUse.map Prod.fst).Pairwise (· < ·) ∧ ∀ n x, (n, x) ∈ inUse ↔ ∃ h : Fin 64, h.val = n ∧ s.hold h = some x)
    ∧ answered (.queryParams tag) .done (.params s.params s.clock.lateWindow s.clock.pendingLate)

/-! ### The Store link's answers and the timers -/

/-- A STORE_ACK that matches the operation on its tag frees the tag and has the outcome of R129: writes stored, failed or
waiting (R102, R103, R104), deletions freed or failed (R113, R114, R143), reads ended without an image (R112, R167, R168).
The codes of the failures and of the damage are DEDUCED (log entry 9). -/
def Obligations.StoreAcknowledgementsEndOperations : Prop :=
  ∀ (s : State) (t : Fin 8) (op : Outstanding), s.store.up = true → s.tag t = some op →
    let id := op.segmentId
    let e := s.entry id
    let w := { heardStore s with tags := s.tags.set t none }
    let ended := fun (status : AckStatus) (x : State) => exec (.storeAck t id op.edition status) s = .next (settle x)
    (op.operation = .write → e.state = .writing → ∀ (f : Figures) (o : Opening) (i : Fin 32),
      e.figures = some f → e.opening = some o → s.bufferOf id = some i →
      ended .ok (takeUpHeld (refreshStall { w.setEntry id { e with state := .stored } with
        buffers := s.buffers.set i {}, storeFull := false }))
      ∧ (let waits := s.fullWaits ++ [{ segmentId := id, expiry := (s.runTime + s.params.fullRetry) % 4294967296 }]
         ended .full (if s.storeFull then { w with fullWaits := waits }
          else raise .storeFull (some id) e.edition waits.length (s.bufferCount .free)
            { w with fullWaits := waits, storeFull := true }))
      ∧ ∀ status, status = .error ∨ status = .notFound →
        let counted := { e with figures := some { f with writeAttempts := f.writeAttempts + 1 } }
        (f.writeAttempts + 1 < 3 → ended status { w.setEntry id counted with writeQueue := s.writeQueue ++ [id] })
        ∧ (3 ≤ f.writeAttempts + 1 → ended status (raise .segWriteFailed (some id) e.edition 0 o.key.day
            { w.setEntry id { counted with state := .writeFailed } with
              buffers := s.buffers.set i { s.buffer i with state := .failed } })))
    ∧ (op.operation = .delete → e.state = .deleting →
      (∀ status, status = .ok ∨ status = .notFound → ended status (takeUpHeld (freeEntry id w)))
      ∧ ∀ (f : Figures) (status : AckStatus) (code : Nat), e.figures = some f →
        (status = .error ∧ code = 0 ∨ status = .full ∧ code = 1) →
        let counted := { e with figures := some { f with deleteAttempts := f.deleteAttempts + 1 } }
        let failed := { s.sweeper with counts :=
          { s.sweeper.counts with failed := min max32 (s.sweeper.counts.failed + 1) } }
        (f.deleteAttempts + 1 < 3 →
          ended status { w.setEntry id { counted with state := .stored } with sweeper := failed })
        ∧ (3 ≤ f.deleteAttempts + 1 → ended status { raise .segDeleteFailed (some id) e.edition code f.expiryDay
            (w.setEntry id { counted with state := .deleteFailed }) with sweeper := failed }))
    ∧ (op.operation = .read → e.state = .verifying → ∀ f : Figures, e.figures = some f →
      let rested := fun (counts : VerifyCounts) =>
        let v : Verifier := { s.verifier with counts := counts, readBuffer := [] }
        if v.phase = .running then
          { v with phase := .resting, restExpiry := some ((s.runTime + s.params.verifyRest) % 4294967296) } else v
      let counts := s.verifier.counts
      ended .notFound { raise .segDamaged (some id) e.edition 5 0
        (w.setEntry id { e with state := .stored, figures := some { f with verify := .damaged .missing } }) with
        verifier := rested { counts with damaged := min max32 (counts.damaged + 1) } }
      ∧ ∀ status, status ≠ .notFound → ended status { raise .segDamaged (some id) e.edition 6 0
          (w.setEntry id { e with state := .stored }) with
          verifier := rested { counts with failed := min max32 (counts.failed + 1) } })

/-- READ_DATA appends to the read buffer up to 65,536 bytes, and with the last marker frees the tag and hands the image to
the verifier (R131). Stray Store link frames are counted and reported with their cause (R130); a READ_DATA of more than
16,384 bytes is malformed (log entry 22). -/
def Obligations.StoreDataAndStrays : Prop :=
  ∀ (s : State) (t : Fin 8), s.store.up = true →
    let stray := fun (subject : Option Nat) (edition cause : Nat) => settle (raise .strayAck subject t.val edition cause
      { heardStore s with strayFrames := min max32 (s.strayFrames + 1) })
    (∀ id edition status,
      (s.tag t = none → exec (.storeAck t id edition status) s = .next (stray (some id) edition 0))
      ∧ ∀ op, s.tag t = some op → (op.segmentId ≠ id ∨ op.edition ≠ edition) →
          exec (.storeAck t id edition status) s = .next (stray (some id) edition 1))
    ∧ ∀ (last : Bool) (bytes : List Byte),
      (16384 < bytes.length → exec (.readData t last bytes) s
        = .next { s with store := { s.store with malformed := min max32 (s.store.malformed + 1) } })
      ∧ (bytes.length ≤ 16384 →
        (s.tag t = none → exec (.readData t last bytes) s = .next (stray none 0xFFFFFFFF 0))
        ∧ ∀ op, s.tag t = some op →
          (op.operation ≠ .read → exec (.readData t last bytes) s = .next (stray (some op.segmentId) 0xFFFFFFFF 2))
          ∧ (op.operation = .read →
            let joined := s.verifier.readBuffer ++ bytes
            let overlong := op.overlong || decide (65536 < joined.length)
            (last = false → exec (.readData t last bytes) s = .next (settle { heardStore s with
              tags := s.tags.set t (some { op with overlong })
              verifier := { s.verifier with readBuffer := joined.take 65536 } }))
            ∧ (last = true → exec (.readData t last bytes) s = .next (settle (
                verifyImage op.segmentId (joined.take 65536) overlong { heardStore s with
                  tags := s.tags.set t none, verifier := { s.verifier with readBuffer := [] } })))))

/-- TAG_TIMEOUT at a tag's expiry frees the tag and fails its operation as an ERROR does, with cause TIMEOUT and, for a
deletion, the code of TIMEOUT (R128, R103, R114, R167). Before the expiry, which is reached as TimersExpire states, or on a
FREE tag, nothing expires (log entry 2). The codes are DEDUCED (log entry 9). -/
def Obligations.TagTimeoutFailsOperation : Prop :=
  ∀ (s : State) (t : Fin 8),
    (s.tag t = none → exec (.tagTimeout t) s = .next (settle s))
    ∧ ∀ op, s.tag t = some op →
      (s.reached op.expiry = false → exec (.tagTimeout t) s = .next (settle s))
      ∧ (s.reached op.expiry = true →
        let id := op.segmentId
        let e := s.entry id
        let w := { s with tags := s.tags.set t none }
        let ended := fun x : State => exec (.tagTimeout t) s = .next (settle x)
        (op.operation = .write → e.state = .writing → ∀ (f : Figures) (o : Opening) (i : Fin 32),
          e.figures = some f → e.opening = some o → s.bufferOf id = some i →
          let counted := { e with figures := some { f with writeAttempts := f.writeAttempts + 1 } }
          (f.writeAttempts + 1 < 3 → ended { w.setEntry id counted with writeQueue := s.writeQueue ++ [id] })
          ∧ (3 ≤ f.writeAttempts + 1 → ended (raise .segWriteFailed (some id) e.edition 1 o.key.day
              { w.setEntry id { counted with state := .writeFailed } with
                buffers := s.buffers.set i { s.buffer i with state := .failed } })))
        ∧ (op.operation = .delete → e.state = .deleting → ∀ f, e.figures = some f →
          let counted := { e with figures := some { f with deleteAttempts := f.deleteAttempts + 1 } }
          let failed := { s.sweeper with counts :=
            { s.sweeper.counts with failed := min max32 (s.sweeper.counts.failed + 1) } }
          (f.deleteAttempts + 1 < 3 → ended { w.setEntry id { counted with state := .stored } with sweeper := failed })
          ∧ (3 ≤ f.deleteAttempts + 1 → ended { raise .segDeleteFailed (some id) e.edition 2 f.expiryDay
              (w.setEntry id { counted with state := .deleteFailed }) with sweeper := failed }))
        ∧ (op.operation = .read → e.state = .verifying →
          let v : Verifier := { s.verifier with
            counts := { s.verifier.counts with failed := min max32 (s.verifier.counts.failed + 1) }, readBuffer := [] }
          ended { raise .segDamaged (some id) e.edition 6 1 (w.setEntry id { e with state := .stored }) with
            verifier := if v.phase = .running then
              { v with phase := .resting, restExpiry := some ((s.runTime + s.params.verifyRest) % 4294967296) } else v }))

/-- The other timers at their expiries: a FULL wait re-queues its entry at the tail (R104), a rest ends with the walker
RUNNING, which for a SUSPENDED sweeper is its resume state (R138, R150, R168), and the holdoff timer stops with due set
(R181). Before its expiry a timer has no effect (R178; log entry 2). An expiry set `n` ms ahead is reached exactly when `n`
ms have passed, counted across a wrap of the run time; `n`, and the time past it, are below half the wrap (R178; log entry
2). -/
def Obligations.TimersExpire : Prop :=
  ∀ s : State,
    (∀ id, (∀ w ∈ s.fullWaits, w.segmentId ≠ id) → exec (.fullWaitExpiry id) s = .next (settle s))
    ∧ (∀ earlier w later, s.fullWaits = earlier ++ w :: later → (∀ x ∈ earlier ++ later, x.segmentId ≠ w.segmentId) →
      (s.reached w.expiry = false → exec (.fullWaitExpiry w.segmentId) s = .next (settle s))
      ∧ (s.reached w.expiry = true → exec (.fullWaitExpiry w.segmentId) s
          = .next (settle { s with fullWaits := earlier ++ later, writeQueue := s.writeQueue ++ [w.segmentId] })))
    ∧ (∀ t, s.sweeper.phase = .resting → s.sweeper.restExpiry = some t →
      (s.reached t = true → exec .sweepRestExpiry s
        = .next (settle { s with sweeper := { s.sweeper with phase := .running, restExpiry := none } }))
      ∧ (s.reached t = false → exec .sweepRestExpiry s = .next s))
    ∧ (s.sweeper.phase ≠ .resting ∨ s.sweeper.restExpiry = none → exec .sweepRestExpiry s = .next s)
    ∧ (∀ t, s.verifier.phase = .resting → s.verifier.restExpiry = some t →
      (s.reached t = true → exec .verifyRestExpiry s
        = .next (settle { s with verifier := { s.verifier with phase := .running, restExpiry := none } }))
      ∧ (s.reached t = false → exec .verifyRestExpiry s = .next s))
    ∧ (s.verifier.phase ≠ .resting ∨ s.verifier.restExpiry = none → exec .verifyRestExpiry s = .next s)
    ∧ (∀ t, s.reports.timer = some t →
      (s.reached t = true → exec .holdoffTimerExpiry s
        = .next (flushReports { s with reports := { s.reports with timer := none, due := true } }))
      ∧ (s.reached t = false → exec .holdoffTimerExpiry s = .next s))
    ∧ (s.reports.timer = none → exec .holdoffTimerExpiry s = .next s)
    ∧ ∀ n passed : Nat, n < 2147483648 → passed < n + 2147483648 →
      (({ s with runTime := (s.runTime + passed) % 4294967296 } : State).reached ((s.runTime + n) % 4294967296) = true
        ↔ n ≤ passed)
end

