-- ==== Sys2Proof/Laws/Maps.lean ====
section
/-! SUPPORT. Sparse tables: a read after a write gives the value written, a write leaves every other entry alone, and every
operation keeps the canonical form. -/

namespace Sys2Proof.Machine

variable {α : Type}

/-! ### Keys strictly rising -/

theorem NMap.risingFrom_mono {m : NMap α} {low low' : Nat} (hle : low' ≤ low)
    (h : NMap.risingFrom low m = true) : NMap.risingFrom low' m = true := by
  cases m with
  | nil => rfl
  | cons p rest =>
    simp only [NMap.risingFrom, Bool.and_eq_true, decide_eq_true_eq] at h ⊢
    exact ⟨by omega, h.2⟩

/-- A key below the least key allowed is not listed. -/
theorem NMap.find?_of_risingFrom {m : NMap α} {low k : Nat} (h : NMap.risingFrom low m = true) (hk : k < low) :
    NMap.find? m k = none := by
  cases m with
  | nil => rfl
  | cons p rest =>
    simp only [NMap.risingFrom, Bool.and_eq_true, decide_eq_true_eq] at h
    simp [NMap.find?, show k < p.1 by omega]

/-! ### Reading after an insertion or a removal -/

theorem NMap.find?_insert_self (m : NMap α) (k : Nat) (v : α) : NMap.find? (NMap.insert m k v) k = some v := by
  induction m with
  | nil => simp [NMap.insert, NMap.find?]
  | cons p rest ih =>
    obtain ⟨j, w⟩ := p
    simp only [NMap.insert]
    split
    · simp [NMap.find?]
    · split
      · simp [NMap.find?]
      · simp only [NMap.find?]
        split
        · omega
        · simp_all

theorem NMap.find?_insert_other (m : NMap α) {k n : Nat} (v : α) (hne : n ≠ k) :
    NMap.find? (NMap.insert m k v) n = NMap.find? m n := by
  induction m with
  | nil => simp only [NMap.insert, NMap.find?]; split <;> simp_all
  | cons p rest ih =>
    obtain ⟨j, w⟩ := p
    simp only [NMap.insert]
    split
    · simp only [NMap.find?]
      split
      · rename_i hkj hnk
        simp [show n < j by omega]
      · simp
    · split
      · subst_vars
        simp only [NMap.find?, hne, if_false]
      · simp only [NMap.find?, ih]

theorem NMap.find?_insert (m : NMap α) (k n : Nat) (v : α) :
    NMap.find? (NMap.insert m k v) n = if n = k then some v else NMap.find? m n := by
  split
  · subst_vars; exact NMap.find?_insert_self m _ v
  · exact NMap.find?_insert_other m v ‹_›

theorem NMap.find?_erase {m : NMap α} {low : Nat} (k n : Nat) (h : NMap.risingFrom low m = true) :
    NMap.find? (NMap.erase m k) n = if n = k then none else NMap.find? m n := by
  induction m generalizing low with
  | nil => simp [NMap.erase, NMap.find?]
  | cons p rest ih =>
    obtain ⟨j, w⟩ := p
    simp only [NMap.risingFrom, Bool.and_eq_true, decide_eq_true_eq] at h
    have gone : ∀ i, i ≤ j → NMap.find? rest i = none := fun i hi => NMap.find?_of_risingFrom h.2 (by omega)
    simp only [NMap.erase]
    split
    · simp only [NMap.find?]
      split
      · simp
      · split
        · rw [if_neg (by omega)]
        · split
          · subst_vars
            exact gone _ (by omega)
          · rfl
    · split
      · subst_vars
        split
        · subst_vars; exact gone _ (le_refl _)
        · rename_i hn
          simp only [NMap.find?, hn, if_false]
          split
          · exact gone _ (by omega)
          · rfl
      · simp only [NMap.find?, ih h.2]
        split
        · split
          · omega
          · rfl
        · split
          · rw [if_neg (by omega)]
          · rfl

/-! ### The canonical form is kept -/

theorem NMap.risingFrom_insert {m : NMap α} {low k : Nat} (v : α) (hk : low ≤ k)
    (h : NMap.risingFrom low m = true) : NMap.risingFrom low (NMap.insert m k v) = true := by
  induction m generalizing low with
  | nil => simp [NMap.insert, NMap.risingFrom, hk]
  | cons p rest ih =>
    obtain ⟨j, w⟩ := p
    simp only [NMap.risingFrom, Bool.and_eq_true, decide_eq_true_eq] at h
    simp only [NMap.insert]
    split
    · simp only [NMap.risingFrom, Bool.and_eq_true, decide_eq_true_eq]
      exact ⟨hk, by omega, h.2⟩
    · split
      · subst_vars
        simpa [NMap.risingFrom] using h
      · simp only [NMap.risingFrom, Bool.and_eq_true, decide_eq_true_eq]
        exact ⟨h.1, ih (by omega) h.2⟩

theorem NMap.risingFrom_erase {m : NMap α} {low : Nat} (k : Nat) (h : NMap.risingFrom low m = true) :
    NMap.risingFrom low (NMap.erase m k) = true := by
  induction m generalizing low with
  | nil => rfl
  | cons p rest ih =>
    obtain ⟨j, w⟩ := p
    have h' := h
    simp only [NMap.risingFrom, Bool.and_eq_true, decide_eq_true_eq] at h
    simp only [NMap.erase]
    split
    · exact h'
    · split
      · exact NMap.risingFrom_mono (by omega) h.2
      · simp only [NMap.risingFrom, Bool.and_eq_true, decide_eq_true_eq]
        exact ⟨h.1, ih h.2⟩

theorem NMap.mem_insert {m : NMap α} {k : Nat} {v : α} {p : Nat × α} (h : p ∈ NMap.insert m k v) :
    p = (k, v) ∨ p ∈ m := by
  induction m with
  | nil => simpa [NMap.insert] using h
  | cons q rest ih =>
    obtain ⟨j, w⟩ := q
    simp only [NMap.insert] at h
    split at h
    · simpa using h
    · split at h
      · rcases List.mem_cons.1 h with h | h
        · exact .inl h
        · exact .inr (List.mem_cons_of_mem _ h)
      · rcases List.mem_cons.1 h with h | h
        · exact .inr (by simp [h])
        · rcases ih h with h | h
          · exact .inl h
          · exact .inr (List.mem_cons_of_mem _ h)

theorem NMap.mem_erase {m : NMap α} {k : Nat} {p : Nat × α} (h : p ∈ NMap.erase m k) : p ∈ m := by
  induction m with
  | nil => simp [NMap.erase] at h
  | cons q rest ih =>
    obtain ⟨j, w⟩ := q
    simp only [NMap.erase] at h
    split at h
    · exact h
    · split at h
      · exact List.mem_cons_of_mem _ h
      · rcases List.mem_cons.1 h with h | h
        · simp [h]
        · exact List.mem_cons_of_mem _ (ih h)

/-- Every write keeps the canonical form. -/
theorem NMap.canonical_write [DecidableEq α] (d : α) (m : NMap α) (k : Nat) (v : α)
    (h : NMap.canonical d m = true) : NMap.canonical d (NMap.write d m k v) = true := by
  simp only [NMap.canonical, Bool.and_eq_true, List.all_eq_true, Bool.not_eq_true', decide_eq_false_iff_not] at h ⊢
  simp only [NMap.write]
  split
  · exact ⟨NMap.risingFrom_erase k h.1, fun p hp => h.2 p (NMap.mem_erase hp)⟩
  · refine ⟨NMap.risingFrom_insert v (Nat.zero_le k) h.1, fun p hp => ?_⟩
    rcases NMap.mem_insert hp with hp | hp
    · subst hp; assumption
    · exact h.2 p hp

/-- A write at a key below `n` keeps every key below `n`. -/
theorem NMap.keysBelow_write [DecidableEq α] (d : α) {n : Nat} (m : NMap α) {k : Nat} (v : α) (hk : k < n)
    (h : NMap.keysBelow n m = true) : NMap.keysBelow n (NMap.write d m k v) = true := by
  simp only [NMap.keysBelow, List.all_eq_true, decide_eq_true_eq] at h ⊢
  intro p hp
  simp only [NMap.write] at hp
  split at hp
  · exact h p (NMap.mem_erase hp)
  · rcases NMap.mem_insert hp with hp | hp
    · subst hp; exact hk
    · exact h p hp

/-- A read after a write gives the value written, and a write leaves every other entry alone. -/
theorem NMap.read_write [DecidableEq α] (d : α) {m : NMap α} (k n : Nat) (v : α) (h : NMap.rising m = true) :
    NMap.read d (NMap.write d m k v) n = if n = k then v else NMap.read d m n := by
  simp only [NMap.read, NMap.write]
  split
  · rw [NMap.find?_erase k n h]
    split <;> simp_all
  · rw [NMap.find?_insert]
    split <;> simp_all

/-- A listed entry of a canonical table reads as it is listed. -/
theorem NMap.find?_of_mem {m : NMap α} {low : Nat} {p : Nat × α} (h : NMap.risingFrom low m = true) (hp : p ∈ m) :
    NMap.find? m p.1 = some p.2 := by
  induction m generalizing low with
  | nil => simp at hp
  | cons q rest ih =>
    obtain ⟨j, w⟩ := q
    simp only [NMap.risingFrom, Bool.and_eq_true, decide_eq_true_eq] at h
    rcases List.mem_cons.1 hp with hp | hp
    · subst hp; simp [NMap.find?]
    · have hlt : j < p.1 := by
        by_contra hle
        have := ih h.2 hp
        rw [NMap.find?_of_risingFrom h.2 (by omega)] at this
        simp at this
      simp only [NMap.find?]
      rw [if_neg (by omega), if_neg (by omega)]
      exact ih h.2 hp

/-- What a find answers is listed. -/
theorem NMap.mem_of_find? {m : NMap α} {k : Nat} {v : α} (h : NMap.find? m k = some v) : (k, v) ∈ m := by
  induction m with
  | nil => simp [NMap.find?] at h
  | cons q rest ih =>
    obtain ⟨j, w⟩ := q
    simp only [NMap.find?] at h
    split at h
    · simp at h
    · split at h
      · simp_all
      · exact List.mem_cons_of_mem _ (ih h)

end Sys2Proof.Machine
end

