-- ==== Sys2Proof/Laws/State.lean ====
section
/-! SUPPORT. The small lemmas of the state's updates: one lemma for each field that an update leaves as it was, true by rfl,
and what is read back after each update. -/

namespace Sys2Proof.Machine

variable (s : State)

/-! ### Fields that an update leaves -/

@[simp] theorem State.setLane_pending (l : Fin 16) (x : Lane) : (s.setLane l x).pending = s.pending := rfl
@[simp] theorem State.setLane_feedTx (l : Fin 16) (x : Lane) : (s.setLane l x).feedTx = s.feedTx := rfl
@[simp] theorem State.setLane_storeTx (l : Fin 16) (x : Lane) : (s.setLane l x).storeTx = s.storeTx := rfl
@[simp] theorem State.setLane_device (l : Fin 16) (x : Lane) : (s.setLane l x).device = s.device := rfl
@[simp] theorem State.setLane_runTime (l : Fin 16) (x : Lane) : (s.setLane l x).runTime = s.runTime := rfl
@[simp] theorem State.setLane_params (l : Fin 16) (x : Lane) : (s.setLane l x).params = s.params := rfl
@[simp] theorem State.setLane_control (l : Fin 16) (x : Lane) : (s.setLane l x).control = s.control := rfl
@[simp] theorem State.setLane_reports (l : Fin 16) (x : Lane) : (s.setLane l x).reports = s.reports := rfl
@[simp] theorem State.setLane_feed (l : Fin 16) (x : Lane) : (s.setLane l x).feed = s.feed := rfl
@[simp] theorem State.setLane_store (l : Fin 16) (x : Lane) : (s.setLane l x).store = s.store := rfl
@[simp] theorem State.setLane_clock (l : Fin 16) (x : Lane) : (s.setLane l x).clock = s.clock := rfl
@[simp] theorem State.setLane_recent (l : Fin 16) (x : Lane) : (s.setLane l x).recent = s.recent := rfl
@[simp] theorem State.setLane_parser (l : Fin 16) (x : Lane) : (s.setLane l x).parser = s.parser := rfl
@[simp] theorem State.setLane_banks (l : Fin 16) (x : Lane) : (s.setLane l x).banks = s.banks := rfl
@[simp] theorem State.setLane_selection (l : Fin 16) (x : Lane) : (s.setLane l x).selection = s.selection := rfl
@[simp] theorem State.setLane_loadCounter (l : Fin 16) (x : Lane) : (s.setLane l x).loadCounter = s.loadCounter := rfl
@[simp] theorem State.setLane_filter (l : Fin 16) (x : Lane) : (s.setLane l x).filter = s.filter := rfl
@[simp] theorem State.setLane_openSegments (l : Fin 16) (x : Lane) : (s.setLane l x).openSegments = s.openSegments := rfl
@[simp] theorem State.setLane_buffers (l : Fin 16) (x : Lane) : (s.setLane l x).buffers = s.buffers := rfl
@[simp] theorem State.setLane_stall (l : Fin 16) (x : Lane) : (s.setLane l x).stall = s.stall := rfl
@[simp] theorem State.setLane_catalogFull (l : Fin 16) (x : Lane) : (s.setLane l x).catalogFull = s.catalogFull := rfl
@[simp] theorem State.setLane_storeFull (l : Fin 16) (x : Lane) : (s.setLane l x).storeFull = s.storeFull := rfl
@[simp] theorem State.setLane_writeQueue (l : Fin 16) (x : Lane) : (s.setLane l x).writeQueue = s.writeQueue := rfl
@[simp] theorem State.setLane_fullWaits (l : Fin 16) (x : Lane) : (s.setLane l x).fullWaits = s.fullWaits := rfl
@[simp] theorem State.setLane_catalog (l : Fin 16) (x : Lane) : (s.setLane l x).catalog = s.catalog := rfl
@[simp] theorem State.setLane_stateCounts (l : Fin 16) (x : Lane) : (s.setLane l x).stateCounts = s.stateCounts := rfl
@[simp] theorem State.setLane_freeIds (l : Fin 16) (x : Lane) : (s.setLane l x).freeIds = s.freeIds := rfl
@[simp] theorem State.setLane_tags (l : Fin 16) (x : Lane) : (s.setLane l x).tags = s.tags := rfl
@[simp] theorem State.setLane_lastTag (l : Fin 16) (x : Lane) : (s.setLane l x).lastTag = s.lastTag := rfl
@[simp] theorem State.setLane_turn (l : Fin 16) (x : Lane) : (s.setLane l x).turn = s.turn := rfl
@[simp] theorem State.setLane_strayFrames (l : Fin 16) (x : Lane) : (s.setLane l x).strayFrames = s.strayFrames := rfl
@[simp] theorem State.setLane_holds (l : Fin 16) (x : Lane) : (s.setLane l x).holds = s.holds := rfl
@[simp] theorem State.setLane_pendingHolds (l : Fin 16) (x : Lane) : (s.setLane l x).pendingHolds = s.pendingHolds := rfl
@[simp] theorem State.setLane_sweeper (l : Fin 16) (x : Lane) : (s.setLane l x).sweeper = s.sweeper := rfl
@[simp] theorem State.setLane_verifier (l : Fin 16) (x : Lane) : (s.setLane l x).verifier = s.verifier := rfl
@[simp] theorem State.setLane_days (l : Fin 16) (x : Lane) : (s.setLane l x).days = s.days := rfl
@[simp] theorem State.setLane_unplaced (l : Fin 16) (x : Lane) : (s.setLane l x).unplaced = s.unplaced := rfl

@[simp] theorem State.setBank_pending (b : Fin 4) (x : Bank) : (s.setBank b x).pending = s.pending := rfl
@[simp] theorem State.setBank_feedTx (b : Fin 4) (x : Bank) : (s.setBank b x).feedTx = s.feedTx := rfl
@[simp] theorem State.setBank_storeTx (b : Fin 4) (x : Bank) : (s.setBank b x).storeTx = s.storeTx := rfl
@[simp] theorem State.setBank_device (b : Fin 4) (x : Bank) : (s.setBank b x).device = s.device := rfl
@[simp] theorem State.setBank_runTime (b : Fin 4) (x : Bank) : (s.setBank b x).runTime = s.runTime := rfl
@[simp] theorem State.setBank_params (b : Fin 4) (x : Bank) : (s.setBank b x).params = s.params := rfl
@[simp] theorem State.setBank_control (b : Fin 4) (x : Bank) : (s.setBank b x).control = s.control := rfl
@[simp] theorem State.setBank_reports (b : Fin 4) (x : Bank) : (s.setBank b x).reports = s.reports := rfl
@[simp] theorem State.setBank_feed (b : Fin 4) (x : Bank) : (s.setBank b x).feed = s.feed := rfl
@[simp] theorem State.setBank_store (b : Fin 4) (x : Bank) : (s.setBank b x).store = s.store := rfl
@[simp] theorem State.setBank_clock (b : Fin 4) (x : Bank) : (s.setBank b x).clock = s.clock := rfl
@[simp] theorem State.setBank_lanes (b : Fin 4) (x : Bank) : (s.setBank b x).lanes = s.lanes := rfl
@[simp] theorem State.setBank_recent (b : Fin 4) (x : Bank) : (s.setBank b x).recent = s.recent := rfl
@[simp] theorem State.setBank_parser (b : Fin 4) (x : Bank) : (s.setBank b x).parser = s.parser := rfl
@[simp] theorem State.setBank_selection (b : Fin 4) (x : Bank) : (s.setBank b x).selection = s.selection := rfl
@[simp] theorem State.setBank_loadCounter (b : Fin 4) (x : Bank) : (s.setBank b x).loadCounter = s.loadCounter := rfl
@[simp] theorem State.setBank_filter (b : Fin 4) (x : Bank) : (s.setBank b x).filter = s.filter := rfl
@[simp] theorem State.setBank_openSegments (b : Fin 4) (x : Bank) : (s.setBank b x).openSegments = s.openSegments := rfl
@[simp] theorem State.setBank_buffers (b : Fin 4) (x : Bank) : (s.setBank b x).buffers = s.buffers := rfl
@[simp] theorem State.setBank_stall (b : Fin 4) (x : Bank) : (s.setBank b x).stall = s.stall := rfl
@[simp] theorem State.setBank_catalogFull (b : Fin 4) (x : Bank) : (s.setBank b x).catalogFull = s.catalogFull := rfl
@[simp] theorem State.setBank_storeFull (b : Fin 4) (x : Bank) : (s.setBank b x).storeFull = s.storeFull := rfl
@[simp] theorem State.setBank_writeQueue (b : Fin 4) (x : Bank) : (s.setBank b x).writeQueue = s.writeQueue := rfl
@[simp] theorem State.setBank_fullWaits (b : Fin 4) (x : Bank) : (s.setBank b x).fullWaits = s.fullWaits := rfl
@[simp] theorem State.setBank_catalog (b : Fin 4) (x : Bank) : (s.setBank b x).catalog = s.catalog := rfl
@[simp] theorem State.setBank_stateCounts (b : Fin 4) (x : Bank) : (s.setBank b x).stateCounts = s.stateCounts := rfl
@[simp] theorem State.setBank_freeIds (b : Fin 4) (x : Bank) : (s.setBank b x).freeIds = s.freeIds := rfl
@[simp] theorem State.setBank_tags (b : Fin 4) (x : Bank) : (s.setBank b x).tags = s.tags := rfl
@[simp] theorem State.setBank_lastTag (b : Fin 4) (x : Bank) : (s.setBank b x).lastTag = s.lastTag := rfl
@[simp] theorem State.setBank_turn (b : Fin 4) (x : Bank) : (s.setBank b x).turn = s.turn := rfl
@[simp] theorem State.setBank_strayFrames (b : Fin 4) (x : Bank) : (s.setBank b x).strayFrames = s.strayFrames := rfl
@[simp] theorem State.setBank_holds (b : Fin 4) (x : Bank) : (s.setBank b x).holds = s.holds := rfl
@[simp] theorem State.setBank_pendingHolds (b : Fin 4) (x : Bank) : (s.setBank b x).pendingHolds = s.pendingHolds := rfl
@[simp] theorem State.setBank_sweeper (b : Fin 4) (x : Bank) : (s.setBank b x).sweeper = s.sweeper := rfl
@[simp] theorem State.setBank_verifier (b : Fin 4) (x : Bank) : (s.setBank b x).verifier = s.verifier := rfl
@[simp] theorem State.setBank_days (b : Fin 4) (x : Bank) : (s.setBank b x).days = s.days := rfl
@[simp] theorem State.setBank_unplaced (b : Fin 4) (x : Bank) : (s.setBank b x).unplaced = s.unplaced := rfl

@[simp] theorem State.setBuffer_pending (i : Fin 32) (x : SegmentBuffer) : (s.setBuffer i x).pending = s.pending := rfl
@[simp] theorem State.setBuffer_feedTx (i : Fin 32) (x : SegmentBuffer) : (s.setBuffer i x).feedTx = s.feedTx := rfl
@[simp] theorem State.setBuffer_storeTx (i : Fin 32) (x : SegmentBuffer) : (s.setBuffer i x).storeTx = s.storeTx := rfl
@[simp] theorem State.setBuffer_device (i : Fin 32) (x : SegmentBuffer) : (s.setBuffer i x).device = s.device := rfl
@[simp] theorem State.setBuffer_runTime (i : Fin 32) (x : SegmentBuffer) : (s.setBuffer i x).runTime = s.runTime := rfl
@[simp] theorem State.setBuffer_params (i : Fin 32) (x : SegmentBuffer) : (s.setBuffer i x).params = s.params := rfl
@[simp] theorem State.setBuffer_control (i : Fin 32) (x : SegmentBuffer) : (s.setBuffer i x).control = s.control := rfl
@[simp] theorem State.setBuffer_reports (i : Fin 32) (x : SegmentBuffer) : (s.setBuffer i x).reports = s.reports := rfl
@[simp] theorem State.setBuffer_feed (i : Fin 32) (x : SegmentBuffer) : (s.setBuffer i x).feed = s.feed := rfl
@[simp] theorem State.setBuffer_store (i : Fin 32) (x : SegmentBuffer) : (s.setBuffer i x).store = s.store := rfl
@[simp] theorem State.setBuffer_clock (i : Fin 32) (x : SegmentBuffer) : (s.setBuffer i x).clock = s.clock := rfl
@[simp] theorem State.setBuffer_lanes (i : Fin 32) (x : SegmentBuffer) : (s.setBuffer i x).lanes = s.lanes := rfl
@[simp] theorem State.setBuffer_recent (i : Fin 32) (x : SegmentBuffer) : (s.setBuffer i x).recent = s.recent := rfl
@[simp] theorem State.setBuffer_parser (i : Fin 32) (x : SegmentBuffer) : (s.setBuffer i x).parser = s.parser := rfl
@[simp] theorem State.setBuffer_banks (i : Fin 32) (x : SegmentBuffer) : (s.setBuffer i x).banks = s.banks := rfl
@[simp] theorem State.setBuffer_selection (i : Fin 32) (x : SegmentBuffer) : (s.setBuffer i x).selection = s.selection := rfl
@[simp] theorem State.setBuffer_loadCounter (i : Fin 32) (x : SegmentBuffer) : (s.setBuffer i x).loadCounter = s.loadCounter := rfl
@[simp] theorem State.setBuffer_filter (i : Fin 32) (x : SegmentBuffer) : (s.setBuffer i x).filter = s.filter := rfl
@[simp] theorem State.setBuffer_openSegments (i : Fin 32) (x : SegmentBuffer) : (s.setBuffer i x).openSegments = s.openSegments := rfl
@[simp] theorem State.setBuffer_stall (i : Fin 32) (x : SegmentBuffer) : (s.setBuffer i x).stall = s.stall := rfl
@[simp] theorem State.setBuffer_catalogFull (i : Fin 32) (x : SegmentBuffer) : (s.setBuffer i x).catalogFull = s.catalogFull := rfl
@[simp] theorem State.setBuffer_storeFull (i : Fin 32) (x : SegmentBuffer) : (s.setBuffer i x).storeFull = s.storeFull := rfl
@[simp] theorem State.setBuffer_writeQueue (i : Fin 32) (x : SegmentBuffer) : (s.setBuffer i x).writeQueue = s.writeQueue := rfl
@[simp] theorem State.setBuffer_fullWaits (i : Fin 32) (x : SegmentBuffer) : (s.setBuffer i x).fullWaits = s.fullWaits := rfl
@[simp] theorem State.setBuffer_catalog (i : Fin 32) (x : SegmentBuffer) : (s.setBuffer i x).catalog = s.catalog := rfl
@[simp] theorem State.setBuffer_stateCounts (i : Fin 32) (x : SegmentBuffer) : (s.setBuffer i x).stateCounts = s.stateCounts := rfl
@[simp] theorem State.setBuffer_freeIds (i : Fin 32) (x : SegmentBuffer) : (s.setBuffer i x).freeIds = s.freeIds := rfl
@[simp] theorem State.setBuffer_tags (i : Fin 32) (x : SegmentBuffer) : (s.setBuffer i x).tags = s.tags := rfl
@[simp] theorem State.setBuffer_lastTag (i : Fin 32) (x : SegmentBuffer) : (s.setBuffer i x).lastTag = s.lastTag := rfl
@[simp] theorem State.setBuffer_turn (i : Fin 32) (x : SegmentBuffer) : (s.setBuffer i x).turn = s.turn := rfl
@[simp] theorem State.setBuffer_strayFrames (i : Fin 32) (x : SegmentBuffer) : (s.setBuffer i x).strayFrames = s.strayFrames := rfl
@[simp] theorem State.setBuffer_holds (i : Fin 32) (x : SegmentBuffer) : (s.setBuffer i x).holds = s.holds := rfl
@[simp] theorem State.setBuffer_pendingHolds (i : Fin 32) (x : SegmentBuffer) : (s.setBuffer i x).pendingHolds = s.pendingHolds := rfl
@[simp] theorem State.setBuffer_sweeper (i : Fin 32) (x : SegmentBuffer) : (s.setBuffer i x).sweeper = s.sweeper := rfl
@[simp] theorem State.setBuffer_verifier (i : Fin 32) (x : SegmentBuffer) : (s.setBuffer i x).verifier = s.verifier := rfl
@[simp] theorem State.setBuffer_days (i : Fin 32) (x : SegmentBuffer) : (s.setBuffer i x).days = s.days := rfl
@[simp] theorem State.setBuffer_unplaced (i : Fin 32) (x : SegmentBuffer) : (s.setBuffer i x).unplaced = s.unplaced := rfl

@[simp] theorem State.setTag_pending (t : Fin 8) (x : Option Outstanding) : (s.setTag t x).pending = s.pending := rfl
@[simp] theorem State.setTag_feedTx (t : Fin 8) (x : Option Outstanding) : (s.setTag t x).feedTx = s.feedTx := rfl
@[simp] theorem State.setTag_storeTx (t : Fin 8) (x : Option Outstanding) : (s.setTag t x).storeTx = s.storeTx := rfl
@[simp] theorem State.setTag_device (t : Fin 8) (x : Option Outstanding) : (s.setTag t x).device = s.device := rfl
@[simp] theorem State.setTag_runTime (t : Fin 8) (x : Option Outstanding) : (s.setTag t x).runTime = s.runTime := rfl
@[simp] theorem State.setTag_params (t : Fin 8) (x : Option Outstanding) : (s.setTag t x).params = s.params := rfl
@[simp] theorem State.setTag_control (t : Fin 8) (x : Option Outstanding) : (s.setTag t x).control = s.control := rfl
@[simp] theorem State.setTag_reports (t : Fin 8) (x : Option Outstanding) : (s.setTag t x).reports = s.reports := rfl
@[simp] theorem State.setTag_feed (t : Fin 8) (x : Option Outstanding) : (s.setTag t x).feed = s.feed := rfl
@[simp] theorem State.setTag_store (t : Fin 8) (x : Option Outstanding) : (s.setTag t x).store = s.store := rfl
@[simp] theorem State.setTag_clock (t : Fin 8) (x : Option Outstanding) : (s.setTag t x).clock = s.clock := rfl
@[simp] theorem State.setTag_lanes (t : Fin 8) (x : Option Outstanding) : (s.setTag t x).lanes = s.lanes := rfl
@[simp] theorem State.setTag_recent (t : Fin 8) (x : Option Outstanding) : (s.setTag t x).recent = s.recent := rfl
@[simp] theorem State.setTag_parser (t : Fin 8) (x : Option Outstanding) : (s.setTag t x).parser = s.parser := rfl
@[simp] theorem State.setTag_banks (t : Fin 8) (x : Option Outstanding) : (s.setTag t x).banks = s.banks := rfl
@[simp] theorem State.setTag_selection (t : Fin 8) (x : Option Outstanding) : (s.setTag t x).selection = s.selection := rfl
@[simp] theorem State.setTag_loadCounter (t : Fin 8) (x : Option Outstanding) : (s.setTag t x).loadCounter = s.loadCounter := rfl
@[simp] theorem State.setTag_filter (t : Fin 8) (x : Option Outstanding) : (s.setTag t x).filter = s.filter := rfl
@[simp] theorem State.setTag_openSegments (t : Fin 8) (x : Option Outstanding) : (s.setTag t x).openSegments = s.openSegments := rfl
@[simp] theorem State.setTag_buffers (t : Fin 8) (x : Option Outstanding) : (s.setTag t x).buffers = s.buffers := rfl
@[simp] theorem State.setTag_stall (t : Fin 8) (x : Option Outstanding) : (s.setTag t x).stall = s.stall := rfl
@[simp] theorem State.setTag_catalogFull (t : Fin 8) (x : Option Outstanding) : (s.setTag t x).catalogFull = s.catalogFull := rfl
@[simp] theorem State.setTag_storeFull (t : Fin 8) (x : Option Outstanding) : (s.setTag t x).storeFull = s.storeFull := rfl
@[simp] theorem State.setTag_writeQueue (t : Fin 8) (x : Option Outstanding) : (s.setTag t x).writeQueue = s.writeQueue := rfl
@[simp] theorem State.setTag_fullWaits (t : Fin 8) (x : Option Outstanding) : (s.setTag t x).fullWaits = s.fullWaits := rfl
@[simp] theorem State.setTag_catalog (t : Fin 8) (x : Option Outstanding) : (s.setTag t x).catalog = s.catalog := rfl
@[simp] theorem State.setTag_stateCounts (t : Fin 8) (x : Option Outstanding) : (s.setTag t x).stateCounts = s.stateCounts := rfl
@[simp] theorem State.setTag_freeIds (t : Fin 8) (x : Option Outstanding) : (s.setTag t x).freeIds = s.freeIds := rfl
@[simp] theorem State.setTag_lastTag (t : Fin 8) (x : Option Outstanding) : (s.setTag t x).lastTag = s.lastTag := rfl
@[simp] theorem State.setTag_turn (t : Fin 8) (x : Option Outstanding) : (s.setTag t x).turn = s.turn := rfl
@[simp] theorem State.setTag_strayFrames (t : Fin 8) (x : Option Outstanding) : (s.setTag t x).strayFrames = s.strayFrames := rfl
@[simp] theorem State.setTag_holds (t : Fin 8) (x : Option Outstanding) : (s.setTag t x).holds = s.holds := rfl
@[simp] theorem State.setTag_pendingHolds (t : Fin 8) (x : Option Outstanding) : (s.setTag t x).pendingHolds = s.pendingHolds := rfl
@[simp] theorem State.setTag_sweeper (t : Fin 8) (x : Option Outstanding) : (s.setTag t x).sweeper = s.sweeper := rfl
@[simp] theorem State.setTag_verifier (t : Fin 8) (x : Option Outstanding) : (s.setTag t x).verifier = s.verifier := rfl
@[simp] theorem State.setTag_days (t : Fin 8) (x : Option Outstanding) : (s.setTag t x).days = s.days := rfl
@[simp] theorem State.setTag_unplaced (t : Fin 8) (x : Option Outstanding) : (s.setTag t x).unplaced = s.unplaced := rfl

@[simp] theorem State.setHold_pending (h : Fin 64) (x : Option Hold) : (s.setHold h x).pending = s.pending := rfl
@[simp] theorem State.setHold_feedTx (h : Fin 64) (x : Option Hold) : (s.setHold h x).feedTx = s.feedTx := rfl
@[simp] theorem State.setHold_storeTx (h : Fin 64) (x : Option Hold) : (s.setHold h x).storeTx = s.storeTx := rfl
@[simp] theorem State.setHold_device (h : Fin 64) (x : Option Hold) : (s.setHold h x).device = s.device := rfl
@[simp] theorem State.setHold_runTime (h : Fin 64) (x : Option Hold) : (s.setHold h x).runTime = s.runTime := rfl
@[simp] theorem State.setHold_params (h : Fin 64) (x : Option Hold) : (s.setHold h x).params = s.params := rfl
@[simp] theorem State.setHold_control (h : Fin 64) (x : Option Hold) : (s.setHold h x).control = s.control := rfl
@[simp] theorem State.setHold_reports (h : Fin 64) (x : Option Hold) : (s.setHold h x).reports = s.reports := rfl
@[simp] theorem State.setHold_feed (h : Fin 64) (x : Option Hold) : (s.setHold h x).feed = s.feed := rfl
@[simp] theorem State.setHold_store (h : Fin 64) (x : Option Hold) : (s.setHold h x).store = s.store := rfl
@[simp] theorem State.setHold_clock (h : Fin 64) (x : Option Hold) : (s.setHold h x).clock = s.clock := rfl
@[simp] theorem State.setHold_lanes (h : Fin 64) (x : Option Hold) : (s.setHold h x).lanes = s.lanes := rfl
@[simp] theorem State.setHold_recent (h : Fin 64) (x : Option Hold) : (s.setHold h x).recent = s.recent := rfl
@[simp] theorem State.setHold_parser (h : Fin 64) (x : Option Hold) : (s.setHold h x).parser = s.parser := rfl
@[simp] theorem State.setHold_banks (h : Fin 64) (x : Option Hold) : (s.setHold h x).banks = s.banks := rfl
@[simp] theorem State.setHold_selection (h : Fin 64) (x : Option Hold) : (s.setHold h x).selection = s.selection := rfl
@[simp] theorem State.setHold_loadCounter (h : Fin 64) (x : Option Hold) : (s.setHold h x).loadCounter = s.loadCounter := rfl
@[simp] theorem State.setHold_filter (h : Fin 64) (x : Option Hold) : (s.setHold h x).filter = s.filter := rfl
@[simp] theorem State.setHold_openSegments (h : Fin 64) (x : Option Hold) : (s.setHold h x).openSegments = s.openSegments := rfl
@[simp] theorem State.setHold_buffers (h : Fin 64) (x : Option Hold) : (s.setHold h x).buffers = s.buffers := rfl
@[simp] theorem State.setHold_stall (h : Fin 64) (x : Option Hold) : (s.setHold h x).stall = s.stall := rfl
@[simp] theorem State.setHold_catalogFull (h : Fin 64) (x : Option Hold) : (s.setHold h x).catalogFull = s.catalogFull := rfl
@[simp] theorem State.setHold_storeFull (h : Fin 64) (x : Option Hold) : (s.setHold h x).storeFull = s.storeFull := rfl
@[simp] theorem State.setHold_writeQueue (h : Fin 64) (x : Option Hold) : (s.setHold h x).writeQueue = s.writeQueue := rfl
@[simp] theorem State.setHold_fullWaits (h : Fin 64) (x : Option Hold) : (s.setHold h x).fullWaits = s.fullWaits := rfl
@[simp] theorem State.setHold_catalog (h : Fin 64) (x : Option Hold) : (s.setHold h x).catalog = s.catalog := rfl
@[simp] theorem State.setHold_stateCounts (h : Fin 64) (x : Option Hold) : (s.setHold h x).stateCounts = s.stateCounts := rfl
@[simp] theorem State.setHold_freeIds (h : Fin 64) (x : Option Hold) : (s.setHold h x).freeIds = s.freeIds := rfl
@[simp] theorem State.setHold_tags (h : Fin 64) (x : Option Hold) : (s.setHold h x).tags = s.tags := rfl
@[simp] theorem State.setHold_lastTag (h : Fin 64) (x : Option Hold) : (s.setHold h x).lastTag = s.lastTag := rfl
@[simp] theorem State.setHold_turn (h : Fin 64) (x : Option Hold) : (s.setHold h x).turn = s.turn := rfl
@[simp] theorem State.setHold_strayFrames (h : Fin 64) (x : Option Hold) : (s.setHold h x).strayFrames = s.strayFrames := rfl
@[simp] theorem State.setHold_pendingHolds (h : Fin 64) (x : Option Hold) : (s.setHold h x).pendingHolds = s.pendingHolds := rfl
@[simp] theorem State.setHold_sweeper (h : Fin 64) (x : Option Hold) : (s.setHold h x).sweeper = s.sweeper := rfl
@[simp] theorem State.setHold_verifier (h : Fin 64) (x : Option Hold) : (s.setHold h x).verifier = s.verifier := rfl
@[simp] theorem State.setHold_days (h : Fin 64) (x : Option Hold) : (s.setHold h x).days = s.days := rfl
@[simp] theorem State.setHold_unplaced (h : Fin 64) (x : Option Hold) : (s.setHold h x).unplaced = s.unplaced := rfl

@[simp] theorem State.setEntry_pending (id : Nat) (e : CatalogEntry) : (s.setEntry id e).pending = s.pending := rfl
@[simp] theorem State.setEntry_feedTx (id : Nat) (e : CatalogEntry) : (s.setEntry id e).feedTx = s.feedTx := rfl
@[simp] theorem State.setEntry_storeTx (id : Nat) (e : CatalogEntry) : (s.setEntry id e).storeTx = s.storeTx := rfl
@[simp] theorem State.setEntry_device (id : Nat) (e : CatalogEntry) : (s.setEntry id e).device = s.device := rfl
@[simp] theorem State.setEntry_runTime (id : Nat) (e : CatalogEntry) : (s.setEntry id e).runTime = s.runTime := rfl
@[simp] theorem State.setEntry_params (id : Nat) (e : CatalogEntry) : (s.setEntry id e).params = s.params := rfl
@[simp] theorem State.setEntry_control (id : Nat) (e : CatalogEntry) : (s.setEntry id e).control = s.control := rfl
@[simp] theorem State.setEntry_reports (id : Nat) (e : CatalogEntry) : (s.setEntry id e).reports = s.reports := rfl
@[simp] theorem State.setEntry_feed (id : Nat) (e : CatalogEntry) : (s.setEntry id e).feed = s.feed := rfl
@[simp] theorem State.setEntry_store (id : Nat) (e : CatalogEntry) : (s.setEntry id e).store = s.store := rfl
@[simp] theorem State.setEntry_clock (id : Nat) (e : CatalogEntry) : (s.setEntry id e).clock = s.clock := rfl
@[simp] theorem State.setEntry_lanes (id : Nat) (e : CatalogEntry) : (s.setEntry id e).lanes = s.lanes := rfl
@[simp] theorem State.setEntry_recent (id : Nat) (e : CatalogEntry) : (s.setEntry id e).recent = s.recent := rfl
@[simp] theorem State.setEntry_parser (id : Nat) (e : CatalogEntry) : (s.setEntry id e).parser = s.parser := rfl
@[simp] theorem State.setEntry_banks (id : Nat) (e : CatalogEntry) : (s.setEntry id e).banks = s.banks := rfl
@[simp] theorem State.setEntry_selection (id : Nat) (e : CatalogEntry) : (s.setEntry id e).selection = s.selection := rfl
@[simp] theorem State.setEntry_loadCounter (id : Nat) (e : CatalogEntry) : (s.setEntry id e).loadCounter = s.loadCounter := rfl
@[simp] theorem State.setEntry_filter (id : Nat) (e : CatalogEntry) : (s.setEntry id e).filter = s.filter := rfl
@[simp] theorem State.setEntry_openSegments (id : Nat) (e : CatalogEntry) : (s.setEntry id e).openSegments = s.openSegments := rfl
@[simp] theorem State.setEntry_buffers (id : Nat) (e : CatalogEntry) : (s.setEntry id e).buffers = s.buffers := rfl
@[simp] theorem State.setEntry_stall (id : Nat) (e : CatalogEntry) : (s.setEntry id e).stall = s.stall := rfl
@[simp] theorem State.setEntry_catalogFull (id : Nat) (e : CatalogEntry) : (s.setEntry id e).catalogFull = s.catalogFull := rfl
@[simp] theorem State.setEntry_storeFull (id : Nat) (e : CatalogEntry) : (s.setEntry id e).storeFull = s.storeFull := rfl
@[simp] theorem State.setEntry_writeQueue (id : Nat) (e : CatalogEntry) : (s.setEntry id e).writeQueue = s.writeQueue := rfl
@[simp] theorem State.setEntry_fullWaits (id : Nat) (e : CatalogEntry) : (s.setEntry id e).fullWaits = s.fullWaits := rfl
@[simp] theorem State.setEntry_freeIds (id : Nat) (e : CatalogEntry) : (s.setEntry id e).freeIds = s.freeIds := rfl
@[simp] theorem State.setEntry_tags (id : Nat) (e : CatalogEntry) : (s.setEntry id e).tags = s.tags := rfl
@[simp] theorem State.setEntry_lastTag (id : Nat) (e : CatalogEntry) : (s.setEntry id e).lastTag = s.lastTag := rfl
@[simp] theorem State.setEntry_turn (id : Nat) (e : CatalogEntry) : (s.setEntry id e).turn = s.turn := rfl
@[simp] theorem State.setEntry_strayFrames (id : Nat) (e : CatalogEntry) : (s.setEntry id e).strayFrames = s.strayFrames := rfl
@[simp] theorem State.setEntry_holds (id : Nat) (e : CatalogEntry) : (s.setEntry id e).holds = s.holds := rfl
@[simp] theorem State.setEntry_pendingHolds (id : Nat) (e : CatalogEntry) : (s.setEntry id e).pendingHolds = s.pendingHolds := rfl
@[simp] theorem State.setEntry_sweeper (id : Nat) (e : CatalogEntry) : (s.setEntry id e).sweeper = s.sweeper := rfl
@[simp] theorem State.setEntry_verifier (id : Nat) (e : CatalogEntry) : (s.setEntry id e).verifier = s.verifier := rfl
@[simp] theorem State.setEntry_days (id : Nat) (e : CatalogEntry) : (s.setEntry id e).days = s.days := rfl
@[simp] theorem State.setEntry_unplaced (id : Nat) (e : CatalogEntry) : (s.setEntry id e).unplaced = s.unplaced := rfl

@[simp] theorem State.moveEntry_pending (id : Nat) (st : EntryState) : (s.moveEntry id st).pending = s.pending := rfl
@[simp] theorem State.moveEntry_feedTx (id : Nat) (st : EntryState) : (s.moveEntry id st).feedTx = s.feedTx := rfl
@[simp] theorem State.moveEntry_storeTx (id : Nat) (st : EntryState) : (s.moveEntry id st).storeTx = s.storeTx := rfl
@[simp] theorem State.moveEntry_device (id : Nat) (st : EntryState) : (s.moveEntry id st).device = s.device := rfl
@[simp] theorem State.moveEntry_runTime (id : Nat) (st : EntryState) : (s.moveEntry id st).runTime = s.runTime := rfl
@[simp] theorem State.moveEntry_params (id : Nat) (st : EntryState) : (s.moveEntry id st).params = s.params := rfl
@[simp] theorem State.moveEntry_control (id : Nat) (st : EntryState) : (s.moveEntry id st).control = s.control := rfl
@[simp] theorem State.moveEntry_reports (id : Nat) (st : EntryState) : (s.moveEntry id st).reports = s.reports := rfl
@[simp] theorem State.moveEntry_feed (id : Nat) (st : EntryState) : (s.moveEntry id st).feed = s.feed := rfl
@[simp] theorem State.moveEntry_store (id : Nat) (st : EntryState) : (s.moveEntry id st).store = s.store := rfl
@[simp] theorem State.moveEntry_clock (id : Nat) (st : EntryState) : (s.moveEntry id st).clock = s.clock := rfl
@[simp] theorem State.moveEntry_lanes (id : Nat) (st : EntryState) : (s.moveEntry id st).lanes = s.lanes := rfl
@[simp] theorem State.moveEntry_recent (id : Nat) (st : EntryState) : (s.moveEntry id st).recent = s.recent := rfl
@[simp] theorem State.moveEntry_parser (id : Nat) (st : EntryState) : (s.moveEntry id st).parser = s.parser := rfl
@[simp] theorem State.moveEntry_banks (id : Nat) (st : EntryState) : (s.moveEntry id st).banks = s.banks := rfl
@[simp] theorem State.moveEntry_selection (id : Nat) (st : EntryState) : (s.moveEntry id st).selection = s.selection := rfl
@[simp] theorem State.moveEntry_loadCounter (id : Nat) (st : EntryState) : (s.moveEntry id st).loadCounter = s.loadCounter := rfl
@[simp] theorem State.moveEntry_filter (id : Nat) (st : EntryState) : (s.moveEntry id st).filter = s.filter := rfl
@[simp] theorem State.moveEntry_openSegments (id : Nat) (st : EntryState) : (s.moveEntry id st).openSegments = s.openSegments := rfl
@[simp] theorem State.moveEntry_buffers (id : Nat) (st : EntryState) : (s.moveEntry id st).buffers = s.buffers := rfl
@[simp] theorem State.moveEntry_stall (id : Nat) (st : EntryState) : (s.moveEntry id st).stall = s.stall := rfl
@[simp] theorem State.moveEntry_catalogFull (id : Nat) (st : EntryState) : (s.moveEntry id st).catalogFull = s.catalogFull := rfl
@[simp] theorem State.moveEntry_storeFull (id : Nat) (st : EntryState) : (s.moveEntry id st).storeFull = s.storeFull := rfl
@[simp] theorem State.moveEntry_writeQueue (id : Nat) (st : EntryState) : (s.moveEntry id st).writeQueue = s.writeQueue := rfl
@[simp] theorem State.moveEntry_fullWaits (id : Nat) (st : EntryState) : (s.moveEntry id st).fullWaits = s.fullWaits := rfl
@[simp] theorem State.moveEntry_freeIds (id : Nat) (st : EntryState) : (s.moveEntry id st).freeIds = s.freeIds := rfl
@[simp] theorem State.moveEntry_tags (id : Nat) (st : EntryState) : (s.moveEntry id st).tags = s.tags := rfl
@[simp] theorem State.moveEntry_lastTag (id : Nat) (st : EntryState) : (s.moveEntry id st).lastTag = s.lastTag := rfl
@[simp] theorem State.moveEntry_turn (id : Nat) (st : EntryState) : (s.moveEntry id st).turn = s.turn := rfl
@[simp] theorem State.moveEntry_strayFrames (id : Nat) (st : EntryState) : (s.moveEntry id st).strayFrames = s.strayFrames := rfl
@[simp] theorem State.moveEntry_holds (id : Nat) (st : EntryState) : (s.moveEntry id st).holds = s.holds := rfl
@[simp] theorem State.moveEntry_pendingHolds (id : Nat) (st : EntryState) : (s.moveEntry id st).pendingHolds = s.pendingHolds := rfl
@[simp] theorem State.moveEntry_sweeper (id : Nat) (st : EntryState) : (s.moveEntry id st).sweeper = s.sweeper := rfl
@[simp] theorem State.moveEntry_verifier (id : Nat) (st : EntryState) : (s.moveEntry id st).verifier = s.verifier := rfl
@[simp] theorem State.moveEntry_days (id : Nat) (st : EntryState) : (s.moveEntry id st).days = s.days := rfl
@[simp] theorem State.moveEntry_unplaced (id : Nat) (st : EntryState) : (s.moveEntry id st).unplaced = s.unplaced := rfl

@[simp] theorem State.mapContext_pending (l : Fin 16) (f : FileContext → FileContext) : (s.mapContext l f).pending = s.pending := rfl
@[simp] theorem State.mapContext_feedTx (l : Fin 16) (f : FileContext → FileContext) : (s.mapContext l f).feedTx = s.feedTx := rfl
@[simp] theorem State.mapContext_storeTx (l : Fin 16) (f : FileContext → FileContext) : (s.mapContext l f).storeTx = s.storeTx := rfl
@[simp] theorem State.mapContext_device (l : Fin 16) (f : FileContext → FileContext) : (s.mapContext l f).device = s.device := rfl
@[simp] theorem State.mapContext_runTime (l : Fin 16) (f : FileContext → FileContext) : (s.mapContext l f).runTime = s.runTime := rfl
@[simp] theorem State.mapContext_params (l : Fin 16) (f : FileContext → FileContext) : (s.mapContext l f).params = s.params := rfl
@[simp] theorem State.mapContext_control (l : Fin 16) (f : FileContext → FileContext) : (s.mapContext l f).control = s.control := rfl
@[simp] theorem State.mapContext_reports (l : Fin 16) (f : FileContext → FileContext) : (s.mapContext l f).reports = s.reports := rfl
@[simp] theorem State.mapContext_feed (l : Fin 16) (f : FileContext → FileContext) : (s.mapContext l f).feed = s.feed := rfl
@[simp] theorem State.mapContext_store (l : Fin 16) (f : FileContext → FileContext) : (s.mapContext l f).store = s.store := rfl
@[simp] theorem State.mapContext_clock (l : Fin 16) (f : FileContext → FileContext) : (s.mapContext l f).clock = s.clock := rfl
@[simp] theorem State.mapContext_recent (l : Fin 16) (f : FileContext → FileContext) : (s.mapContext l f).recent = s.recent := rfl
@[simp] theorem State.mapContext_parser (l : Fin 16) (f : FileContext → FileContext) : (s.mapContext l f).parser = s.parser := rfl
@[simp] theorem State.mapContext_banks (l : Fin 16) (f : FileContext → FileContext) : (s.mapContext l f).banks = s.banks := rfl
@[simp] theorem State.mapContext_selection (l : Fin 16) (f : FileContext → FileContext) : (s.mapContext l f).selection = s.selection := rfl
@[simp] theorem State.mapContext_loadCounter (l : Fin 16) (f : FileContext → FileContext) : (s.mapContext l f).loadCounter = s.loadCounter := rfl
@[simp] theorem State.mapContext_filter (l : Fin 16) (f : FileContext → FileContext) : (s.mapContext l f).filter = s.filter := rfl
@[simp] theorem State.mapContext_openSegments (l : Fin 16) (f : FileContext → FileContext) : (s.mapContext l f).openSegments = s.openSegments := rfl
@[simp] theorem State.mapContext_buffers (l : Fin 16) (f : FileContext → FileContext) : (s.mapContext l f).buffers = s.buffers := rfl
@[simp] theorem State.mapContext_stall (l : Fin 16) (f : FileContext → FileContext) : (s.mapContext l f).stall = s.stall := rfl
@[simp] theorem State.mapContext_catalogFull (l : Fin 16) (f : FileContext → FileContext) : (s.mapContext l f).catalogFull = s.catalogFull := rfl
@[simp] theorem State.mapContext_storeFull (l : Fin 16) (f : FileContext → FileContext) : (s.mapContext l f).storeFull = s.storeFull := rfl
@[simp] theorem State.mapContext_writeQueue (l : Fin 16) (f : FileContext → FileContext) : (s.mapContext l f).writeQueue = s.writeQueue := rfl
@[simp] theorem State.mapContext_fullWaits (l : Fin 16) (f : FileContext → FileContext) : (s.mapContext l f).fullWaits = s.fullWaits := rfl
@[simp] theorem State.mapContext_catalog (l : Fin 16) (f : FileContext → FileContext) : (s.mapContext l f).catalog = s.catalog := rfl
@[simp] theorem State.mapContext_stateCounts (l : Fin 16) (f : FileContext → FileContext) : (s.mapContext l f).stateCounts = s.stateCounts := rfl
@[simp] theorem State.mapContext_freeIds (l : Fin 16) (f : FileContext → FileContext) : (s.mapContext l f).freeIds = s.freeIds := rfl
@[simp] theorem State.mapContext_tags (l : Fin 16) (f : FileContext → FileContext) : (s.mapContext l f).tags = s.tags := rfl
@[simp] theorem State.mapContext_lastTag (l : Fin 16) (f : FileContext → FileContext) : (s.mapContext l f).lastTag = s.lastTag := rfl
@[simp] theorem State.mapContext_turn (l : Fin 16) (f : FileContext → FileContext) : (s.mapContext l f).turn = s.turn := rfl
@[simp] theorem State.mapContext_strayFrames (l : Fin 16) (f : FileContext → FileContext) : (s.mapContext l f).strayFrames = s.strayFrames := rfl
@[simp] theorem State.mapContext_holds (l : Fin 16) (f : FileContext → FileContext) : (s.mapContext l f).holds = s.holds := rfl
@[simp] theorem State.mapContext_pendingHolds (l : Fin 16) (f : FileContext → FileContext) : (s.mapContext l f).pendingHolds = s.pendingHolds := rfl
@[simp] theorem State.mapContext_sweeper (l : Fin 16) (f : FileContext → FileContext) : (s.mapContext l f).sweeper = s.sweeper := rfl
@[simp] theorem State.mapContext_verifier (l : Fin 16) (f : FileContext → FileContext) : (s.mapContext l f).verifier = s.verifier := rfl
@[simp] theorem State.mapContext_days (l : Fin 16) (f : FileContext → FileContext) : (s.mapContext l f).days = s.days := rfl
@[simp] theorem State.mapContext_unplaced (l : Fin 16) (f : FileContext → FileContext) : (s.mapContext l f).unplaced = s.unplaced := rfl

@[simp] theorem State.idleLane_pending (l : Fin 16) : (s.idleLane l).pending = s.pending := rfl
@[simp] theorem State.idleLane_feedTx (l : Fin 16) : (s.idleLane l).feedTx = s.feedTx := rfl
@[simp] theorem State.idleLane_storeTx (l : Fin 16) : (s.idleLane l).storeTx = s.storeTx := rfl
@[simp] theorem State.idleLane_device (l : Fin 16) : (s.idleLane l).device = s.device := rfl
@[simp] theorem State.idleLane_runTime (l : Fin 16) : (s.idleLane l).runTime = s.runTime := rfl
@[simp] theorem State.idleLane_params (l : Fin 16) : (s.idleLane l).params = s.params := rfl
@[simp] theorem State.idleLane_control (l : Fin 16) : (s.idleLane l).control = s.control := rfl
@[simp] theorem State.idleLane_reports (l : Fin 16) : (s.idleLane l).reports = s.reports := rfl
@[simp] theorem State.idleLane_feed (l : Fin 16) : (s.idleLane l).feed = s.feed := rfl
@[simp] theorem State.idleLane_store (l : Fin 16) : (s.idleLane l).store = s.store := rfl
@[simp] theorem State.idleLane_clock (l : Fin 16) : (s.idleLane l).clock = s.clock := rfl
@[simp] theorem State.idleLane_recent (l : Fin 16) : (s.idleLane l).recent = s.recent := rfl
@[simp] theorem State.idleLane_parser (l : Fin 16) : (s.idleLane l).parser = s.parser := rfl
@[simp] theorem State.idleLane_banks (l : Fin 16) : (s.idleLane l).banks = s.banks := rfl
@[simp] theorem State.idleLane_selection (l : Fin 16) : (s.idleLane l).selection = s.selection := rfl
@[simp] theorem State.idleLane_loadCounter (l : Fin 16) : (s.idleLane l).loadCounter = s.loadCounter := rfl
@[simp] theorem State.idleLane_filter (l : Fin 16) : (s.idleLane l).filter = s.filter := rfl
@[simp] theorem State.idleLane_openSegments (l : Fin 16) : (s.idleLane l).openSegments = s.openSegments := rfl
@[simp] theorem State.idleLane_buffers (l : Fin 16) : (s.idleLane l).buffers = s.buffers := rfl
@[simp] theorem State.idleLane_stall (l : Fin 16) : (s.idleLane l).stall = s.stall := rfl
@[simp] theorem State.idleLane_catalogFull (l : Fin 16) : (s.idleLane l).catalogFull = s.catalogFull := rfl
@[simp] theorem State.idleLane_storeFull (l : Fin 16) : (s.idleLane l).storeFull = s.storeFull := rfl
@[simp] theorem State.idleLane_writeQueue (l : Fin 16) : (s.idleLane l).writeQueue = s.writeQueue := rfl
@[simp] theorem State.idleLane_fullWaits (l : Fin 16) : (s.idleLane l).fullWaits = s.fullWaits := rfl
@[simp] theorem State.idleLane_catalog (l : Fin 16) : (s.idleLane l).catalog = s.catalog := rfl
@[simp] theorem State.idleLane_stateCounts (l : Fin 16) : (s.idleLane l).stateCounts = s.stateCounts := rfl
@[simp] theorem State.idleLane_freeIds (l : Fin 16) : (s.idleLane l).freeIds = s.freeIds := rfl
@[simp] theorem State.idleLane_tags (l : Fin 16) : (s.idleLane l).tags = s.tags := rfl
@[simp] theorem State.idleLane_lastTag (l : Fin 16) : (s.idleLane l).lastTag = s.lastTag := rfl
@[simp] theorem State.idleLane_turn (l : Fin 16) : (s.idleLane l).turn = s.turn := rfl
@[simp] theorem State.idleLane_strayFrames (l : Fin 16) : (s.idleLane l).strayFrames = s.strayFrames := rfl
@[simp] theorem State.idleLane_holds (l : Fin 16) : (s.idleLane l).holds = s.holds := rfl
@[simp] theorem State.idleLane_pendingHolds (l : Fin 16) : (s.idleLane l).pendingHolds = s.pendingHolds := rfl
@[simp] theorem State.idleLane_sweeper (l : Fin 16) : (s.idleLane l).sweeper = s.sweeper := rfl
@[simp] theorem State.idleLane_verifier (l : Fin 16) : (s.idleLane l).verifier = s.verifier := rfl
@[simp] theorem State.idleLane_days (l : Fin 16) : (s.idleLane l).days = s.days := rfl
@[simp] theorem State.idleLane_unplaced (l : Fin 16) : (s.idleLane l).unplaced = s.unplaced := rfl

@[simp] theorem State.setDayRecord_pending (d : DayRecord) : (s.setDayRecord d).pending = s.pending := rfl
@[simp] theorem State.setDayRecord_feedTx (d : DayRecord) : (s.setDayRecord d).feedTx = s.feedTx := rfl
@[simp] theorem State.setDayRecord_storeTx (d : DayRecord) : (s.setDayRecord d).storeTx = s.storeTx := rfl
@[simp] theorem State.setDayRecord_device (d : DayRecord) : (s.setDayRecord d).device = s.device := rfl
@[simp] theorem State.setDayRecord_runTime (d : DayRecord) : (s.setDayRecord d).runTime = s.runTime := rfl
@[simp] theorem State.setDayRecord_params (d : DayRecord) : (s.setDayRecord d).params = s.params := rfl
@[simp] theorem State.setDayRecord_control (d : DayRecord) : (s.setDayRecord d).control = s.control := rfl
@[simp] theorem State.setDayRecord_reports (d : DayRecord) : (s.setDayRecord d).reports = s.reports := rfl
@[simp] theorem State.setDayRecord_feed (d : DayRecord) : (s.setDayRecord d).feed = s.feed := rfl
@[simp] theorem State.setDayRecord_store (d : DayRecord) : (s.setDayRecord d).store = s.store := rfl
@[simp] theorem State.setDayRecord_clock (d : DayRecord) : (s.setDayRecord d).clock = s.clock := rfl
@[simp] theorem State.setDayRecord_lanes (d : DayRecord) : (s.setDayRecord d).lanes = s.lanes := rfl
@[simp] theorem State.setDayRecord_recent (d : DayRecord) : (s.setDayRecord d).recent = s.recent := rfl
@[simp] theorem State.setDayRecord_parser (d : DayRecord) : (s.setDayRecord d).parser = s.parser := rfl
@[simp] theorem State.setDayRecord_banks (d : DayRecord) : (s.setDayRecord d).banks = s.banks := rfl
@[simp] theorem State.setDayRecord_selection (d : DayRecord) : (s.setDayRecord d).selection = s.selection := rfl
@[simp] theorem State.setDayRecord_loadCounter (d : DayRecord) : (s.setDayRecord d).loadCounter = s.loadCounter := rfl
@[simp] theorem State.setDayRecord_filter (d : DayRecord) : (s.setDayRecord d).filter = s.filter := rfl
@[simp] theorem State.setDayRecord_openSegments (d : DayRecord) : (s.setDayRecord d).openSegments = s.openSegments := rfl
@[simp] theorem State.setDayRecord_buffers (d : DayRecord) : (s.setDayRecord d).buffers = s.buffers := rfl
@[simp] theorem State.setDayRecord_stall (d : DayRecord) : (s.setDayRecord d).stall = s.stall := rfl
@[simp] theorem State.setDayRecord_catalogFull (d : DayRecord) : (s.setDayRecord d).catalogFull = s.catalogFull := rfl
@[simp] theorem State.setDayRecord_storeFull (d : DayRecord) : (s.setDayRecord d).storeFull = s.storeFull := rfl
@[simp] theorem State.setDayRecord_writeQueue (d : DayRecord) : (s.setDayRecord d).writeQueue = s.writeQueue := rfl
@[simp] theorem State.setDayRecord_fullWaits (d : DayRecord) : (s.setDayRecord d).fullWaits = s.fullWaits := rfl
@[simp] theorem State.setDayRecord_catalog (d : DayRecord) : (s.setDayRecord d).catalog = s.catalog := rfl
@[simp] theorem State.setDayRecord_stateCounts (d : DayRecord) : (s.setDayRecord d).stateCounts = s.stateCounts := rfl
@[simp] theorem State.setDayRecord_freeIds (d : DayRecord) : (s.setDayRecord d).freeIds = s.freeIds := rfl
@[simp] theorem State.setDayRecord_tags (d : DayRecord) : (s.setDayRecord d).tags = s.tags := rfl
@[simp] theorem State.setDayRecord_lastTag (d : DayRecord) : (s.setDayRecord d).lastTag = s.lastTag := rfl
@[simp] theorem State.setDayRecord_turn (d : DayRecord) : (s.setDayRecord d).turn = s.turn := rfl
@[simp] theorem State.setDayRecord_strayFrames (d : DayRecord) : (s.setDayRecord d).strayFrames = s.strayFrames := rfl
@[simp] theorem State.setDayRecord_holds (d : DayRecord) : (s.setDayRecord d).holds = s.holds := rfl
@[simp] theorem State.setDayRecord_pendingHolds (d : DayRecord) : (s.setDayRecord d).pendingHolds = s.pendingHolds := rfl
@[simp] theorem State.setDayRecord_sweeper (d : DayRecord) : (s.setDayRecord d).sweeper = s.sweeper := rfl
@[simp] theorem State.setDayRecord_verifier (d : DayRecord) : (s.setDayRecord d).verifier = s.verifier := rfl
@[simp] theorem State.setDayRecord_unplaced (d : DayRecord) : (s.setDayRecord d).unplaced = s.unplaced := rfl

@[simp] theorem State.mapVerifyCounts_pending (f : VerifyCounts → VerifyCounts) : (s.mapVerifyCounts f).pending = s.pending := rfl
@[simp] theorem State.mapVerifyCounts_feedTx (f : VerifyCounts → VerifyCounts) : (s.mapVerifyCounts f).feedTx = s.feedTx := rfl
@[simp] theorem State.mapVerifyCounts_storeTx (f : VerifyCounts → VerifyCounts) : (s.mapVerifyCounts f).storeTx = s.storeTx := rfl
@[simp] theorem State.mapVerifyCounts_device (f : VerifyCounts → VerifyCounts) : (s.mapVerifyCounts f).device = s.device := rfl
@[simp] theorem State.mapVerifyCounts_runTime (f : VerifyCounts → VerifyCounts) : (s.mapVerifyCounts f).runTime = s.runTime := rfl
@[simp] theorem State.mapVerifyCounts_params (f : VerifyCounts → VerifyCounts) : (s.mapVerifyCounts f).params = s.params := rfl
@[simp] theorem State.mapVerifyCounts_control (f : VerifyCounts → VerifyCounts) : (s.mapVerifyCounts f).control = s.control := rfl
@[simp] theorem State.mapVerifyCounts_reports (f : VerifyCounts → VerifyCounts) : (s.mapVerifyCounts f).reports = s.reports := rfl
@[simp] theorem State.mapVerifyCounts_feed (f : VerifyCounts → VerifyCounts) : (s.mapVerifyCounts f).feed = s.feed := rfl
@[simp] theorem State.mapVerifyCounts_store (f : VerifyCounts → VerifyCounts) : (s.mapVerifyCounts f).store = s.store := rfl
@[simp] theorem State.mapVerifyCounts_clock (f : VerifyCounts → VerifyCounts) : (s.mapVerifyCounts f).clock = s.clock := rfl
@[simp] theorem State.mapVerifyCounts_lanes (f : VerifyCounts → VerifyCounts) : (s.mapVerifyCounts f).lanes = s.lanes := rfl
@[simp] theorem State.mapVerifyCounts_recent (f : VerifyCounts → VerifyCounts) : (s.mapVerifyCounts f).recent = s.recent := rfl
@[simp] theorem State.mapVerifyCounts_parser (f : VerifyCounts → VerifyCounts) : (s.mapVerifyCounts f).parser = s.parser := rfl
@[simp] theorem State.mapVerifyCounts_banks (f : VerifyCounts → VerifyCounts) : (s.mapVerifyCounts f).banks = s.banks := rfl
@[simp] theorem State.mapVerifyCounts_selection (f : VerifyCounts → VerifyCounts) : (s.mapVerifyCounts f).selection = s.selection := rfl
@[simp] theorem State.mapVerifyCounts_loadCounter (f : VerifyCounts → VerifyCounts) : (s.mapVerifyCounts f).loadCounter = s.loadCounter := rfl
@[simp] theorem State.mapVerifyCounts_filter (f : VerifyCounts → VerifyCounts) : (s.mapVerifyCounts f).filter = s.filter := rfl
@[simp] theorem State.mapVerifyCounts_openSegments (f : VerifyCounts → VerifyCounts) : (s.mapVerifyCounts f).openSegments = s.openSegments := rfl
@[simp] theorem State.mapVerifyCounts_buffers (f : VerifyCounts → VerifyCounts) : (s.mapVerifyCounts f).buffers = s.buffers := rfl
@[simp] theorem State.mapVerifyCounts_stall (f : VerifyCounts → VerifyCounts) : (s.mapVerifyCounts f).stall = s.stall := rfl
@[simp] theorem State.mapVerifyCounts_catalogFull (f : VerifyCounts → VerifyCounts) : (s.mapVerifyCounts f).catalogFull = s.catalogFull := rfl
@[simp] theorem State.mapVerifyCounts_storeFull (f : VerifyCounts → VerifyCounts) : (s.mapVerifyCounts f).storeFull = s.storeFull := rfl
@[simp] theorem State.mapVerifyCounts_writeQueue (f : VerifyCounts → VerifyCounts) : (s.mapVerifyCounts f).writeQueue = s.writeQueue := rfl
@[simp] theorem State.mapVerifyCounts_fullWaits (f : VerifyCounts → VerifyCounts) : (s.mapVerifyCounts f).fullWaits = s.fullWaits := rfl
@[simp] theorem State.mapVerifyCounts_catalog (f : VerifyCounts → VerifyCounts) : (s.mapVerifyCounts f).catalog = s.catalog := rfl
@[simp] theorem State.mapVerifyCounts_stateCounts (f : VerifyCounts → VerifyCounts) : (s.mapVerifyCounts f).stateCounts = s.stateCounts := rfl
@[simp] theorem State.mapVerifyCounts_freeIds (f : VerifyCounts → VerifyCounts) : (s.mapVerifyCounts f).freeIds = s.freeIds := rfl
@[simp] theorem State.mapVerifyCounts_tags (f : VerifyCounts → VerifyCounts) : (s.mapVerifyCounts f).tags = s.tags := rfl
@[simp] theorem State.mapVerifyCounts_lastTag (f : VerifyCounts → VerifyCounts) : (s.mapVerifyCounts f).lastTag = s.lastTag := rfl
@[simp] theorem State.mapVerifyCounts_turn (f : VerifyCounts → VerifyCounts) : (s.mapVerifyCounts f).turn = s.turn := rfl
@[simp] theorem State.mapVerifyCounts_strayFrames (f : VerifyCounts → VerifyCounts) : (s.mapVerifyCounts f).strayFrames = s.strayFrames := rfl
@[simp] theorem State.mapVerifyCounts_holds (f : VerifyCounts → VerifyCounts) : (s.mapVerifyCounts f).holds = s.holds := rfl
@[simp] theorem State.mapVerifyCounts_pendingHolds (f : VerifyCounts → VerifyCounts) : (s.mapVerifyCounts f).pendingHolds = s.pendingHolds := rfl
@[simp] theorem State.mapVerifyCounts_sweeper (f : VerifyCounts → VerifyCounts) : (s.mapVerifyCounts f).sweeper = s.sweeper := rfl
@[simp] theorem State.mapVerifyCounts_days (f : VerifyCounts → VerifyCounts) : (s.mapVerifyCounts f).days = s.days := rfl
@[simp] theorem State.mapVerifyCounts_unplaced (f : VerifyCounts → VerifyCounts) : (s.mapVerifyCounts f).unplaced = s.unplaced := rfl

@[simp] theorem State.tick_pending : (s.tick).pending = s.pending := rfl
@[simp] theorem State.tick_feedTx : (s.tick).feedTx = s.feedTx := rfl
@[simp] theorem State.tick_storeTx : (s.tick).storeTx = s.storeTx := rfl
@[simp] theorem State.tick_device : (s.tick).device = s.device := rfl
@[simp] theorem State.tick_params : (s.tick).params = s.params := rfl
@[simp] theorem State.tick_control : (s.tick).control = s.control := rfl
@[simp] theorem State.tick_reports : (s.tick).reports = s.reports := rfl
@[simp] theorem State.tick_feed : (s.tick).feed = s.feed := rfl
@[simp] theorem State.tick_store : (s.tick).store = s.store := rfl
@[simp] theorem State.tick_clock : (s.tick).clock = s.clock := rfl
@[simp] theorem State.tick_lanes : (s.tick).lanes = s.lanes := rfl
@[simp] theorem State.tick_recent : (s.tick).recent = s.recent := rfl
@[simp] theorem State.tick_parser : (s.tick).parser = s.parser := rfl
@[simp] theorem State.tick_banks : (s.tick).banks = s.banks := rfl
@[simp] theorem State.tick_selection : (s.tick).selection = s.selection := rfl
@[simp] theorem State.tick_loadCounter : (s.tick).loadCounter = s.loadCounter := rfl
@[simp] theorem State.tick_filter : (s.tick).filter = s.filter := rfl
@[simp] theorem State.tick_openSegments : (s.tick).openSegments = s.openSegments := rfl
@[simp] theorem State.tick_buffers : (s.tick).buffers = s.buffers := rfl
@[simp] theorem State.tick_stall : (s.tick).stall = s.stall := rfl
@[simp] theorem State.tick_catalogFull : (s.tick).catalogFull = s.catalogFull := rfl
@[simp] theorem State.tick_storeFull : (s.tick).storeFull = s.storeFull := rfl
@[simp] theorem State.tick_writeQueue : (s.tick).writeQueue = s.writeQueue := rfl
@[simp] theorem State.tick_fullWaits : (s.tick).fullWaits = s.fullWaits := rfl
@[simp] theorem State.tick_catalog : (s.tick).catalog = s.catalog := rfl
@[simp] theorem State.tick_stateCounts : (s.tick).stateCounts = s.stateCounts := rfl
@[simp] theorem State.tick_freeIds : (s.tick).freeIds = s.freeIds := rfl
@[simp] theorem State.tick_tags : (s.tick).tags = s.tags := rfl
@[simp] theorem State.tick_lastTag : (s.tick).lastTag = s.lastTag := rfl
@[simp] theorem State.tick_turn : (s.tick).turn = s.turn := rfl
@[simp] theorem State.tick_strayFrames : (s.tick).strayFrames = s.strayFrames := rfl
@[simp] theorem State.tick_holds : (s.tick).holds = s.holds := rfl
@[simp] theorem State.tick_pendingHolds : (s.tick).pendingHolds = s.pendingHolds := rfl
@[simp] theorem State.tick_sweeper : (s.tick).sweeper = s.sweeper := rfl
@[simp] theorem State.tick_verifier : (s.tick).verifier = s.verifier := rfl
@[simp] theorem State.tick_days : (s.tick).days = s.days := rfl
@[simp] theorem State.tick_unplaced : (s.tick).unplaced = s.unplaced := rfl

/-! ### What an update writes -/

@[simp] theorem State.setLane_lanes (l : Fin 16) (x : Lane) : (s.setLane l x).lanes = s.lanes.set l x := rfl
@[simp] theorem State.setBank_banks (b : Fin 4) (x : Bank) : (s.setBank b x).banks = s.banks.set b x := rfl
@[simp] theorem State.setBuffer_buffers (i : Fin 32) (x : SegmentBuffer) :
    (s.setBuffer i x).buffers = s.buffers.set i x := rfl
@[simp] theorem State.setTag_tags (t : Fin 8) (x : Option Outstanding) : (s.setTag t x).tags = s.tags.set t x := rfl
@[simp] theorem State.setHold_holds (h : Fin 64) (x : Option Hold) : (s.setHold h x).holds = s.holds.set h x := rfl
@[simp] theorem State.setEntry_catalog (id : Nat) (e : CatalogEntry) :
    (s.setEntry id e).catalog = NMap.write {} s.catalog id e := rfl
@[simp] theorem State.setEntry_stateCounts (id : Nat) (e : CatalogEntry) :
    (s.setEntry id e).stateCounts = moveCount s.stateCounts (s.entry id).state e.state := rfl
@[simp] theorem State.tick_runTime : s.tick.runTime = (s.runTime + 1) % 4294967296 := rfl

/-! ### What is read back -/

theorem State.lane_setLane (l m : Fin 16) (x : Lane) : (s.setLane l x).lane m = if l = m then x else s.lane m := by
  simp [State.lane, State.setLane, Vector.getElem_set, Fin.ext_iff]

@[simp] theorem State.lane_setLane_self (l : Fin 16) (x : Lane) : (s.setLane l x).lane l = x := by
  simp [State.lane_setLane]

theorem State.bank_setBank (b c : Fin 4) (x : Bank) : (s.setBank b x).bank c = if b = c then x else s.bank c := by
  simp [State.bank, State.setBank, Vector.getElem_set, Fin.ext_iff]

@[simp] theorem State.bank_setBank_self (b : Fin 4) (x : Bank) : (s.setBank b x).bank b = x := by
  simp [State.bank_setBank]

theorem State.buffer_setBuffer (i j : Fin 32) (x : SegmentBuffer) :
    (s.setBuffer i x).buffer j = if i = j then x else s.buffer j := by
  simp [State.buffer, State.setBuffer, Vector.getElem_set, Fin.ext_iff]

@[simp] theorem State.buffer_setBuffer_self (i : Fin 32) (x : SegmentBuffer) : (s.setBuffer i x).buffer i = x := by
  simp [State.buffer_setBuffer]

theorem State.tag_setTag (t u : Fin 8) (x : Option Outstanding) :
    (s.setTag t x).tag u = if t = u then x else s.tag u := by
  simp [State.tag, State.setTag, Vector.getElem_set, Fin.ext_iff]

@[simp] theorem State.tag_setTag_self (t : Fin 8) (x : Option Outstanding) : (s.setTag t x).tag t = x := by
  simp [State.tag_setTag]

theorem State.hold_setHold (h k : Fin 64) (x : Option Hold) :
    (s.setHold h x).hold k = if h = k then x else s.hold k := by
  simp [State.hold, State.setHold, Vector.getElem_set, Fin.ext_iff]

@[simp] theorem State.hold_setHold_self (h : Fin 64) (x : Option Hold) : (s.setHold h x).hold h = x := by
  simp [State.hold_setHold]

@[simp] theorem State.port_setPort (p : PortId) (x : Port) : (s.setPort p x).port p = x := by cases p <;> rfl

@[simp] theorem Lane.buf_setBuf (x : Lane) (i : BufId) (y : LaneBuffer) : (x.setBuf i y).buf i = y := by cases i <;> rfl

@[simp] theorem Lane.buf_setBuf_other (x : Lane) (i : BufId) (y : LaneBuffer) :
    (x.setBuf i y).buf i.other = x.buf i.other := by cases i <;> rfl

/-! ### An accessor sees only its own field -/

@[simp] theorem State.lane_setBank_same (b : Fin 4) (x : Bank) (m : Fin 16) : (s.setBank b x).lane m = s.lane m := rfl
@[simp] theorem State.lane_setBuffer_same (i : Fin 32) (x : SegmentBuffer) (m : Fin 16) : (s.setBuffer i x).lane m = s.lane m := rfl
@[simp] theorem State.lane_setTag_same (t : Fin 8) (x : Option Outstanding) (m : Fin 16) : (s.setTag t x).lane m = s.lane m := rfl
@[simp] theorem State.lane_setHold_same (h : Fin 64) (x : Option Hold) (m : Fin 16) : (s.setHold h x).lane m = s.lane m := rfl
@[simp] theorem State.lane_setEntry_same (id : Nat) (e : CatalogEntry) (m : Fin 16) : (s.setEntry id e).lane m = s.lane m := rfl
@[simp] theorem State.lane_moveEntry_same (id : Nat) (st : EntryState) (m : Fin 16) : (s.moveEntry id st).lane m = s.lane m := rfl
@[simp] theorem State.lane_setDayRecord_same (d : DayRecord) (m : Fin 16) : (s.setDayRecord d).lane m = s.lane m := rfl
@[simp] theorem State.lane_mapVerifyCounts_same (f : VerifyCounts → VerifyCounts) (m : Fin 16) : (s.mapVerifyCounts f).lane m = s.lane m := rfl
@[simp] theorem State.lane_tick_same (m : Fin 16) : (s.tick).lane m = s.lane m := rfl
@[simp] theorem State.bank_setLane_same (l : Fin 16) (x : Lane) (c : Fin 4) : (s.setLane l x).bank c = s.bank c := rfl
@[simp] theorem State.bank_setBuffer_same (i : Fin 32) (x : SegmentBuffer) (c : Fin 4) : (s.setBuffer i x).bank c = s.bank c := rfl
@[simp] theorem State.bank_setTag_same (t : Fin 8) (x : Option Outstanding) (c : Fin 4) : (s.setTag t x).bank c = s.bank c := rfl
@[simp] theorem State.bank_setHold_same (h : Fin 64) (x : Option Hold) (c : Fin 4) : (s.setHold h x).bank c = s.bank c := rfl
@[simp] theorem State.bank_setEntry_same (id : Nat) (e : CatalogEntry) (c : Fin 4) : (s.setEntry id e).bank c = s.bank c := rfl
@[simp] theorem State.bank_moveEntry_same (id : Nat) (st : EntryState) (c : Fin 4) : (s.moveEntry id st).bank c = s.bank c := rfl
@[simp] theorem State.bank_mapContext_same (l : Fin 16) (f : FileContext → FileContext) (c : Fin 4) : (s.mapContext l f).bank c = s.bank c := rfl
@[simp] theorem State.bank_idleLane_same (l : Fin 16) (c : Fin 4) : (s.idleLane l).bank c = s.bank c := rfl
@[simp] theorem State.bank_setDayRecord_same (d : DayRecord) (c : Fin 4) : (s.setDayRecord d).bank c = s.bank c := rfl
@[simp] theorem State.bank_mapVerifyCounts_same (f : VerifyCounts → VerifyCounts) (c : Fin 4) : (s.mapVerifyCounts f).bank c = s.bank c := rfl
@[simp] theorem State.bank_tick_same (c : Fin 4) : (s.tick).bank c = s.bank c := rfl
@[simp] theorem State.buffer_setLane_same (l : Fin 16) (x : Lane) (j : Fin 32) : (s.setLane l x).buffer j = s.buffer j := rfl
@[simp] theorem State.buffer_setBank_same (b : Fin 4) (x : Bank) (j : Fin 32) : (s.setBank b x).buffer j = s.buffer j := rfl
@[simp] theorem State.buffer_setTag_same (t : Fin 8) (x : Option Outstanding) (j : Fin 32) : (s.setTag t x).buffer j = s.buffer j := rfl
@[simp] theorem State.buffer_setHold_same (h : Fin 64) (x : Option Hold) (j : Fin 32) : (s.setHold h x).buffer j = s.buffer j := rfl
@[simp] theorem State.buffer_setEntry_same (id : Nat) (e : CatalogEntry) (j : Fin 32) : (s.setEntry id e).buffer j = s.buffer j := rfl
@[simp] theorem State.buffer_moveEntry_same (id : Nat) (st : EntryState) (j : Fin 32) : (s.moveEntry id st).buffer j = s.buffer j := rfl
@[simp] theorem State.buffer_mapContext_same (l : Fin 16) (f : FileContext → FileContext) (j : Fin 32) : (s.mapContext l f).buffer j = s.buffer j := rfl
@[simp] theorem State.buffer_idleLane_same (l : Fin 16) (j : Fin 32) : (s.idleLane l).buffer j = s.buffer j := rfl
@[simp] theorem State.buffer_setDayRecord_same (d : DayRecord) (j : Fin 32) : (s.setDayRecord d).buffer j = s.buffer j := rfl
@[simp] theorem State.buffer_mapVerifyCounts_same (f : VerifyCounts → VerifyCounts) (j : Fin 32) : (s.mapVerifyCounts f).buffer j = s.buffer j := rfl
@[simp] theorem State.buffer_tick_same (j : Fin 32) : (s.tick).buffer j = s.buffer j := rfl
@[simp] theorem State.tag_setLane_same (l : Fin 16) (x : Lane) (u : Fin 8) : (s.setLane l x).tag u = s.tag u := rfl
@[simp] theorem State.tag_setBank_same (b : Fin 4) (x : Bank) (u : Fin 8) : (s.setBank b x).tag u = s.tag u := rfl
@[simp] theorem State.tag_setBuffer_same (i : Fin 32) (x : SegmentBuffer) (u : Fin 8) : (s.setBuffer i x).tag u = s.tag u := rfl
@[simp] theorem State.tag_setHold_same (h : Fin 64) (x : Option Hold) (u : Fin 8) : (s.setHold h x).tag u = s.tag u := rfl
@[simp] theorem State.tag_setEntry_same (id : Nat) (e : CatalogEntry) (u : Fin 8) : (s.setEntry id e).tag u = s.tag u := rfl
@[simp] theorem State.tag_moveEntry_same (id : Nat) (st : EntryState) (u : Fin 8) : (s.moveEntry id st).tag u = s.tag u := rfl
@[simp] theorem State.tag_mapContext_same (l : Fin 16) (f : FileContext → FileContext) (u : Fin 8) : (s.mapContext l f).tag u = s.tag u := rfl
@[simp] theorem State.tag_idleLane_same (l : Fin 16) (u : Fin 8) : (s.idleLane l).tag u = s.tag u := rfl
@[simp] theorem State.tag_setDayRecord_same (d : DayRecord) (u : Fin 8) : (s.setDayRecord d).tag u = s.tag u := rfl
@[simp] theorem State.tag_mapVerifyCounts_same (f : VerifyCounts → VerifyCounts) (u : Fin 8) : (s.mapVerifyCounts f).tag u = s.tag u := rfl
@[simp] theorem State.tag_tick_same (u : Fin 8) : (s.tick).tag u = s.tag u := rfl
@[simp] theorem State.hold_setLane_same (l : Fin 16) (x : Lane) (k : Fin 64) : (s.setLane l x).hold k = s.hold k := rfl
@[simp] theorem State.hold_setBank_same (b : Fin 4) (x : Bank) (k : Fin 64) : (s.setBank b x).hold k = s.hold k := rfl
@[simp] theorem State.hold_setBuffer_same (i : Fin 32) (x : SegmentBuffer) (k : Fin 64) : (s.setBuffer i x).hold k = s.hold k := rfl
@[simp] theorem State.hold_setTag_same (t : Fin 8) (x : Option Outstanding) (k : Fin 64) : (s.setTag t x).hold k = s.hold k := rfl
@[simp] theorem State.hold_setEntry_same (id : Nat) (e : CatalogEntry) (k : Fin 64) : (s.setEntry id e).hold k = s.hold k := rfl
@[simp] theorem State.hold_moveEntry_same (id : Nat) (st : EntryState) (k : Fin 64) : (s.moveEntry id st).hold k = s.hold k := rfl
@[simp] theorem State.hold_mapContext_same (l : Fin 16) (f : FileContext → FileContext) (k : Fin 64) : (s.mapContext l f).hold k = s.hold k := rfl
@[simp] theorem State.hold_idleLane_same (l : Fin 16) (k : Fin 64) : (s.idleLane l).hold k = s.hold k := rfl
@[simp] theorem State.hold_setDayRecord_same (d : DayRecord) (k : Fin 64) : (s.setDayRecord d).hold k = s.hold k := rfl
@[simp] theorem State.hold_mapVerifyCounts_same (f : VerifyCounts → VerifyCounts) (k : Fin 64) : (s.mapVerifyCounts f).hold k = s.hold k := rfl
@[simp] theorem State.hold_tick_same (k : Fin 64) : (s.tick).hold k = s.hold k := rfl
@[simp] theorem State.entry_setLane_same (l : Fin 16) (x : Lane) (n : Nat) : (s.setLane l x).entry n = s.entry n := rfl
@[simp] theorem State.entry_setBank_same (b : Fin 4) (x : Bank) (n : Nat) : (s.setBank b x).entry n = s.entry n := rfl
@[simp] theorem State.entry_setBuffer_same (i : Fin 32) (x : SegmentBuffer) (n : Nat) : (s.setBuffer i x).entry n = s.entry n := rfl
@[simp] theorem State.entry_setTag_same (t : Fin 8) (x : Option Outstanding) (n : Nat) : (s.setTag t x).entry n = s.entry n := rfl
@[simp] theorem State.entry_setHold_same (h : Fin 64) (x : Option Hold) (n : Nat) : (s.setHold h x).entry n = s.entry n := rfl
@[simp] theorem State.entry_mapContext_same (l : Fin 16) (f : FileContext → FileContext) (n : Nat) : (s.mapContext l f).entry n = s.entry n := rfl
@[simp] theorem State.entry_idleLane_same (l : Fin 16) (n : Nat) : (s.idleLane l).entry n = s.entry n := rfl
@[simp] theorem State.entry_setDayRecord_same (d : DayRecord) (n : Nat) : (s.setDayRecord d).entry n = s.entry n := rfl
@[simp] theorem State.entry_mapVerifyCounts_same (f : VerifyCounts → VerifyCounts) (n : Nat) : (s.mapVerifyCounts f).entry n = s.entry n := rfl
@[simp] theorem State.entry_tick_same (n : Nat) : (s.tick).entry n = s.entry n := rfl

end Sys2Proof.Machine
end

