-- ==== Sys2Proof/Laws/Ops.lean ====
section
/-! SUPPORT. What the shared operations of Machine/Ops.lean and Machine/Reports.lean can do, said once: the fields they
leave, and what they write. -/

namespace Sys2Proof.Machine

variable (s : State)

/-! ### Sending -/

theorem sendFeed_up (f : FeedFrame) (h : s.feed.up = true) :
    sendFeed f s = { s with feedTx := s.feedTx ++ [f], feed := { s.feed with lastSent := s.runTime } } := by
  simp [sendFeed, h]

theorem sendFeed_down (f : FeedFrame) (h : s.feed.up = false) : sendFeed f s = s := by simp [sendFeed, h]

theorem sendStore_up (fs : List StoreFrame) (h : s.store.up = true) :
    sendStore fs s = { s with storeTx := s.storeTx ++ fs, store := { s.store with lastSent := s.runTime } } := by
  simp [sendStore, h]

theorem sendStore_down (fs : List StoreFrame) (h : s.store.up = false) : sendStore fs s = s := by simp [sendStore, h]

@[simp] theorem sendFeed_pending (f : FeedFrame) : (sendFeed f s).pending = s.pending := by unfold sendFeed; split <;> rfl
@[simp] theorem sendFeed_storeTx (f : FeedFrame) : (sendFeed f s).storeTx = s.storeTx := by unfold sendFeed; split <;> rfl
@[simp] theorem sendFeed_device (f : FeedFrame) : (sendFeed f s).device = s.device := by unfold sendFeed; split <;> rfl
@[simp] theorem sendFeed_runTime (f : FeedFrame) : (sendFeed f s).runTime = s.runTime := by unfold sendFeed; split <;> rfl
@[simp] theorem sendFeed_params (f : FeedFrame) : (sendFeed f s).params = s.params := by unfold sendFeed; split <;> rfl
@[simp] theorem sendFeed_control (f : FeedFrame) : (sendFeed f s).control = s.control := by unfold sendFeed; split <;> rfl
@[simp] theorem sendFeed_reports (f : FeedFrame) : (sendFeed f s).reports = s.reports := by unfold sendFeed; split <;> rfl
@[simp] theorem sendFeed_store (f : FeedFrame) : (sendFeed f s).store = s.store := by unfold sendFeed; split <;> rfl
@[simp] theorem sendFeed_clock (f : FeedFrame) : (sendFeed f s).clock = s.clock := by unfold sendFeed; split <;> rfl
@[simp] theorem sendFeed_lanes (f : FeedFrame) : (sendFeed f s).lanes = s.lanes := by unfold sendFeed; split <;> rfl
@[simp] theorem sendFeed_recent (f : FeedFrame) : (sendFeed f s).recent = s.recent := by unfold sendFeed; split <;> rfl
@[simp] theorem sendFeed_parser (f : FeedFrame) : (sendFeed f s).parser = s.parser := by unfold sendFeed; split <;> rfl
@[simp] theorem sendFeed_banks (f : FeedFrame) : (sendFeed f s).banks = s.banks := by unfold sendFeed; split <;> rfl
@[simp] theorem sendFeed_selection (f : FeedFrame) : (sendFeed f s).selection = s.selection := by unfold sendFeed; split <;> rfl
@[simp] theorem sendFeed_loadCounter (f : FeedFrame) : (sendFeed f s).loadCounter = s.loadCounter := by unfold sendFeed; split <;> rfl
@[simp] theorem sendFeed_filter (f : FeedFrame) : (sendFeed f s).filter = s.filter := by unfold sendFeed; split <;> rfl
@[simp] theorem sendFeed_openSegments (f : FeedFrame) : (sendFeed f s).openSegments = s.openSegments := by unfold sendFeed; split <;> rfl
@[simp] theorem sendFeed_buffers (f : FeedFrame) : (sendFeed f s).buffers = s.buffers := by unfold sendFeed; split <;> rfl
@[simp] theorem sendFeed_stall (f : FeedFrame) : (sendFeed f s).stall = s.stall := by unfold sendFeed; split <;> rfl
@[simp] theorem sendFeed_catalogFull (f : FeedFrame) : (sendFeed f s).catalogFull = s.catalogFull := by unfold sendFeed; split <;> rfl
@[simp] theorem sendFeed_storeFull (f : FeedFrame) : (sendFeed f s).storeFull = s.storeFull := by unfold sendFeed; split <;> rfl
@[simp] theorem sendFeed_writeQueue (f : FeedFrame) : (sendFeed f s).writeQueue = s.writeQueue := by unfold sendFeed; split <;> rfl
@[simp] theorem sendFeed_fullWaits (f : FeedFrame) : (sendFeed f s).fullWaits = s.fullWaits := by unfold sendFeed; split <;> rfl
@[simp] theorem sendFeed_catalog (f : FeedFrame) : (sendFeed f s).catalog = s.catalog := by unfold sendFeed; split <;> rfl
@[simp] theorem sendFeed_stateCounts (f : FeedFrame) : (sendFeed f s).stateCounts = s.stateCounts := by unfold sendFeed; split <;> rfl
@[simp] theorem sendFeed_freeIds (f : FeedFrame) : (sendFeed f s).freeIds = s.freeIds := by unfold sendFeed; split <;> rfl
@[simp] theorem sendFeed_tags (f : FeedFrame) : (sendFeed f s).tags = s.tags := by unfold sendFeed; split <;> rfl
@[simp] theorem sendFeed_lastTag (f : FeedFrame) : (sendFeed f s).lastTag = s.lastTag := by unfold sendFeed; split <;> rfl
@[simp] theorem sendFeed_turn (f : FeedFrame) : (sendFeed f s).turn = s.turn := by unfold sendFeed; split <;> rfl
@[simp] theorem sendFeed_strayFrames (f : FeedFrame) : (sendFeed f s).strayFrames = s.strayFrames := by unfold sendFeed; split <;> rfl
@[simp] theorem sendFeed_holds (f : FeedFrame) : (sendFeed f s).holds = s.holds := by unfold sendFeed; split <;> rfl
@[simp] theorem sendFeed_pendingHolds (f : FeedFrame) : (sendFeed f s).pendingHolds = s.pendingHolds := by unfold sendFeed; split <;> rfl
@[simp] theorem sendFeed_sweeper (f : FeedFrame) : (sendFeed f s).sweeper = s.sweeper := by unfold sendFeed; split <;> rfl
@[simp] theorem sendFeed_verifier (f : FeedFrame) : (sendFeed f s).verifier = s.verifier := by unfold sendFeed; split <;> rfl
@[simp] theorem sendFeed_days (f : FeedFrame) : (sendFeed f s).days = s.days := by unfold sendFeed; split <;> rfl
@[simp] theorem sendFeed_unplaced (f : FeedFrame) : (sendFeed f s).unplaced = s.unplaced := by unfold sendFeed; split <;> rfl

@[simp] theorem sendFeed_feed_up (f : FeedFrame) : (sendFeed f s).feed.up = s.feed.up := by
  unfold sendFeed; split <;> rfl

@[simp] theorem sendStore_pending (fs : List StoreFrame) : (sendStore fs s).pending = s.pending := by unfold sendStore; split <;> rfl
@[simp] theorem sendStore_feedTx (fs : List StoreFrame) : (sendStore fs s).feedTx = s.feedTx := by unfold sendStore; split <;> rfl
@[simp] theorem sendStore_device (fs : List StoreFrame) : (sendStore fs s).device = s.device := by unfold sendStore; split <;> rfl
@[simp] theorem sendStore_runTime (fs : List StoreFrame) : (sendStore fs s).runTime = s.runTime := by unfold sendStore; split <;> rfl
@[simp] theorem sendStore_params (fs : List StoreFrame) : (sendStore fs s).params = s.params := by unfold sendStore; split <;> rfl
@[simp] theorem sendStore_control (fs : List StoreFrame) : (sendStore fs s).control = s.control := by unfold sendStore; split <;> rfl
@[simp] theorem sendStore_reports (fs : List StoreFrame) : (sendStore fs s).reports = s.reports := by unfold sendStore; split <;> rfl
@[simp] theorem sendStore_feed (fs : List StoreFrame) : (sendStore fs s).feed = s.feed := by unfold sendStore; split <;> rfl
@[simp] theorem sendStore_clock (fs : List StoreFrame) : (sendStore fs s).clock = s.clock := by unfold sendStore; split <;> rfl
@[simp] theorem sendStore_lanes (fs : List StoreFrame) : (sendStore fs s).lanes = s.lanes := by unfold sendStore; split <;> rfl
@[simp] theorem sendStore_recent (fs : List StoreFrame) : (sendStore fs s).recent = s.recent := by unfold sendStore; split <;> rfl
@[simp] theorem sendStore_parser (fs : List StoreFrame) : (sendStore fs s).parser = s.parser := by unfold sendStore; split <;> rfl
@[simp] theorem sendStore_banks (fs : List StoreFrame) : (sendStore fs s).banks = s.banks := by unfold sendStore; split <;> rfl
@[simp] theorem sendStore_selection (fs : List StoreFrame) : (sendStore fs s).selection = s.selection := by unfold sendStore; split <;> rfl
@[simp] theorem sendStore_loadCounter (fs : List StoreFrame) : (sendStore fs s).loadCounter = s.loadCounter := by unfold sendStore; split <;> rfl
@[simp] theorem sendStore_filter (fs : List StoreFrame) : (sendStore fs s).filter = s.filter := by unfold sendStore; split <;> rfl
@[simp] theorem sendStore_openSegments (fs : List StoreFrame) : (sendStore fs s).openSegments = s.openSegments := by unfold sendStore; split <;> rfl
@[simp] theorem sendStore_buffers (fs : List StoreFrame) : (sendStore fs s).buffers = s.buffers := by unfold sendStore; split <;> rfl
@[simp] theorem sendStore_stall (fs : List StoreFrame) : (sendStore fs s).stall = s.stall := by unfold sendStore; split <;> rfl
@[simp] theorem sendStore_catalogFull (fs : List StoreFrame) : (sendStore fs s).catalogFull = s.catalogFull := by unfold sendStore; split <;> rfl
@[simp] theorem sendStore_storeFull (fs : List StoreFrame) : (sendStore fs s).storeFull = s.storeFull := by unfold sendStore; split <;> rfl
@[simp] theorem sendStore_writeQueue (fs : List StoreFrame) : (sendStore fs s).writeQueue = s.writeQueue := by unfold sendStore; split <;> rfl
@[simp] theorem sendStore_fullWaits (fs : List StoreFrame) : (sendStore fs s).fullWaits = s.fullWaits := by unfold sendStore; split <;> rfl
@[simp] theorem sendStore_catalog (fs : List StoreFrame) : (sendStore fs s).catalog = s.catalog := by unfold sendStore; split <;> rfl
@[simp] theorem sendStore_stateCounts (fs : List StoreFrame) : (sendStore fs s).stateCounts = s.stateCounts := by unfold sendStore; split <;> rfl
@[simp] theorem sendStore_freeIds (fs : List StoreFrame) : (sendStore fs s).freeIds = s.freeIds := by unfold sendStore; split <;> rfl
@[simp] theorem sendStore_tags (fs : List StoreFrame) : (sendStore fs s).tags = s.tags := by unfold sendStore; split <;> rfl
@[simp] theorem sendStore_lastTag (fs : List StoreFrame) : (sendStore fs s).lastTag = s.lastTag := by unfold sendStore; split <;> rfl
@[simp] theorem sendStore_turn (fs : List StoreFrame) : (sendStore fs s).turn = s.turn := by unfold sendStore; split <;> rfl
@[simp] theorem sendStore_strayFrames (fs : List StoreFrame) : (sendStore fs s).strayFrames = s.strayFrames := by unfold sendStore; split <;> rfl
@[simp] theorem sendStore_holds (fs : List StoreFrame) : (sendStore fs s).holds = s.holds := by unfold sendStore; split <;> rfl
@[simp] theorem sendStore_pendingHolds (fs : List StoreFrame) : (sendStore fs s).pendingHolds = s.pendingHolds := by unfold sendStore; split <;> rfl
@[simp] theorem sendStore_sweeper (fs : List StoreFrame) : (sendStore fs s).sweeper = s.sweeper := by unfold sendStore; split <;> rfl
@[simp] theorem sendStore_verifier (fs : List StoreFrame) : (sendStore fs s).verifier = s.verifier := by unfold sendStore; split <;> rfl
@[simp] theorem sendStore_days (fs : List StoreFrame) : (sendStore fs s).days = s.days := by unfold sendStore; split <;> rfl
@[simp] theorem sendStore_unplaced (fs : List StoreFrame) : (sendStore fs s).unplaced = s.unplaced := by unfold sendStore; split <;> rfl

@[simp] theorem sendStore_store_up (fs : List StoreFrame) : (sendStore fs s).store.up = s.store.up := by
  unfold sendStore; split <;> rfl

/-! ### Raising reports -/

@[simp] theorem enterReport_pending (r : Report) : (enterReport r s).pending = s.pending := rfl
@[simp] theorem enterReport_feedTx (r : Report) : (enterReport r s).feedTx = s.feedTx := rfl
@[simp] theorem enterReport_storeTx (r : Report) : (enterReport r s).storeTx = s.storeTx := rfl
@[simp] theorem enterReport_device (r : Report) : (enterReport r s).device = s.device := rfl
@[simp] theorem enterReport_runTime (r : Report) : (enterReport r s).runTime = s.runTime := rfl
@[simp] theorem enterReport_params (r : Report) : (enterReport r s).params = s.params := rfl
@[simp] theorem enterReport_control (r : Report) : (enterReport r s).control = s.control := rfl
@[simp] theorem enterReport_feed (r : Report) : (enterReport r s).feed = s.feed := rfl
@[simp] theorem enterReport_store (r : Report) : (enterReport r s).store = s.store := rfl
@[simp] theorem enterReport_clock (r : Report) : (enterReport r s).clock = s.clock := rfl
@[simp] theorem enterReport_lanes (r : Report) : (enterReport r s).lanes = s.lanes := rfl
@[simp] theorem enterReport_recent (r : Report) : (enterReport r s).recent = s.recent := rfl
@[simp] theorem enterReport_parser (r : Report) : (enterReport r s).parser = s.parser := rfl
@[simp] theorem enterReport_banks (r : Report) : (enterReport r s).banks = s.banks := rfl
@[simp] theorem enterReport_selection (r : Report) : (enterReport r s).selection = s.selection := rfl
@[simp] theorem enterReport_loadCounter (r : Report) : (enterReport r s).loadCounter = s.loadCounter := rfl
@[simp] theorem enterReport_filter (r : Report) : (enterReport r s).filter = s.filter := rfl
@[simp] theorem enterReport_openSegments (r : Report) : (enterReport r s).openSegments = s.openSegments := rfl
@[simp] theorem enterReport_buffers (r : Report) : (enterReport r s).buffers = s.buffers := rfl
@[simp] theorem enterReport_stall (r : Report) : (enterReport r s).stall = s.stall := rfl
@[simp] theorem enterReport_catalogFull (r : Report) : (enterReport r s).catalogFull = s.catalogFull := rfl
@[simp] theorem enterReport_storeFull (r : Report) : (enterReport r s).storeFull = s.storeFull := rfl
@[simp] theorem enterReport_writeQueue (r : Report) : (enterReport r s).writeQueue = s.writeQueue := rfl
@[simp] theorem enterReport_fullWaits (r : Report) : (enterReport r s).fullWaits = s.fullWaits := rfl
@[simp] theorem enterReport_catalog (r : Report) : (enterReport r s).catalog = s.catalog := rfl
@[simp] theorem enterReport_stateCounts (r : Report) : (enterReport r s).stateCounts = s.stateCounts := rfl
@[simp] theorem enterReport_freeIds (r : Report) : (enterReport r s).freeIds = s.freeIds := rfl
@[simp] theorem enterReport_tags (r : Report) : (enterReport r s).tags = s.tags := rfl
@[simp] theorem enterReport_lastTag (r : Report) : (enterReport r s).lastTag = s.lastTag := rfl
@[simp] theorem enterReport_turn (r : Report) : (enterReport r s).turn = s.turn := rfl
@[simp] theorem enterReport_strayFrames (r : Report) : (enterReport r s).strayFrames = s.strayFrames := rfl
@[simp] theorem enterReport_holds (r : Report) : (enterReport r s).holds = s.holds := rfl
@[simp] theorem enterReport_pendingHolds (r : Report) : (enterReport r s).pendingHolds = s.pendingHolds := rfl
@[simp] theorem enterReport_sweeper (r : Report) : (enterReport r s).sweeper = s.sweeper := rfl
@[simp] theorem enterReport_verifier (r : Report) : (enterReport r s).verifier = s.verifier := rfl
@[simp] theorem enterReport_days (r : Report) : (enterReport r s).days = s.days := rfl
@[simp] theorem enterReport_unplaced (r : Report) : (enterReport r s).unplaced = s.unplaced := rfl

@[simp] theorem raiseOn_pending (d : Option Nat) (k : ReportKind) (u : Option Nat) (a b c : Nat) : (raiseOn d k u a b c s).pending = s.pending := by unfold raiseOn; split <;> rfl
@[simp] theorem raiseOn_feedTx (d : Option Nat) (k : ReportKind) (u : Option Nat) (a b c : Nat) : (raiseOn d k u a b c s).feedTx = s.feedTx := by unfold raiseOn; split <;> rfl
@[simp] theorem raiseOn_storeTx (d : Option Nat) (k : ReportKind) (u : Option Nat) (a b c : Nat) : (raiseOn d k u a b c s).storeTx = s.storeTx := by unfold raiseOn; split <;> rfl
@[simp] theorem raiseOn_device (d : Option Nat) (k : ReportKind) (u : Option Nat) (a b c : Nat) : (raiseOn d k u a b c s).device = s.device := by unfold raiseOn; split <;> rfl
@[simp] theorem raiseOn_runTime (d : Option Nat) (k : ReportKind) (u : Option Nat) (a b c : Nat) : (raiseOn d k u a b c s).runTime = s.runTime := by unfold raiseOn; split <;> rfl
@[simp] theorem raiseOn_params (d : Option Nat) (k : ReportKind) (u : Option Nat) (a b c : Nat) : (raiseOn d k u a b c s).params = s.params := by unfold raiseOn; split <;> rfl
@[simp] theorem raiseOn_control (d : Option Nat) (k : ReportKind) (u : Option Nat) (a b c : Nat) : (raiseOn d k u a b c s).control = s.control := by unfold raiseOn; split <;> rfl
@[simp] theorem raiseOn_feed (d : Option Nat) (k : ReportKind) (u : Option Nat) (a b c : Nat) : (raiseOn d k u a b c s).feed = s.feed := by unfold raiseOn; split <;> rfl
@[simp] theorem raiseOn_store (d : Option Nat) (k : ReportKind) (u : Option Nat) (a b c : Nat) : (raiseOn d k u a b c s).store = s.store := by unfold raiseOn; split <;> rfl
@[simp] theorem raiseOn_clock (d : Option Nat) (k : ReportKind) (u : Option Nat) (a b c : Nat) : (raiseOn d k u a b c s).clock = s.clock := by unfold raiseOn; split <;> rfl
@[simp] theorem raiseOn_lanes (d : Option Nat) (k : ReportKind) (u : Option Nat) (a b c : Nat) : (raiseOn d k u a b c s).lanes = s.lanes := by unfold raiseOn; split <;> rfl
@[simp] theorem raiseOn_recent (d : Option Nat) (k : ReportKind) (u : Option Nat) (a b c : Nat) : (raiseOn d k u a b c s).recent = s.recent := by unfold raiseOn; split <;> rfl
@[simp] theorem raiseOn_parser (d : Option Nat) (k : ReportKind) (u : Option Nat) (a b c : Nat) : (raiseOn d k u a b c s).parser = s.parser := by unfold raiseOn; split <;> rfl
@[simp] theorem raiseOn_banks (d : Option Nat) (k : ReportKind) (u : Option Nat) (a b c : Nat) : (raiseOn d k u a b c s).banks = s.banks := by unfold raiseOn; split <;> rfl
@[simp] theorem raiseOn_selection (d : Option Nat) (k : ReportKind) (u : Option Nat) (a b c : Nat) : (raiseOn d k u a b c s).selection = s.selection := by unfold raiseOn; split <;> rfl
@[simp] theorem raiseOn_loadCounter (d : Option Nat) (k : ReportKind) (u : Option Nat) (a b c : Nat) : (raiseOn d k u a b c s).loadCounter = s.loadCounter := by unfold raiseOn; split <;> rfl
@[simp] theorem raiseOn_filter (d : Option Nat) (k : ReportKind) (u : Option Nat) (a b c : Nat) : (raiseOn d k u a b c s).filter = s.filter := by unfold raiseOn; split <;> rfl
@[simp] theorem raiseOn_openSegments (d : Option Nat) (k : ReportKind) (u : Option Nat) (a b c : Nat) : (raiseOn d k u a b c s).openSegments = s.openSegments := by unfold raiseOn; split <;> rfl
@[simp] theorem raiseOn_buffers (d : Option Nat) (k : ReportKind) (u : Option Nat) (a b c : Nat) : (raiseOn d k u a b c s).buffers = s.buffers := by unfold raiseOn; split <;> rfl
@[simp] theorem raiseOn_stall (d : Option Nat) (k : ReportKind) (u : Option Nat) (a b c : Nat) : (raiseOn d k u a b c s).stall = s.stall := by unfold raiseOn; split <;> rfl
@[simp] theorem raiseOn_catalogFull (d : Option Nat) (k : ReportKind) (u : Option Nat) (a b c : Nat) : (raiseOn d k u a b c s).catalogFull = s.catalogFull := by unfold raiseOn; split <;> rfl
@[simp] theorem raiseOn_storeFull (d : Option Nat) (k : ReportKind) (u : Option Nat) (a b c : Nat) : (raiseOn d k u a b c s).storeFull = s.storeFull := by unfold raiseOn; split <;> rfl
@[simp] theorem raiseOn_writeQueue (d : Option Nat) (k : ReportKind) (u : Option Nat) (a b c : Nat) : (raiseOn d k u a b c s).writeQueue = s.writeQueue := by unfold raiseOn; split <;> rfl
@[simp] theorem raiseOn_fullWaits (d : Option Nat) (k : ReportKind) (u : Option Nat) (a b c : Nat) : (raiseOn d k u a b c s).fullWaits = s.fullWaits := by unfold raiseOn; split <;> rfl
@[simp] theorem raiseOn_catalog (d : Option Nat) (k : ReportKind) (u : Option Nat) (a b c : Nat) : (raiseOn d k u a b c s).catalog = s.catalog := by unfold raiseOn; split <;> rfl
@[simp] theorem raiseOn_stateCounts (d : Option Nat) (k : ReportKind) (u : Option Nat) (a b c : Nat) : (raiseOn d k u a b c s).stateCounts = s.stateCounts := by unfold raiseOn; split <;> rfl
@[simp] theorem raiseOn_freeIds (d : Option Nat) (k : ReportKind) (u : Option Nat) (a b c : Nat) : (raiseOn d k u a b c s).freeIds = s.freeIds := by unfold raiseOn; split <;> rfl
@[simp] theorem raiseOn_tags (d : Option Nat) (k : ReportKind) (u : Option Nat) (a b c : Nat) : (raiseOn d k u a b c s).tags = s.tags := by unfold raiseOn; split <;> rfl
@[simp] theorem raiseOn_lastTag (d : Option Nat) (k : ReportKind) (u : Option Nat) (a b c : Nat) : (raiseOn d k u a b c s).lastTag = s.lastTag := by unfold raiseOn; split <;> rfl
@[simp] theorem raiseOn_turn (d : Option Nat) (k : ReportKind) (u : Option Nat) (a b c : Nat) : (raiseOn d k u a b c s).turn = s.turn := by unfold raiseOn; split <;> rfl
@[simp] theorem raiseOn_strayFrames (d : Option Nat) (k : ReportKind) (u : Option Nat) (a b c : Nat) : (raiseOn d k u a b c s).strayFrames = s.strayFrames := by unfold raiseOn; split <;> rfl
@[simp] theorem raiseOn_holds (d : Option Nat) (k : ReportKind) (u : Option Nat) (a b c : Nat) : (raiseOn d k u a b c s).holds = s.holds := by unfold raiseOn; split <;> rfl
@[simp] theorem raiseOn_pendingHolds (d : Option Nat) (k : ReportKind) (u : Option Nat) (a b c : Nat) : (raiseOn d k u a b c s).pendingHolds = s.pendingHolds := by unfold raiseOn; split <;> rfl
@[simp] theorem raiseOn_sweeper (d : Option Nat) (k : ReportKind) (u : Option Nat) (a b c : Nat) : (raiseOn d k u a b c s).sweeper = s.sweeper := by unfold raiseOn; split <;> rfl
@[simp] theorem raiseOn_verifier (d : Option Nat) (k : ReportKind) (u : Option Nat) (a b c : Nat) : (raiseOn d k u a b c s).verifier = s.verifier := by unfold raiseOn; split <;> rfl
@[simp] theorem raiseOn_days (d : Option Nat) (k : ReportKind) (u : Option Nat) (a b c : Nat) : (raiseOn d k u a b c s).days = s.days := by unfold raiseOn; split <;> rfl
@[simp] theorem raiseOn_unplaced (d : Option Nat) (k : ReportKind) (u : Option Nat) (a b c : Nat) : (raiseOn d k u a b c s).unplaced = s.unplaced := by unfold raiseOn; split <;> rfl

@[simp] theorem raise_pending (k : ReportKind) (u : Option Nat) (a b c : Nat) : (raise k u a b c s).pending = s.pending := by simp [raise]
@[simp] theorem raise_feedTx (k : ReportKind) (u : Option Nat) (a b c : Nat) : (raise k u a b c s).feedTx = s.feedTx := by simp [raise]
@[simp] theorem raise_storeTx (k : ReportKind) (u : Option Nat) (a b c : Nat) : (raise k u a b c s).storeTx = s.storeTx := by simp [raise]
@[simp] theorem raise_device (k : ReportKind) (u : Option Nat) (a b c : Nat) : (raise k u a b c s).device = s.device := by simp [raise]
@[simp] theorem raise_runTime (k : ReportKind) (u : Option Nat) (a b c : Nat) : (raise k u a b c s).runTime = s.runTime := by simp [raise]
@[simp] theorem raise_params (k : ReportKind) (u : Option Nat) (a b c : Nat) : (raise k u a b c s).params = s.params := by simp [raise]
@[simp] theorem raise_control (k : ReportKind) (u : Option Nat) (a b c : Nat) : (raise k u a b c s).control = s.control := by simp [raise]
@[simp] theorem raise_feed (k : ReportKind) (u : Option Nat) (a b c : Nat) : (raise k u a b c s).feed = s.feed := by simp [raise]
@[simp] theorem raise_store (k : ReportKind) (u : Option Nat) (a b c : Nat) : (raise k u a b c s).store = s.store := by simp [raise]
@[simp] theorem raise_clock (k : ReportKind) (u : Option Nat) (a b c : Nat) : (raise k u a b c s).clock = s.clock := by simp [raise]
@[simp] theorem raise_lanes (k : ReportKind) (u : Option Nat) (a b c : Nat) : (raise k u a b c s).lanes = s.lanes := by simp [raise]
@[simp] theorem raise_recent (k : ReportKind) (u : Option Nat) (a b c : Nat) : (raise k u a b c s).recent = s.recent := by simp [raise]
@[simp] theorem raise_parser (k : ReportKind) (u : Option Nat) (a b c : Nat) : (raise k u a b c s).parser = s.parser := by simp [raise]
@[simp] theorem raise_banks (k : ReportKind) (u : Option Nat) (a b c : Nat) : (raise k u a b c s).banks = s.banks := by simp [raise]
@[simp] theorem raise_selection (k : ReportKind) (u : Option Nat) (a b c : Nat) : (raise k u a b c s).selection = s.selection := by simp [raise]
@[simp] theorem raise_loadCounter (k : ReportKind) (u : Option Nat) (a b c : Nat) : (raise k u a b c s).loadCounter = s.loadCounter := by simp [raise]
@[simp] theorem raise_filter (k : ReportKind) (u : Option Nat) (a b c : Nat) : (raise k u a b c s).filter = s.filter := by simp [raise]
@[simp] theorem raise_openSegments (k : ReportKind) (u : Option Nat) (a b c : Nat) : (raise k u a b c s).openSegments = s.openSegments := by simp [raise]
@[simp] theorem raise_buffers (k : ReportKind) (u : Option Nat) (a b c : Nat) : (raise k u a b c s).buffers = s.buffers := by simp [raise]
@[simp] theorem raise_stall (k : ReportKind) (u : Option Nat) (a b c : Nat) : (raise k u a b c s).stall = s.stall := by simp [raise]
@[simp] theorem raise_catalogFull (k : ReportKind) (u : Option Nat) (a b c : Nat) : (raise k u a b c s).catalogFull = s.catalogFull := by simp [raise]
@[simp] theorem raise_storeFull (k : ReportKind) (u : Option Nat) (a b c : Nat) : (raise k u a b c s).storeFull = s.storeFull := by simp [raise]
@[simp] theorem raise_writeQueue (k : ReportKind) (u : Option Nat) (a b c : Nat) : (raise k u a b c s).writeQueue = s.writeQueue := by simp [raise]
@[simp] theorem raise_fullWaits (k : ReportKind) (u : Option Nat) (a b c : Nat) : (raise k u a b c s).fullWaits = s.fullWaits := by simp [raise]
@[simp] theorem raise_catalog (k : ReportKind) (u : Option Nat) (a b c : Nat) : (raise k u a b c s).catalog = s.catalog := by simp [raise]
@[simp] theorem raise_stateCounts (k : ReportKind) (u : Option Nat) (a b c : Nat) : (raise k u a b c s).stateCounts = s.stateCounts := by simp [raise]
@[simp] theorem raise_freeIds (k : ReportKind) (u : Option Nat) (a b c : Nat) : (raise k u a b c s).freeIds = s.freeIds := by simp [raise]
@[simp] theorem raise_tags (k : ReportKind) (u : Option Nat) (a b c : Nat) : (raise k u a b c s).tags = s.tags := by simp [raise]
@[simp] theorem raise_lastTag (k : ReportKind) (u : Option Nat) (a b c : Nat) : (raise k u a b c s).lastTag = s.lastTag := by simp [raise]
@[simp] theorem raise_turn (k : ReportKind) (u : Option Nat) (a b c : Nat) : (raise k u a b c s).turn = s.turn := by simp [raise]
@[simp] theorem raise_strayFrames (k : ReportKind) (u : Option Nat) (a b c : Nat) : (raise k u a b c s).strayFrames = s.strayFrames := by simp [raise]
@[simp] theorem raise_holds (k : ReportKind) (u : Option Nat) (a b c : Nat) : (raise k u a b c s).holds = s.holds := by simp [raise]
@[simp] theorem raise_pendingHolds (k : ReportKind) (u : Option Nat) (a b c : Nat) : (raise k u a b c s).pendingHolds = s.pendingHolds := by simp [raise]
@[simp] theorem raise_sweeper (k : ReportKind) (u : Option Nat) (a b c : Nat) : (raise k u a b c s).sweeper = s.sweeper := by simp [raise]
@[simp] theorem raise_verifier (k : ReportKind) (u : Option Nat) (a b c : Nat) : (raise k u a b c s).verifier = s.verifier := by simp [raise]
@[simp] theorem raise_days (k : ReportKind) (u : Option Nat) (a b c : Nat) : (raise k u a b c s).days = s.days := by simp [raise]
@[simp] theorem raise_unplaced (k : ReportKind) (u : Option Nat) (a b c : Nat) : (raise k u a b c s).unplaced = s.unplaced := by simp [raise]

@[simp] theorem enterReport_entries (r : Report) :
    (enterReport r s).reports.entries = s.reports.entries ++ [r] := rfl

@[simp] theorem enterReport_lost (r : Report) : (enterReport r s).reports.lost = s.reports.lost := rfl

/-- A report raised with room in the queue enters at its tail (R180). -/
theorem raiseOn_entries_of_room (d : Option Nat) (k : ReportKind) (u : Option Nat) (a b c : Nat)
    (h : s.reports.entries.length < 64) :
    (raiseOn d k u a b c s).reports.entries
      = s.reports.entries ++ [{ kind := k, stamp := s.runTime, archiveDay := d, subject := u,
                                value1 := a, value2 := b, value3 := c }] := by
  simp [raiseOn, h]

/-- A report raised with the queue full is dropped and counted (R180). -/
theorem raiseOn_of_full (d : Option Nat) (k : ReportKind) (u : Option Nat) (a b c : Nat)
    (h : 64 ≤ s.reports.entries.length) :
    raiseOn d k u a b c s = { s with reports := { s.reports with lost := satAdd max32 s.reports.lost 1 } } := by
  simp [raiseOn, Nat.not_lt.2 h]

/-! ### Bundles -/

@[simp] theorem quietIfEmpty_pending : (quietIfEmpty s).pending = s.pending := by unfold quietIfEmpty; split <;> rfl
@[simp] theorem quietIfEmpty_feedTx : (quietIfEmpty s).feedTx = s.feedTx := by unfold quietIfEmpty; split <;> rfl
@[simp] theorem quietIfEmpty_storeTx : (quietIfEmpty s).storeTx = s.storeTx := by unfold quietIfEmpty; split <;> rfl
@[simp] theorem quietIfEmpty_device : (quietIfEmpty s).device = s.device := by unfold quietIfEmpty; split <;> rfl
@[simp] theorem quietIfEmpty_runTime : (quietIfEmpty s).runTime = s.runTime := by unfold quietIfEmpty; split <;> rfl
@[simp] theorem quietIfEmpty_params : (quietIfEmpty s).params = s.params := by unfold quietIfEmpty; split <;> rfl
@[simp] theorem quietIfEmpty_control : (quietIfEmpty s).control = s.control := by unfold quietIfEmpty; split <;> rfl
@[simp] theorem quietIfEmpty_feed : (quietIfEmpty s).feed = s.feed := by unfold quietIfEmpty; split <;> rfl
@[simp] theorem quietIfEmpty_store : (quietIfEmpty s).store = s.store := by unfold quietIfEmpty; split <;> rfl
@[simp] theorem quietIfEmpty_clock : (quietIfEmpty s).clock = s.clock := by unfold quietIfEmpty; split <;> rfl
@[simp] theorem quietIfEmpty_lanes : (quietIfEmpty s).lanes = s.lanes := by unfold quietIfEmpty; split <;> rfl
@[simp] theorem quietIfEmpty_recent : (quietIfEmpty s).recent = s.recent := by unfold quietIfEmpty; split <;> rfl
@[simp] theorem quietIfEmpty_parser : (quietIfEmpty s).parser = s.parser := by unfold quietIfEmpty; split <;> rfl
@[simp] theorem quietIfEmpty_banks : (quietIfEmpty s).banks = s.banks := by unfold quietIfEmpty; split <;> rfl
@[simp] theorem quietIfEmpty_selection : (quietIfEmpty s).selection = s.selection := by unfold quietIfEmpty; split <;> rfl
@[simp] theorem quietIfEmpty_loadCounter : (quietIfEmpty s).loadCounter = s.loadCounter := by unfold quietIfEmpty; split <;> rfl
@[simp] theorem quietIfEmpty_filter : (quietIfEmpty s).filter = s.filter := by unfold quietIfEmpty; split <;> rfl
@[simp] theorem quietIfEmpty_openSegments : (quietIfEmpty s).openSegments = s.openSegments := by unfold quietIfEmpty; split <;> rfl
@[simp] theorem quietIfEmpty_buffers : (quietIfEmpty s).buffers = s.buffers := by unfold quietIfEmpty; split <;> rfl
@[simp] theorem quietIfEmpty_stall : (quietIfEmpty s).stall = s.stall := by unfold quietIfEmpty; split <;> rfl
@[simp] theorem quietIfEmpty_catalogFull : (quietIfEmpty s).catalogFull = s.catalogFull := by unfold quietIfEmpty; split <;> rfl
@[simp] theorem quietIfEmpty_storeFull : (quietIfEmpty s).storeFull = s.storeFull := by unfold quietIfEmpty; split <;> rfl
@[simp] theorem quietIfEmpty_writeQueue : (quietIfEmpty s).writeQueue = s.writeQueue := by unfold quietIfEmpty; split <;> rfl
@[simp] theorem quietIfEmpty_fullWaits : (quietIfEmpty s).fullWaits = s.fullWaits := by unfold quietIfEmpty; split <;> rfl
@[simp] theorem quietIfEmpty_catalog : (quietIfEmpty s).catalog = s.catalog := by unfold quietIfEmpty; split <;> rfl
@[simp] theorem quietIfEmpty_stateCounts : (quietIfEmpty s).stateCounts = s.stateCounts := by unfold quietIfEmpty; split <;> rfl
@[simp] theorem quietIfEmpty_freeIds : (quietIfEmpty s).freeIds = s.freeIds := by unfold quietIfEmpty; split <;> rfl
@[simp] theorem quietIfEmpty_tags : (quietIfEmpty s).tags = s.tags := by unfold quietIfEmpty; split <;> rfl
@[simp] theorem quietIfEmpty_lastTag : (quietIfEmpty s).lastTag = s.lastTag := by unfold quietIfEmpty; split <;> rfl
@[simp] theorem quietIfEmpty_turn : (quietIfEmpty s).turn = s.turn := by unfold quietIfEmpty; split <;> rfl
@[simp] theorem quietIfEmpty_strayFrames : (quietIfEmpty s).strayFrames = s.strayFrames := by unfold quietIfEmpty; split <;> rfl
@[simp] theorem quietIfEmpty_holds : (quietIfEmpty s).holds = s.holds := by unfold quietIfEmpty; split <;> rfl
@[simp] theorem quietIfEmpty_pendingHolds : (quietIfEmpty s).pendingHolds = s.pendingHolds := by unfold quietIfEmpty; split <;> rfl
@[simp] theorem quietIfEmpty_sweeper : (quietIfEmpty s).sweeper = s.sweeper := by unfold quietIfEmpty; split <;> rfl
@[simp] theorem quietIfEmpty_verifier : (quietIfEmpty s).verifier = s.verifier := by unfold quietIfEmpty; split <;> rfl
@[simp] theorem quietIfEmpty_days : (quietIfEmpty s).days = s.days := by unfold quietIfEmpty; split <;> rfl
@[simp] theorem quietIfEmpty_unplaced : (quietIfEmpty s).unplaced = s.unplaced := by unfold quietIfEmpty; split <;> rfl

@[simp] theorem enterLost_pending : (enterLost s).pending = s.pending := by unfold enterLost; split <;> rfl
@[simp] theorem enterLost_feedTx : (enterLost s).feedTx = s.feedTx := by unfold enterLost; split <;> rfl
@[simp] theorem enterLost_storeTx : (enterLost s).storeTx = s.storeTx := by unfold enterLost; split <;> rfl
@[simp] theorem enterLost_device : (enterLost s).device = s.device := by unfold enterLost; split <;> rfl
@[simp] theorem enterLost_runTime : (enterLost s).runTime = s.runTime := by unfold enterLost; split <;> rfl
@[simp] theorem enterLost_params : (enterLost s).params = s.params := by unfold enterLost; split <;> rfl
@[simp] theorem enterLost_control : (enterLost s).control = s.control := by unfold enterLost; split <;> rfl
@[simp] theorem enterLost_feed : (enterLost s).feed = s.feed := by unfold enterLost; split <;> rfl
@[simp] theorem enterLost_store : (enterLost s).store = s.store := by unfold enterLost; split <;> rfl
@[simp] theorem enterLost_clock : (enterLost s).clock = s.clock := by unfold enterLost; split <;> rfl
@[simp] theorem enterLost_lanes : (enterLost s).lanes = s.lanes := by unfold enterLost; split <;> rfl
@[simp] theorem enterLost_recent : (enterLost s).recent = s.recent := by unfold enterLost; split <;> rfl
@[simp] theorem enterLost_parser : (enterLost s).parser = s.parser := by unfold enterLost; split <;> rfl
@[simp] theorem enterLost_banks : (enterLost s).banks = s.banks := by unfold enterLost; split <;> rfl
@[simp] theorem enterLost_selection : (enterLost s).selection = s.selection := by unfold enterLost; split <;> rfl
@[simp] theorem enterLost_loadCounter : (enterLost s).loadCounter = s.loadCounter := by unfold enterLost; split <;> rfl
@[simp] theorem enterLost_filter : (enterLost s).filter = s.filter := by unfold enterLost; split <;> rfl
@[simp] theorem enterLost_openSegments : (enterLost s).openSegments = s.openSegments := by unfold enterLost; split <;> rfl
@[simp] theorem enterLost_buffers : (enterLost s).buffers = s.buffers := by unfold enterLost; split <;> rfl
@[simp] theorem enterLost_stall : (enterLost s).stall = s.stall := by unfold enterLost; split <;> rfl
@[simp] theorem enterLost_catalogFull : (enterLost s).catalogFull = s.catalogFull := by unfold enterLost; split <;> rfl
@[simp] theorem enterLost_storeFull : (enterLost s).storeFull = s.storeFull := by unfold enterLost; split <;> rfl
@[simp] theorem enterLost_writeQueue : (enterLost s).writeQueue = s.writeQueue := by unfold enterLost; split <;> rfl
@[simp] theorem enterLost_fullWaits : (enterLost s).fullWaits = s.fullWaits := by unfold enterLost; split <;> rfl
@[simp] theorem enterLost_catalog : (enterLost s).catalog = s.catalog := by unfold enterLost; split <;> rfl
@[simp] theorem enterLost_stateCounts : (enterLost s).stateCounts = s.stateCounts := by unfold enterLost; split <;> rfl
@[simp] theorem enterLost_freeIds : (enterLost s).freeIds = s.freeIds := by unfold enterLost; split <;> rfl
@[simp] theorem enterLost_tags : (enterLost s).tags = s.tags := by unfold enterLost; split <;> rfl
@[simp] theorem enterLost_lastTag : (enterLost s).lastTag = s.lastTag := by unfold enterLost; split <;> rfl
@[simp] theorem enterLost_turn : (enterLost s).turn = s.turn := by unfold enterLost; split <;> rfl
@[simp] theorem enterLost_strayFrames : (enterLost s).strayFrames = s.strayFrames := by unfold enterLost; split <;> rfl
@[simp] theorem enterLost_holds : (enterLost s).holds = s.holds := by unfold enterLost; split <;> rfl
@[simp] theorem enterLost_pendingHolds : (enterLost s).pendingHolds = s.pendingHolds := by unfold enterLost; split <;> rfl
@[simp] theorem enterLost_sweeper : (enterLost s).sweeper = s.sweeper := by unfold enterLost; split <;> rfl
@[simp] theorem enterLost_verifier : (enterLost s).verifier = s.verifier := by unfold enterLost; split <;> rfl
@[simp] theorem enterLost_days : (enterLost s).days = s.days := by unfold enterLost; split <;> rfl
@[simp] theorem enterLost_unplaced : (enterLost s).unplaced = s.unplaced := by unfold enterLost; split <;> rfl

@[simp] theorem sendBundle_pending : (sendBundle s).pending = s.pending := by simp [sendBundle]
@[simp] theorem sendBundle_storeTx : (sendBundle s).storeTx = s.storeTx := by simp [sendBundle]
@[simp] theorem sendBundle_device : (sendBundle s).device = s.device := by simp [sendBundle]
@[simp] theorem sendBundle_runTime : (sendBundle s).runTime = s.runTime := by simp [sendBundle]
@[simp] theorem sendBundle_params : (sendBundle s).params = s.params := by simp [sendBundle]
@[simp] theorem sendBundle_control : (sendBundle s).control = s.control := by simp [sendBundle]
@[simp] theorem sendBundle_store : (sendBundle s).store = s.store := by simp [sendBundle]
@[simp] theorem sendBundle_clock : (sendBundle s).clock = s.clock := by simp [sendBundle]
@[simp] theorem sendBundle_lanes : (sendBundle s).lanes = s.lanes := by simp [sendBundle]
@[simp] theorem sendBundle_recent : (sendBundle s).recent = s.recent := by simp [sendBundle]
@[simp] theorem sendBundle_parser : (sendBundle s).parser = s.parser := by simp [sendBundle]
@[simp] theorem sendBundle_banks : (sendBundle s).banks = s.banks := by simp [sendBundle]
@[simp] theorem sendBundle_selection : (sendBundle s).selection = s.selection := by simp [sendBundle]
@[simp] theorem sendBundle_loadCounter : (sendBundle s).loadCounter = s.loadCounter := by simp [sendBundle]
@[simp] theorem sendBundle_filter : (sendBundle s).filter = s.filter := by simp [sendBundle]
@[simp] theorem sendBundle_openSegments : (sendBundle s).openSegments = s.openSegments := by simp [sendBundle]
@[simp] theorem sendBundle_buffers : (sendBundle s).buffers = s.buffers := by simp [sendBundle]
@[simp] theorem sendBundle_stall : (sendBundle s).stall = s.stall := by simp [sendBundle]
@[simp] theorem sendBundle_catalogFull : (sendBundle s).catalogFull = s.catalogFull := by simp [sendBundle]
@[simp] theorem sendBundle_storeFull : (sendBundle s).storeFull = s.storeFull := by simp [sendBundle]
@[simp] theorem sendBundle_writeQueue : (sendBundle s).writeQueue = s.writeQueue := by simp [sendBundle]
@[simp] theorem sendBundle_fullWaits : (sendBundle s).fullWaits = s.fullWaits := by simp [sendBundle]
@[simp] theorem sendBundle_catalog : (sendBundle s).catalog = s.catalog := by simp [sendBundle]
@[simp] theorem sendBundle_stateCounts : (sendBundle s).stateCounts = s.stateCounts := by simp [sendBundle]
@[simp] theorem sendBundle_freeIds : (sendBundle s).freeIds = s.freeIds := by simp [sendBundle]
@[simp] theorem sendBundle_tags : (sendBundle s).tags = s.tags := by simp [sendBundle]
@[simp] theorem sendBundle_lastTag : (sendBundle s).lastTag = s.lastTag := by simp [sendBundle]
@[simp] theorem sendBundle_turn : (sendBundle s).turn = s.turn := by simp [sendBundle]
@[simp] theorem sendBundle_strayFrames : (sendBundle s).strayFrames = s.strayFrames := by simp [sendBundle]
@[simp] theorem sendBundle_holds : (sendBundle s).holds = s.holds := by simp [sendBundle]
@[simp] theorem sendBundle_pendingHolds : (sendBundle s).pendingHolds = s.pendingHolds := by simp [sendBundle]
@[simp] theorem sendBundle_sweeper : (sendBundle s).sweeper = s.sweeper := by simp [sendBundle]
@[simp] theorem sendBundle_verifier : (sendBundle s).verifier = s.verifier := by simp [sendBundle]
@[simp] theorem sendBundle_days : (sendBundle s).days = s.days := by simp [sendBundle]
@[simp] theorem sendBundle_unplaced : (sendBundle s).unplaced = s.unplaced := by simp [sendBundle]

@[simp] theorem sendBundle_feed_up : (sendBundle s).feed.up = s.feed.up := by simp [sendBundle]

@[simp] theorem sendBundles_pending (n : Nat) : (sendBundles n s).pending = s.pending := by
  induction n generalizing s with
  | zero => rfl
  | succ n ih => unfold sendBundles; split <;> simp [ih]

@[simp] theorem flushReports_pending : (flushReports s).pending = s.pending := by simp [flushReports]

@[simp] theorem sendBundles_storeTx (n : Nat) : (sendBundles n s).storeTx = s.storeTx := by
  induction n generalizing s with
  | zero => rfl
  | succ n ih => unfold sendBundles; split <;> simp [ih]

@[simp] theorem flushReports_storeTx : (flushReports s).storeTx = s.storeTx := by simp [flushReports]

@[simp] theorem sendBundles_device (n : Nat) : (sendBundles n s).device = s.device := by
  induction n generalizing s with
  | zero => rfl
  | succ n ih => unfold sendBundles; split <;> simp [ih]

@[simp] theorem flushReports_device : (flushReports s).device = s.device := by simp [flushReports]

@[simp] theorem sendBundles_runTime (n : Nat) : (sendBundles n s).runTime = s.runTime := by
  induction n generalizing s with
  | zero => rfl
  | succ n ih => unfold sendBundles; split <;> simp [ih]

@[simp] theorem flushReports_runTime : (flushReports s).runTime = s.runTime := by simp [flushReports]

@[simp] theorem sendBundles_params (n : Nat) : (sendBundles n s).params = s.params := by
  induction n generalizing s with
  | zero => rfl
  | succ n ih => unfold sendBundles; split <;> simp [ih]

@[simp] theorem flushReports_params : (flushReports s).params = s.params := by simp [flushReports]

@[simp] theorem sendBundles_control (n : Nat) : (sendBundles n s).control = s.control := by
  induction n generalizing s with
  | zero => rfl
  | succ n ih => unfold sendBundles; split <;> simp [ih]

@[simp] theorem flushReports_control : (flushReports s).control = s.control := by simp [flushReports]

@[simp] theorem sendBundles_store (n : Nat) : (sendBundles n s).store = s.store := by
  induction n generalizing s with
  | zero => rfl
  | succ n ih => unfold sendBundles; split <;> simp [ih]

@[simp] theorem flushReports_store : (flushReports s).store = s.store := by simp [flushReports]

@[simp] theorem sendBundles_clock (n : Nat) : (sendBundles n s).clock = s.clock := by
  induction n generalizing s with
  | zero => rfl
  | succ n ih => unfold sendBundles; split <;> simp [ih]

@[simp] theorem flushReports_clock : (flushReports s).clock = s.clock := by simp [flushReports]

@[simp] theorem sendBundles_lanes (n : Nat) : (sendBundles n s).lanes = s.lanes := by
  induction n generalizing s with
  | zero => rfl
  | succ n ih => unfold sendBundles; split <;> simp [ih]

@[simp] theorem flushReports_lanes : (flushReports s).lanes = s.lanes := by simp [flushReports]

@[simp] theorem sendBundles_recent (n : Nat) : (sendBundles n s).recent = s.recent := by
  induction n generalizing s with
  | zero => rfl
  | succ n ih => unfold sendBundles; split <;> simp [ih]

@[simp] theorem flushReports_recent : (flushReports s).recent = s.recent := by simp [flushReports]

@[simp] theorem sendBundles_parser (n : Nat) : (sendBundles n s).parser = s.parser := by
  induction n generalizing s with
  | zero => rfl
  | succ n ih => unfold sendBundles; split <;> simp [ih]

@[simp] theorem flushReports_parser : (flushReports s).parser = s.parser := by simp [flushReports]

@[simp] theorem sendBundles_banks (n : Nat) : (sendBundles n s).banks = s.banks := by
  induction n generalizing s with
  | zero => rfl
  | succ n ih => unfold sendBundles; split <;> simp [ih]

@[simp] theorem flushReports_banks : (flushReports s).banks = s.banks := by simp [flushReports]

@[simp] theorem sendBundles_selection (n : Nat) : (sendBundles n s).selection = s.selection := by
  induction n generalizing s with
  | zero => rfl
  | succ n ih => unfold sendBundles; split <;> simp [ih]

@[simp] theorem flushReports_selection : (flushReports s).selection = s.selection := by simp [flushReports]

@[simp] theorem sendBundles_loadCounter (n : Nat) : (sendBundles n s).loadCounter = s.loadCounter := by
  induction n generalizing s with
  | zero => rfl
  | succ n ih => unfold sendBundles; split <;> simp [ih]

@[simp] theorem flushReports_loadCounter : (flushReports s).loadCounter = s.loadCounter := by simp [flushReports]

@[simp] theorem sendBundles_filter (n : Nat) : (sendBundles n s).filter = s.filter := by
  induction n generalizing s with
  | zero => rfl
  | succ n ih => unfold sendBundles; split <;> simp [ih]

@[simp] theorem flushReports_filter : (flushReports s).filter = s.filter := by simp [flushReports]

@[simp] theorem sendBundles_openSegments (n : Nat) : (sendBundles n s).openSegments = s.openSegments := by
  induction n generalizing s with
  | zero => rfl
  | succ n ih => unfold sendBundles; split <;> simp [ih]

@[simp] theorem flushReports_openSegments : (flushReports s).openSegments = s.openSegments := by simp [flushReports]

@[simp] theorem sendBundles_buffers (n : Nat) : (sendBundles n s).buffers = s.buffers := by
  induction n generalizing s with
  | zero => rfl
  | succ n ih => unfold sendBundles; split <;> simp [ih]

@[simp] theorem flushReports_buffers : (flushReports s).buffers = s.buffers := by simp [flushReports]

@[simp] theorem sendBundles_stall (n : Nat) : (sendBundles n s).stall = s.stall := by
  induction n generalizing s with
  | zero => rfl
  | succ n ih => unfold sendBundles; split <;> simp [ih]

@[simp] theorem flushReports_stall : (flushReports s).stall = s.stall := by simp [flushReports]

@[simp] theorem sendBundles_catalogFull (n : Nat) : (sendBundles n s).catalogFull = s.catalogFull := by
  induction n generalizing s with
  | zero => rfl
  | succ n ih => unfold sendBundles; split <;> simp [ih]

@[simp] theorem flushReports_catalogFull : (flushReports s).catalogFull = s.catalogFull := by simp [flushReports]

@[simp] theorem sendBundles_storeFull (n : Nat) : (sendBundles n s).storeFull = s.storeFull := by
  induction n generalizing s with
  | zero => rfl
  | succ n ih => unfold sendBundles; split <;> simp [ih]

@[simp] theorem flushReports_storeFull : (flushReports s).storeFull = s.storeFull := by simp [flushReports]

@[simp] theorem sendBundles_writeQueue (n : Nat) : (sendBundles n s).writeQueue = s.writeQueue := by
  induction n generalizing s with
  | zero => rfl
  | succ n ih => unfold sendBundles; split <;> simp [ih]

@[simp] theorem flushReports_writeQueue : (flushReports s).writeQueue = s.writeQueue := by simp [flushReports]

@[simp] theorem sendBundles_fullWaits (n : Nat) : (sendBundles n s).fullWaits = s.fullWaits := by
  induction n generalizing s with
  | zero => rfl
  | succ n ih => unfold sendBundles; split <;> simp [ih]

@[simp] theorem flushReports_fullWaits : (flushReports s).fullWaits = s.fullWaits := by simp [flushReports]

@[simp] theorem sendBundles_catalog (n : Nat) : (sendBundles n s).catalog = s.catalog := by
  induction n generalizing s with
  | zero => rfl
  | succ n ih => unfold sendBundles; split <;> simp [ih]

@[simp] theorem flushReports_catalog : (flushReports s).catalog = s.catalog := by simp [flushReports]

@[simp] theorem sendBundles_stateCounts (n : Nat) : (sendBundles n s).stateCounts = s.stateCounts := by
  induction n generalizing s with
  | zero => rfl
  | succ n ih => unfold sendBundles; split <;> simp [ih]

@[simp] theorem flushReports_stateCounts : (flushReports s).stateCounts = s.stateCounts := by simp [flushReports]

@[simp] theorem sendBundles_freeIds (n : Nat) : (sendBundles n s).freeIds = s.freeIds := by
  induction n generalizing s with
  | zero => rfl
  | succ n ih => unfold sendBundles; split <;> simp [ih]

@[simp] theorem flushReports_freeIds : (flushReports s).freeIds = s.freeIds := by simp [flushReports]

@[simp] theorem sendBundles_tags (n : Nat) : (sendBundles n s).tags = s.tags := by
  induction n generalizing s with
  | zero => rfl
  | succ n ih => unfold sendBundles; split <;> simp [ih]

@[simp] theorem flushReports_tags : (flushReports s).tags = s.tags := by simp [flushReports]

@[simp] theorem sendBundles_lastTag (n : Nat) : (sendBundles n s).lastTag = s.lastTag := by
  induction n generalizing s with
  | zero => rfl
  | succ n ih => unfold sendBundles; split <;> simp [ih]

@[simp] theorem flushReports_lastTag : (flushReports s).lastTag = s.lastTag := by simp [flushReports]

@[simp] theorem sendBundles_turn (n : Nat) : (sendBundles n s).turn = s.turn := by
  induction n generalizing s with
  | zero => rfl
  | succ n ih => unfold sendBundles; split <;> simp [ih]

@[simp] theorem flushReports_turn : (flushReports s).turn = s.turn := by simp [flushReports]

@[simp] theorem sendBundles_strayFrames (n : Nat) : (sendBundles n s).strayFrames = s.strayFrames := by
  induction n generalizing s with
  | zero => rfl
  | succ n ih => unfold sendBundles; split <;> simp [ih]

@[simp] theorem flushReports_strayFrames : (flushReports s).strayFrames = s.strayFrames := by simp [flushReports]

@[simp] theorem sendBundles_holds (n : Nat) : (sendBundles n s).holds = s.holds := by
  induction n generalizing s with
  | zero => rfl
  | succ n ih => unfold sendBundles; split <;> simp [ih]

@[simp] theorem flushReports_holds : (flushReports s).holds = s.holds := by simp [flushReports]

@[simp] theorem sendBundles_pendingHolds (n : Nat) : (sendBundles n s).pendingHolds = s.pendingHolds := by
  induction n generalizing s with
  | zero => rfl
  | succ n ih => unfold sendBundles; split <;> simp [ih]

@[simp] theorem flushReports_pendingHolds : (flushReports s).pendingHolds = s.pendingHolds := by simp [flushReports]

@[simp] theorem sendBundles_sweeper (n : Nat) : (sendBundles n s).sweeper = s.sweeper := by
  induction n generalizing s with
  | zero => rfl
  | succ n ih => unfold sendBundles; split <;> simp [ih]

@[simp] theorem flushReports_sweeper : (flushReports s).sweeper = s.sweeper := by simp [flushReports]

@[simp] theorem sendBundles_verifier (n : Nat) : (sendBundles n s).verifier = s.verifier := by
  induction n generalizing s with
  | zero => rfl
  | succ n ih => unfold sendBundles; split <;> simp [ih]

@[simp] theorem flushReports_verifier : (flushReports s).verifier = s.verifier := by simp [flushReports]

@[simp] theorem sendBundles_days (n : Nat) : (sendBundles n s).days = s.days := by
  induction n generalizing s with
  | zero => rfl
  | succ n ih => unfold sendBundles; split <;> simp [ih]

@[simp] theorem flushReports_days : (flushReports s).days = s.days := by simp [flushReports]

@[simp] theorem sendBundles_unplaced (n : Nat) : (sendBundles n s).unplaced = s.unplaced := by
  induction n generalizing s with
  | zero => rfl
  | succ n ih => unfold sendBundles; split <;> simp [ih]

@[simp] theorem flushReports_unplaced : (flushReports s).unplaced = s.unplaced := by simp [flushReports]

/-- With no report waiting nothing is sent (R181). -/
theorem flushReports_of_empty (h : s.reports.entries = []) : flushReports s = s := by
  simp [flushReports, h, sendBundles, bundleDue]

/-- While the Feed link is DOWN bundles wait (R181). -/
theorem flushReports_of_down (h : s.feed.up = false) : flushReports s = s := by
  unfold flushReports
  cases hn : s.reports.entries.length + 2 with
  | zero => rfl
  | succ n => simp [sendBundles, bundleDue, h]

end Sys2Proof.Machine
end

