-- ==== Sys2Proof/Laws/Frames.lean ====
section
/-! SUPPORT. One lemma for each shared operation that names the fields it can change: the operation's result is the state
before it with those fields replaced. A field not named is unchanged, by `congrArg` of the lemma. -/

namespace Sys2Proof.Machine

variable (s : State)

theorem setPort_frame (p : PortId) (x : Port) :
    s.setPort p x = { s with feed := (s.setPort p x).feed, store := (s.setPort p x).store } := by cases p <;> rfl

theorem updateBufferOf_frame (id : Nat) (f : SegmentBuffer → SegmentBuffer) :
    s.updateBufferOf id f = { s with buffers := (s.updateBufferOf id f).buffers } := by
  unfold State.updateBufferOf; split <;> rfl

theorem refreshStall_frame : refreshStall s = { s with stall := (refreshStall s).stall } := by
  unfold refreshStall; split <;> rfl

theorem raiseOn_frame (d : Option Nat) (k : ReportKind) (u : Option Nat) (a b c : Nat) :
    raiseOn d k u a b c s = { s with reports := (raiseOn d k u a b c s).reports } := by
  unfold raiseOn; split <;> rfl

theorem clearCatalogFull_frame (id : Nat) :
    clearCatalogFull id s
      = { s with catalogFull := (clearCatalogFull id s).catalogFull, reports := (clearCatalogFull id s).reports } := by
  unfold clearCatalogFull raise raiseOn; split
  · split <;> rfl
  · rfl

theorem addReference_frame (b : Fin 4) : addReference b s = { s with banks := (addReference b s).banks } := rfl

theorem dropEntryReference_frame (e : CatalogEntry) :
    dropEntryReference e s = { s with banks := (dropEntryReference e s).banks } := by
  unfold dropEntryReference dropReference
  split
  · rfl
  · split <;> rfl

theorem addToDay_frame (day switch : Nat) (a : Accumulator) (n : Nat) :
    addToDay day switch a n s
      = { s with days := (addToDay day switch a n s).days, unplaced := (addToDay day switch a n s).unplaced
                 reports := (addToDay day switch a n s).reports } := by
  unfold addToDay raise raiseOn
  dsimp only
  split
  · rfl
  · split
    · split <;> rfl
    · rfl

theorem sealSegment_frame (g : OpenSegment) :
    sealSegment g s
      = { s with buffers := (sealSegment g s).buffers, openSegments := (sealSegment g s).openSegments
                 catalog := (sealSegment g s).catalog, stateCounts := (sealSegment g s).stateCounts
                 writeQueue := (sealSegment g s).writeQueue } := rfl

theorem sendFeed_frame (f : FeedFrame) :
    sendFeed f s = { s with feedTx := (sendFeed f s).feedTx, feed := (sendFeed f s).feed } := by
  unfold sendFeed; split <;> rfl

theorem sendStore_frame (fs : List StoreFrame) :
    sendStore fs s = { s with storeTx := (sendStore fs s).storeTx, store := (sendStore fs s).store } := by
  unfold sendStore; split <;> rfl

theorem pauseLane_frame (l : Fin 16) :
    pauseLane l s
      = { s with lanes := (pauseLane l s).lanes, feedTx := (pauseLane l s).feedTx, feed := (pauseLane l s).feed
                 sweeper := (pauseLane l s).sweeper, verifier := (pauseLane l s).verifier } := by
  unfold pauseLane sendFeed; dsimp only; split <;> split <;> rfl

theorem resumeLane_frame (l : Fin 16) :
    resumeLane l s
      = { s with lanes := (resumeLane l s).lanes, feedTx := (resumeLane l s).feedTx, feed := (resumeLane l s).feed
                 sweeper := (resumeLane l s).sweeper, verifier := (resumeLane l s).verifier } := by
  unfold resumeLane sendFeed; dsimp only; split <;> split <;> rfl

theorem autoSweep_frame : autoSweep s = { s with sweeper := (autoSweep s).sweeper } := by
  unfold autoSweep restartSweep enterSweep
  dsimp only
  split
  · rfl
  · split <;> rfl

theorem stopSweep_frame : stopSweep s = { s with sweeper := (stopSweep s).sweeper } := by
  unfold stopSweep; split <;> rfl

theorem stopVerify_frame : stopVerify s = { s with verifier := (stopVerify s).verifier } := by
  unfold stopVerify; split <;> rfl

theorem grantTag_frame (t : Fin 8) (o : StoreOperation) (id edition : Nat) :
    grantTag t o id edition s
      = { s with tags := (grantTag t o id edition s).tags, lastTag := (grantTag t o id edition s).lastTag } := rfl

theorem filterInsert_frame (r : CallRecord) (day : Nat) :
    filterInsert r day s = { s with filter := (filterInsert r day s).filter } := by
  unfold filterInsert; split <;> rfl

end Sys2Proof.Machine
end

