-- ==== Sys2Proof/Laws/Arbiter.lean ====
section
/-! SUPPORT. The arbiter (R125 to R127): what one grant can do, said once, and the fields that a grant leaves. -/

namespace Sys2Proof.Machine

variable {s s' : State}

/-- Everything that one grant can be: the Store link is UP and a tag is FREE; the writer is served first, then the two
background requesters by the turn (R125). -/
theorem grantOne_cases (h : grantOne s = some s') :
    s.store.up = true ∧ ∃ t, s.freeTag = some t
      ∧ ((∃ id rest, s.writeQueue = id :: rest ∧ s' = sendWrite t id rest s)
        ∨ (s.writeQueue = [] ∧ sweeperWaits s = true ∧ (verifierWaits s = true → s.turn = .sweeper)
            ∧ s' = sweepExamine t s)
        ∨ (s.writeQueue = [] ∧ verifierWaits s = true ∧ (sweeperWaits s = true → s.turn = .verifier)
            ∧ s' = verifyExamine t s)) := by
  unfold grantOne at h
  split at h
  · cases h
  · rename_i hup
    refine ⟨by simpa using hup, ?_⟩
    split at h
    · cases h
    · rename_i t ht
      refine ⟨t, ht, ?_⟩
      split at h
      · rename_i id rest hq
        exact .inl ⟨id, rest, hq, (Option.some.inj h).symm⟩
      · rename_i hq
        split at h
        · rename_i hs hv
          split at h
          · rename_i ht
            exact .inr (.inl ⟨hq, hs, fun _ => ht, (Option.some.inj h).symm⟩)
          · rename_i ht
            exact .inr (.inr ⟨hq, hv, fun _ => by cases hturn : s.turn <;> simp_all, (Option.some.inj h).symm⟩)
        · rename_i hs hv
          exact .inr (.inl ⟨hq, hs, fun hv' => absurd hv' (by simp [hv]), (Option.some.inj h).symm⟩)
        · rename_i hs hv
          exact .inr (.inr ⟨hq, hv, fun hs' => absurd hs' (by simp [hs]), (Option.some.inj h).symm⟩)
        · cases h

/-- With the Store link DOWN nothing is granted (R132). -/
theorem grantOne_of_down (h : s.store.up = false) : grantOne s = none := by simp [grantOne, h]

/-- With nothing to grant the arbiter changes nothing. -/
theorem grantMany_of_none (n : Nat) (h : grantOne s = none) : grantMany n s = s := by
  cases n with
  | zero => rfl
  | succ n => simp [grantMany, h]

theorem arbitrate_of_none (h : grantOne s = none) : arbitrate s = s := grantMany_of_none grantBound h

/-- What one grant can be carried through many: a property that every grant keeps holds after the arbiter. -/
theorem grantMany_induction {P : State → Prop} (step : ∀ x y, P x → grantOne x = some y → P y) (n : Nat)
    (h : P s) : P (grantMany n s) := by
  induction n generalizing s with
  | zero => exact h
  | succ n ih =>
    unfold grantMany
    split
    · exact h
    · exact ih (step _ _ h ‹_›)

theorem arbitrate_induction {P : State → Prop} (step : ∀ x y, P x → grantOne x = some y → P y) (h : P s) :
    P (arbitrate s) := grantMany_induction step grantBound h

/-- The state with the fields that a grant can change blanked out: those of the Store link, the catalog's entries, the
write queue, the two walkers and the Report Queue. Two states equal in this agree in every other field. -/
def outsideGrants (s : State) : State :=
  { s with storeTx := [], store := {}, tags := Vector.replicate 8 none, lastTag := 0, turn := .sweeper, catalog := []
           stateCounts := Vector.replicate 8 0, writeQueue := [], sweeper := {}, verifier := {}, reports := {} }

theorem outsideGrants_sendStore (fs : List StoreFrame) (x : State) :
    outsideGrants (sendStore fs x) = outsideGrants x := by
  unfold sendStore; split <;> rfl

theorem outsideGrants_raise (k : ReportKind) (u : Option Nat) (a b c : Nat) (x : State) :
    outsideGrants (raise k u a b c x) = outsideGrants x := by
  unfold raise raiseOn; split <;> rfl

theorem outsideGrants_advanceSweep (x : State) : outsideGrants (advanceSweep x) = outsideGrants x := by
  unfold advanceSweep
  split
  · rfl
  · exact outsideGrants_raise _ _ _ _ _ _

theorem outsideGrants_advanceVerify (x : State) : outsideGrants (advanceVerify x) = outsideGrants x := by
  unfold advanceVerify
  split
  · rfl
  · exact outsideGrants_raise _ _ _ _ _ _

theorem outsideGrants_grantDelete (t : Fin 8) (id : Nat) (x : State) :
    outsideGrants (grantDelete t id x) = outsideGrants x := outsideGrants_sendStore _ _

theorem outsideGrants_grantRead (t : Fin 8) (id : Nat) (x : State) :
    outsideGrants (grantRead t id x) = outsideGrants x := outsideGrants_sendStore _ _

/-- A grant leaves every field outside its own. -/
theorem outsideGrants_grantOne (h : grantOne s = some s') : outsideGrants s' = outsideGrants s := by
  obtain ⟨-, t, -, ⟨id, rest, -, rfl⟩ | ⟨-, -, -, rfl⟩ | ⟨-, -, -, rfl⟩⟩ := grantOne_cases h
  · exact outsideGrants_sendStore _ _
  · unfold sweepExamine
    rw [outsideGrants_advanceSweep]
    split
    · exact outsideGrants_grantDelete _ _ _
    · rfl
  · unfold verifyExamine
    rw [outsideGrants_advanceVerify]
    split
    · exact outsideGrants_grantRead _ _ _
    · rfl

end Sys2Proof.Machine
end

