-- ==== Sys2Proof/Laws/Bytes.lean ====
section
/-! SUPPORT. Bytes: the length of what is written, and that a number written in enough bytes is read back. -/

namespace Sys2Proof.Machine

@[simp] theorem toBytes_length (n v : Nat) : (toBytes n v).length = n := by
  induction n generalizing v with
  | zero => rfl
  | succ n ih => simp [toBytes, ih]

theorem ofBytes_append (xs ys : List Byte) : ofBytes (xs ++ ys) = ofBytes xs * 256 ^ ys.length + ofBytes ys := by
  have shift : ∀ (n : Nat) (zs : List Byte),
      zs.foldl (fun m b => m * 256 + b.toNat) n = n * 256 ^ zs.length + zs.foldl (fun m b => m * 256 + b.toNat) 0 := by
    intro n zs
    induction zs generalizing n with
    | nil => simp
    | cons b rest ih =>
      simp only [List.foldl_cons, List.length_cons]
      rw [ih, ih (0 * 256 + b.toNat)]
      ring
  unfold ofBytes
  rw [List.foldl_append, shift]

/-- A number below 256^n, written in n bytes, is read back. -/
theorem ofBytes_toBytes {n v : Nat} (h : v < 256 ^ n) : ofBytes (toBytes n v) = v := by
  induction n generalizing v with
  | zero => simp [toBytes, ofBytes]; omega
  | succ n ih =>
    have hq : v / 256 < 256 ^ n := by
      rw [Nat.div_lt_iff_lt_mul (by norm_num)]
      simpa [pow_succ] using h
    rw [toBytes, ofBytes_append, ih hq]
    simp [ofBytes]
    omega

theorem ofBytes_lt (bs : List Byte) : ofBytes bs < 256 ^ bs.length := by
  induction bs using List.reverseRecOn with
  | nil => simp [ofBytes]
  | append_singleton rest b ih =>
    rw [ofBytes_append]
    have hb : b.toNat < 256 := b.isLt
    have h1 : ofBytes [b] = b.toNat := by simp [ofBytes]
    simp only [List.length_append, List.length_cons, List.length_nil, pow_succ] at *
    rw [h1]
    omega

theorem checkTerms_append (ab : Nat × Nat) (xs ys : List Byte) :
    checkTerms ab (xs ++ ys) = checkTerms (checkTerms ab xs) ys := by
  simp [checkTerms, List.foldl_append]

/-- Both terms stay below 65,535 (R85). -/
theorem checkTerms_lt (bs : List Byte) {ab : Nat × Nat} (h : ab.1 < 65535 ∧ ab.2 < 65535) :
    (checkTerms ab bs).1 < 65535 ∧ (checkTerms ab bs).2 < 65535 := by
  induction bs generalizing ab with
  | nil => exact h
  | cons b rest ih =>
    exact ih ⟨Nat.mod_lt _ (by norm_num), Nat.mod_lt _ (by norm_num)⟩

/-- The check value fits in four bytes (R85). -/
theorem checkValue_lt (bs : List Byte) : checkValue bs < 256 ^ 4 := by
  have h := checkTerms_lt bs (ab := (0, 0)) ⟨by norm_num, by norm_num⟩
  simp only [checkValue, checkOf]
  omega

theorem envelope_length (kind : Nat) (payload : List Byte) : (envelope kind payload).length = payload.length + 7 := by
  simp [envelope, frameBody]; omega

end Sys2Proof.Machine
end

