-- ==== Sys2Proof/Tests/Slice0.lean ====
section
/-! SUPPORT. Tests. `test_` theorems check the spec's worked cases, the refusals of `WellFormed` and single commands on
small states. `witness_` theorems show, for the statement that they name, values that meet its hypotheses, clause by
clause. -/

namespace Sys2Proof.Tests

open Sys2Proof.Machine Sys2Proof.Safety

-- One theorem after the other: each `decide +kernel` waits for the kernel, on a thread of its own.
set_option Elab.async false

/-! ### Small states and operands -/

/-- Both links UP, nothing else changed since power-on. -/
def linked : State := { feed := { up := true, locked := true }, store := { up := true, locked := true } }

/-- A bank ACTIVE under generation 1, with the tables of the worked cases of chapters 1 and 5. -/
def bank1 : Bank where
  state := .active
  generation := some 1
  serviceMap := [(12, 3)]
  classTable := [(0, 30), (3, 400), (5, 1095)]
  switchTable := [(37, { enabled := true, offset := 60 })]
  dictionary := [(5, [7, 1, 5, 5]), (9, [7, 1, 5, 5, 0, 1])]

/-- RUNNING on day 20,094 with bank 1 ACTIVE and two FREE ids listed. -/
def running : State :=
  { linked with
    device := .running
    clock := { currentDay := some 20094 }
    banks := linked.banks.set 1 bank1
    loadCounter := 1
    freeIds := [6, 7]
    days := [{ day := 20092, state := .closed }, { day := 20093, state := .closed }, { day := 20094, state := .opened },
      { day := 20095, state := .opened }] }

/-- A number of 20 positions. -/
def numberOf (digits : List Nat) : Number := { count := digits.length, digits := digits ++ List.replicate (20 - digits.length) 0 }

/-- Record 1 of the worked case of section 5.9. -/
def record1 : CallRecord where
  kind := 1
  cause := 16
  switchId := 37
  service := 12
  trunk := 301
  sequence := 880001
  startTime := 1736123400
  duration := 185
  charge := 4
  flags := 0
  calling := numberOf [7, 1, 5, 5, 0, 1, 2, 0, 0, 3, 4]
  called := numberOf [7, 1, 5, 5, 0, 9, 9, 8, 8, 7, 7]

/-- Record 2 of the worked case of section 5.9. -/
def record2 : CallRecord :=
  { record1 with
    sequence := 880002, startTime := 1736123460, duration := 42, charge := 1
    called := numberOf [7, 1, 5, 5, 0, 1, 1, 1, 1, 1, 1] }

/-- A file of switch 37 with nothing received. -/
def file : FileContext := { switch := 37, fileNumber := 9001, bank := 1, generation := 1 }

/-- Lane 3 OPEN for the file. -/
def fileOpen : State :=
  { running with
    banks := running.banks.set 1 { bank1 with boundFiles := 1 }
    lanes := running.lanes.set 3 { state := .opened, context := some file } }

/-- Lane 3 with record 1 in its first buffer, the parser IDLE. -/
def oneBlock : State :=
  { fileOpen with
    lanes := fileOpen.lanes.set 3
      { state := .opened, context := some { file with announced := 1, pending := 1, blocksReceived := 1, expectedBlock := 1 }
        bufA := { owner := .parser, records := [record1] }, lastFilled := .a } }

/-- The parser with record 1 in hand. -/
def parsing : State := { oneBlock with parser := { phase := .parsing 3 .a 0, lastLane := 3 } }

/-- Lane 3 paused: the parser holds both its buffers. -/
def paused : State :=
  { fileOpen with
    parser := { phase := .parsing 3 .a 0, lastLane := 3 }
    lanes := fileOpen.lanes.set 3
      { state := .opened, context := some { file with announced := 2, pending := 2, blocksReceived := 2, expectedBlock := 2 }
        bufA := { owner := .parser, records := [record1] }, bufB := { owner := .parser, records := [record2] }
        lastFilled := .b, paused := true } }

/-- The key of the segment of records 1 and 2. -/
def key3 : SegmentKey := { cls := 3, day := 20094, bank := 1, generation := 1 }

/-- The state a command goes to. -/
def after (o : Host.Outcome State Fault Refusal) : State :=
  match o with
  | .next t => t
  | .fault f => nomatch f
  | .refused _ => {}

/-! ### The spec's worked cases -/

/-- Section 1.3: four archive days. -/
theorem test_archive_days :
    archiveDay 1736123400 60 = some 20094 ∧ archiveDay 1736131500 (-300) = some 20093
      ∧ archiveDay 1736139600 (-300) = some 20094 ∧ archiveDay 30000 (-720) = none := by decide

/-- Section 1.4: the six records. -/
theorem test_six_records :
    [record1, { record1 with calling := { count := 21, digits := List.replicate 20 1 } },
      { record1 with duration := 172801, startTime := 1735776000 }, { record1 with switchId := 38 },
      { record1 with startTime := 1736467200 }, { record1 with service := 999 }].map (validate running.clock bank1 37)
      = [⟨none, 3, 20094⟩, ⟨some .badField, 0, 20094⟩, ⟨some .badField, 0, 20094⟩, ⟨some .switchMismatch, 0, 20094⟩,
          ⟨some .timeRange, 0, 20094⟩, ⟨some .serviceUnmapped, 0, 20094⟩] := by decide +kernel

/-- Section 4.1: the buckets of records 1 and 2. -/
theorem test_buckets : bucketOf record1 = 14220 ∧ bucketOf record2 = 14401 := by decide

/-- Section 5.3: zigzag and varint. -/
theorem test_varints :
    zigzag 60 = 120 ∧ zigzag (-60) = 119 ∧ zigzag 4294967295 = 8589934590 ∧ zigzag (-4294967294) = 8589934587
      ∧ varint 185 = [0xB9, 0x01] ∧ varint 16384 = [0x80, 0x80, 0x01] ∧ varint (zigzag 880001) = [0x82, 0xB6, 0x6B]
      ∧ varint (zigzag 1736123400) = [0x90, 0x90, 0xD9, 0xF7, 0x0C] ∧ (varint 8589934590).length = 5 := by decide +kernel

/-- Section 5.4: a match taken over a shorter one, a match of the whole number, and none. -/
theorem test_prefix_matches :
    encodeDigits bank1.dictionary [7, 1, 5, 5, 0, 1, 2, 0, 0, 3, 4] = [9, 5, 0x20, 0x03, 0x4F]
      ∧ encodeDigits bank1.dictionary [7, 1, 5, 5, 0, 1] = [9, 0]
      ∧ encodeDigits bank1.dictionary [7, 1, 5, 5, 0] = [5, 1, 0x0F]
      ∧ encodeDigits bank1.dictionary [7, 1, 5] = [3, 0x71, 0x5F] ∧ encodeDigits bank1.dictionary [] = [0] := by decide +kernel

/-- Section 5.7: the check values of two bodies. -/
theorem test_check_values :
    checkValue [1, 2, 3] = 0x000A0006 ∧ checkValue (List.replicate 300 0xFF) = 0xAE512AD5 := by decide +kernel

/-- Section 5.9: the bytes of the two records, with the indicators of section 12.5. -/
theorem test_two_records :
    encodeRecord bank1.dictionary {} none record1
      = [0x07, 0x01, 0x10, 0x00, 0x25, 0x00, 0x0C, 0x01, 0x2D, 0x82, 0xB6, 0x6B, 0x90, 0x90, 0xD9, 0xF7, 0x0C, 0xB9, 0x01,
          0x04, 0x09, 0x05, 0x20, 0x03, 0x4F, 0x05, 0x07, 0x09, 0x98, 0x87, 0x7F]
      ∧ encodeRecord bank1.dictionary (referenceOf record1) none record2
        = [0xFF, 0x78, 0x2A, 0x01, 0x09, 0x05, 0x20, 0x03, 0x4F, 0x09, 0x05, 0x11, 0x11, 0x1F] := by decide +kernel

/-- Section 6.5: the expiry days of four segments. -/
theorem test_expiry_days :
    [(20094, 3), (20093, 5), (20094, 0), (65000, 5)].map (fun p => expiryDayOf bank1 { key3 with day := p.1, cls := p.2 })
      = [20494, 21188, 20124, 65535] := by decide

/-- Section 10.1: the overrunning file is UNRECONCILED with differences −170, −31,340 and −678. -/
theorem test_reconciliation :
    let c := { file with
      announced := 570, stored := 393, rejected := 2, duplicates := 5, lost := 170, durationSum := 71240, chargeSum := 1612
      minDay := some 20094, maxDay := some 20094, fileDay := some 20094
      trailer := some { recordCount := 570, durationSum := 102580, chargeSum := 2290 } }
    (drainLane 4 { running with lanes := running.lanes.set 4 { state := .draining, context := some c } }).reports.entries.map
        (fun r => (r.kind, r.value1, r.value2, r.value3))
      = [(.fileClosed, toWord32 (-170), toWord32 (-31340), toWord32 (-678)), (.holdPlaced, 37, 20094, 20094)] := by
  decide +kernel

/-! ### `WellFormed` refuses an operand outside its field -/

theorem test_wf_record : WellFormed.record record1 = true := by decide
theorem test_wf_kind : WellFormed.record { record1 with kind := 256 } = false := by decide
theorem test_wf_cause : WellFormed.record { record1 with cause := 256 } = false := by decide
theorem test_wf_switch : WellFormed.record { record1 with switchId := 512 } = false := by decide
theorem test_wf_service : WellFormed.record { record1 with service := 1024 } = false := by decide
theorem test_wf_trunk : WellFormed.record { record1 with trunk := 65536 } = false := by decide
theorem test_wf_sequence : WellFormed.record { record1 with sequence := 4294967296 } = false := by decide
theorem test_wf_start : WellFormed.record { record1 with startTime := 4294967296 } = false := by decide
theorem test_wf_duration : WellFormed.record { record1 with duration := 4294967296 } = false := by decide
theorem test_wf_charge : WellFormed.record { record1 with charge := 4294967296 } = false := by decide
theorem test_wf_flags : WellFormed.record { record1 with flags := 65536 } = false := by decide
theorem test_wf_number :
    WellFormed.record { record1 with calling := { count := 3, digits := [1, 2, 3] } } = false
      ∧ WellFormed.record { record1 with called := { count := 256, digits := List.replicate 20 0 } } = false
      ∧ WellFormed.record { record1 with called := { count := 1, digits := List.replicate 20 16 } } = false := by decide
theorem test_wf_block :
    WellFormed.command (.recordBlock 3 0 []) = false ∧ WellFormed.command (.recordBlock 3 4294967296 [record1]) = false
      ∧ WellFormed.command (.recordBlock 3 0 (List.replicate 171 record1)) = false := by decide +kernel
theorem test_wf_file :
    WellFormed.command (.fileOpen 0 false 512 0) = false ∧ WellFormed.command (.fileOpen 0 false 0 4294967296) = false
      ∧ WellFormed.command (.fileClose 0 4294967296 0 0) = false := by decide +kernel
theorem test_wf_fileSums :
    WellFormed.command (.fileClose 0 0 (256 ^ 8) 0) = false
      ∧ WellFormed.command (.fileClose 0 0 0 (256 ^ 8)) = false := by decide +kernel
theorem test_wf_store :
    WellFormed.command (.storeAck 0 16777216 0 .ok) = false ∧ WellFormed.command (.storeAck 0 0 256 .ok) = false := by decide
theorem test_wf_readData : WellFormed.command (.readData 0 true (List.replicate 16385 0)) = false := by decide +kernel
theorem test_wf_timers :
    WellFormed.command (.sealTimeout 262144) = false ∧ WellFormed.command (.fullWaitExpiry 262144) = false := by decide
theorem test_wf_start_day :
    WellFormed.command (.start 256 0) = false ∧ WellFormed.command (.start 0 65536) = false := by decide
theorem test_wf_tables :
    WellFormed.command (.tableBegin 0 256 0) = false ∧ WellFormed.command (.tableBegin 0 0 256) = false
      ∧ WellFormed.command (.tableEnd 0 0 256 0) = false ∧ WellFormed.command (.tableEnd 0 0 0 4294967296) = false
      ∧ WellFormed.command (.tableSelect 0 0 256) = false ∧ WellFormed.command (.tableCancel 256) = false := by decide
theorem test_wf_tableWrite :
    WellFormed.command (.tableWrite 0 0 (some 65535) (.serviceMap [0])) = false
      ∧ WellFormed.command (.tableWrite 0 0 none (.serviceMap [256])) = false
      ∧ WellFormed.command (.tableWrite 0 0 none (.classTable [65536])) = false
      ∧ WellFormed.command (.tableWrite 0 0 none (.switchTable [(0, 32768)])) = false
      ∧ WellFormed.command (.tableWrite 0 0 none (.switchTable [(0, -32769)])) = false
      ∧ WellFormed.command (.tableWrite 0 0 none (.switchTable [(256, 0)])) = false
      ∧ WellFormed.command (.tableWrite 0 0 none (.prefixDictionary [numberOf [1, 2, 3]])) = false
      ∧ WellFormed.command (.tableWrite 0 0 none (.serviceMap (List.replicate 256 0))) = false := by decide +kernel
theorem test_wf_holds :
    WellFormed.command (.holdAdd 0 65536 0 0 0) = false ∧ WellFormed.command (.holdAdd 0 0 65536 0 0) = false
      ∧ WellFormed.command (.holdAdd 0 0 0 65536 0) = false ∧ WellFormed.command (.holdAdd 0 0 0 0 256) = false
      ∧ WellFormed.command (.holdRelease 0 256) = false := by decide
theorem test_wf_walkers :
    WellFormed.command (.sweepStart 0 256) = false ∧ WellFormed.command (.verifyStart 0 256) = false := by decide
theorem test_wf_segments :
    WellFormed.command (.segmentRetry 0 16777216 0) = false ∧ WellFormed.command (.segmentDiscard 0 0 256) = false := by decide
theorem test_wf_values :
    WellFormed.command (.setReportHoldoff 0 4294967296) = false ∧ WellFormed.command (.queryLane 0 4294967296) = false
      ∧ WellFormed.command (.queryDay 0 65536 0) = false ∧ WellFormed.command (.queryDay 0 0 65536) = false := by decide
/-- The bytes of a TABLE_CANCEL are no unknown request. -/
theorem test_wf_unknown :
    WellFormed.command (.unknownControlRequest 0 0x14 []) = false
      ∧ WellFormed.command (.unknownControlRequest 0 0x13 []) = true
      ∧ WellFormed.command (.unknownControlRequest 0 256 []) = false := by decide +kernel

/-- A loaded entry of class 3 and day 20,090. -/
def loaded : LoadEntry where
  segmentId := 9
  edition := 2
  cls := 3
  day := 20090
  bank := 1
  generation := 1
  late := false
  recordCount := 1
  bodyLength := 31
  checkValue := 0
  durationSum := 185
  firstStart := 0
  lastStart := 0
  expiryDay := 20490
  verifyCode := 0
  reasonCode := 0
  switches := [37]

theorem test_wf_loadEntry : WellFormed.command (.catalogLoad 0 [loaded]) = true := by decide
theorem test_wf_loadFields :
    [{ loaded with segmentId := 16777216 }, { loaded with edition := 256 }, { loaded with cls := 256 },
      { loaded with day := 65536 }, { loaded with bank := 256 }, { loaded with generation := 4294967296 },
      { loaded with recordCount := 65536 }, { loaded with bodyLength := 65536 }, { loaded with checkValue := 4294967296 },
      { loaded with durationSum := 4294967296 }, { loaded with firstStart := 4294967296 },
      { loaded with lastStart := 4294967296 }, { loaded with expiryDay := 65536 }, { loaded with verifyCode := 256 },
      { loaded with reasonCode := 256 }, { loaded with switches := [512] }, { loaded with switches := [3, 3] }].any
      WellFormed.loadEntry = false := by decide +kernel
theorem test_wf_loadCount : WellFormed.command (.catalogLoad 0 (List.replicate 158 loaded)) = false := by decide +kernel

/-! ### Single commands -/

/-- Record 1 archived: segment 6 open with 31 bytes (section 5.9). -/
def archived : State := after (exec .parseRecord parsing)

theorem test_parseRecord_opens :
    (archived.entry 6).state = .opened ∧ (archived.buffer 0).bytes.length = 31 ∧ archived.freeIds = [7]
      ∧ (archived.lane 3).context.map FileContext.stored = some 1 ∧ archived.parser.phase = .idle := by decide +kernel
/-- A re-send of record 1 falls in the way that the first delivery left (section 4.1). -/
theorem test_parseRecord_duplicate :
    ((after (exec .parseRecord { parsing with filter := archived.filter })).lane 3).context.map FileContext.duplicates
      = some 1 := by decide +kernel
/-- Records 1 and 2 make a body of 45 bytes (section 5.9). -/
theorem test_parseRecord_appends :
    ((after (exec .parseRecord { paused with
        parser := { phase := .parsing 3 .b 0, lastLane := 3 }, openSegments := archived.openSegments
        buffers := archived.buffers, catalog := archived.catalog })).buffer 0).bytes.length = 45 := by decide +kernel

/-- Segment 6 sealed and its write outstanding on tag 0. -/
def writing : State := after (exec (.sealTimeout 6) { archived with runTime := 300000 })

theorem test_sealTimeout_writes :
    (writing.entry 6).state = .writing ∧ (writing.buffer 0).bytes.length = 71
      ∧ (writing.tag 0).map Outstanding.segmentId = some 6 ∧ writing.openSegments = [] := by decide +kernel
theorem test_sealTimeout_waits :
    ((after (exec (.sealTimeout 6) { archived with runTime := 299999 })).entry 6).state = .opened := by decide +kernel
theorem test_storeAck_stores :
    ((after (exec (.storeAck 0 6 0 .ok) writing)).entry 6).state = .stored
      ∧ ((after (exec (.storeAck 0 6 0 .ok) writing)).buffer 0).state = .free := by decide +kernel
theorem test_storeAck_full :
    (after (exec (.storeAck 0 6 0 .full) writing)).fullWaits.map FullWait.expiry = [301000] := by decide +kernel
theorem test_tagTimeout_requeues :
    (after (exec (.tagTimeout 0) { writing with runTime := 302000 })).storeTx.length = 2 := by decide +kernel
/-- Bank 1 READY, bank 2 LOADING, bank 3 DRAINING, bank 0 ACTIVE. -/
def banked : State :=
  { running with
    banks := #v[{ bank1 with generation := some 4 }, { bank1 with state := .ready, references := 1 },
      { state := .loading, dictionary := [(3, [1, 2, 3]), (9, [1, 2, 3])] }, { state := .draining, generation := some 3 }]
    loadCounter := 4 }

theorem test_tableSelect_next_file :
    (after (exec (.tableSelect 5 1 0) banked)).selection = some { bank := 1, mode := .nextFile } := by decide +kernel
theorem test_validation_finds_repeat :
    (after (exec .validationComplete { banked with control := [{ tag := 5, request := .tableEnd 2 0 0 }] })).feedTx
      = [.response 5 0x12 .badRequest (.index 9)] := by decide +kernel
theorem test_dayClose_advances :
    let quiet : State := { running with params := { autoSweep := false } }
    (after (exec (.dayClose 5) quiet)).clock.currentDay = some 20095
      ∧ (after (exec (.dayClose 5) quiet)).days.map DayRecord.day = [20093, 20094, 20095, 20096] := by decide +kernel
theorem test_catalogLoad_counts :
    (after (exec (.catalogLoad 5 [loaded]) linked)).stateCounts = #v[262143, 0, 0, 0, 1, 0, 0, 0] := by decide +kernel
theorem test_holdAdd_lowest :
    (after (exec (.holdAdd 5 0xFFFF 0 65535 1) running)).feedTx = [.response 5 0x30 .done (.holdId 0)] := by decide +kernel
theorem test_set_clamps :
    (after (exec (.setStoreTimeout 5 99) running)).params.storeTimeout = 100
      ∧ (after (exec (.setSealTimeout 5 3601) running)).params.sealTimeoutMs = 3600000 := by decide +kernel
theorem test_recordBlock_pauses :
    (after (exec (.recordBlock 3 1 [record2]) oneBlock)).feedTx = [.lanePause 3] := by decide +kernel
theorem test_fileOpen_binds :
    ((after (exec (.fileOpen 3 false 37 9001) running)).bank 1).boundFiles = 1
      ∧ ((after (exec (.fileOpen 3 false 37 9001) running)).lane 3).state = .opened := by decide +kernel
theorem test_fileAbort_drains :
    (after (exec (.fileAbort 3) fileOpen)).recent.map RecentEntry.outcome = [.aborted] := by decide +kernel

/-! ### Witnesses: the block, resets and links -/

theorem witness_StepTakesFrontCommand :
    ({ running with pending := [.parseRecord] } : State).pending = .parseRecord :: [] ∧ running.pending = [] := by decide

theorem witness_NothingSentOnDownLinks :
    exec .feedLinkUp State.reset = .next State.reset ∧ State.reset.feed.up = false ∧ State.reset.feed.locked = false
      ∧ State.reset.store.up = false ∧ State.reset.store.locked = false :=
  ⟨rfl, by decide⟩

theorem witness_PowerOnAndColdReset :
    running.feed.up = true ∧ (State.reset.feed.up = false ∧ State.reset.feed.locked = false)
      ∧ ({ running with feed := { locked := true } } : State).feed.up = false := by decide

theorem conserved_paused : RecordsConserved paused := by
  unfold RecordsConserved LaneAccounts ParserAccounts BufferSound
  decide +kernel

theorem bounded_paused : ListsBounded paused := by
  unfold ListsBounded
  decide

theorem conserved_writing : RecordsConserved writing := by
  unfold RecordsConserved LaneAccounts ParserAccounts BufferSound
  decide +kernel

theorem witness_WarmResetEndsIngest :
    (RecordsConserved paused ∧ ListsBounded paused ∧ paused.feed.up = true ∧ paused.sweeper.phase = .idle)
      ∧ (RecordsConserved writing ∧ ListsBounded writing ∧ NMap.canonical {} writing.catalog = true
        ∧ (∀ g ∈ writing.openSegments, g.segmentId ≠ 6) ∧ writing.tag 0 ≠ none) :=
  ⟨⟨conserved_paused, bounded_paused, by decide⟩, conserved_writing, by unfold ListsBounded; decide +kernel,
    by decide +kernel⟩

/-- The order of the discarded records: the buffer in hand, here B, stands before A (log entry 36). -/
theorem test_discards :
    discards { paused with
      parser := { phase := .parsing 3 .b 0, lastLane := 3 }
      lanes := paused.lanes.set 1 { bufA := { owner := .parser, records := [record1, record2] } } } = [3, 1, 1, 3] := by
  decide +kernel

theorem witness_PortsCountFrames :
    let quiet : State := { running with runTime := 10 }
    (State.reset.port .feed).up = false ∧ (running.port .feed).up = true
      ∧ ((quiet.port .feed).locked = true ∧ 10 ≤ quiet.since (quiet.port .feed).lastSent)
      ∧ running.since (running.port .feed).lastSent < 10 := by decide

theorem witness_LinksComeUp :
    let locked : State := { feed := { locked := true }, store := { locked := true } }
    running.feed.up = true ∧ running.store.up = true
      ∧ (locked.feed.up = false ∧ locked.feed.locked = true) ∧ (locked.store.up = false ∧ locked.store.locked = true)
      ∧ (State.reset.feed.up = false ∧ State.reset.feed.locked = false)
      ∧ (State.reset.store.up = false ∧ State.reset.store.locked = false)
      ∧ exec (.linkKeep .store) locked = .next (after (exec (.linkKeep .store) locked)) := by
  refine ⟨by decide, by decide, by decide, by decide, by decide, by decide, rfl⟩

theorem witness_LinkLossDrainsLanes :
    let silent : State := { paused with runTime := 50 }
    let early : State := { paused with runTime := 49 }
    (silent.store.up = true ∧ (LossCause.silence = .lockLost ∨ 50 ≤ silent.since silent.store.lastGood))
      ∧ (silent.feed.up = true ∧ (LossCause.silence = .lockLost ∨ 50 ≤ silent.since silent.feed.lastGood))
      ∧ (∀ l, LaneAccounts silent l)
      ∧ ¬ (early.feed.up = true ∧ (LossCause.silence = .lockLost ∨ 50 ≤ early.since early.feed.lastGood))
      ∧ ¬ (early.store.up = true ∧ (LossCause.silence = .lockLost ∨ 50 ≤ early.since early.store.lastGood)) := by
  unfold LaneAccounts BufferSound
  decide +kernel

/-! ### Witnesses: lanes, parser and encoder -/

theorem sound_reset : BanksSound linked := ⟨by decide, fun _ h => nomatch h⟩
theorem sound_running : BanksSound running := ⟨by decide, fun _ h => nomatch h⟩
theorem sound_fileOpen : BanksSound fileOpen := ⟨by decide, fun _ h => nomatch h⟩

theorem held_by_lane3 : HeldByOther fileOpen 4 37 9001 := ⟨3, by decide, by decide, file, by decide, by decide, by decide⟩

theorem not_held (l : Fin 16) (w n : Nat) : ¬ HeldByOther running l w n := fun ⟨o, _, open_, _⟩ =>
  open_ ((by decide : ∀ x : Fin 16, (running.lane x).state = .idle) o)

theorem witness_FileOpenRefused :
    let bare : State := { running with banks := linked.banks }
    (linked.feed.up = true ∧ BanksSound linked ∧ linked.device = .starting)
      ∧ (bare.feed.up = true ∧ BanksSound bare ∧ bare.device = .running ∧ ∀ b, (bare.bank b).state ≠ .active)
      ∧ (fileOpen.feed.up = true ∧ BanksSound fileOpen ∧ fileOpen.device = .running ∧ (fileOpen.bank 1).state = .active
          ∧ (fileOpen.lane 3).state ≠ .idle)
      ∧ ((fileOpen.lane 4).state = .idle ∧ ((fileOpen.bank (bindsTo fileOpen 1)).switchOf 38).enabled = false)
      ∧ ((fileOpen.bank (bindsTo fileOpen 1)).switchOf 37).enabled = true ∧ HeldByOther fileOpen 4 37 9001
      ∧ ¬ HeldByOther running 4 37 9001 ∧ ((running.bank (bindsTo running 1)).switchOf 37).enabled = true
      ∧ ∀ e ∈ running.recent, ¬ AbortedFor 37 9001 e :=
  ⟨by exact ⟨by decide, sound_reset, by decide⟩, ⟨by decide, ⟨by decide, fun _ h => nomatch h⟩, by decide, by decide⟩,
    ⟨by decide, sound_fileOpen, by decide⟩, by decide, by decide, held_by_lane3, not_held 4 37 9001, by decide,
    fun _ h => nomatch h⟩

/-- A NEXT_FILE selection of the READY bank 1 is pending, and an ABORTED file of switch 37 stands in Recent Files. -/
def selecting : State :=
  { banked with
    selection := some { bank := 1, mode := .nextFile }
    recent := [{ context := file, outcome := .aborted }, { context := file, outcome := .reconciled }] }

theorem witness_FileOpenAccepted :
    (running.feed.up = true ∧ BanksSound running ∧ running.device = .running ∧ (running.bank 1).state = .active
        ∧ (running.lane 3).state = .idle ∧ ((running.bank (bindsTo running 1)).switchOf 37).enabled = true
        ∧ ¬ HeldByOther running 3 37 9001 ∧ (running.bank (bindsTo running 1)).generation = some 1)
      ∧ (BanksSound selecting ∧ (selecting.bank 0).state = .active ∧ bindsTo selecting 0 = 1
        ∧ ((selecting.bank 1).switchOf 37).enabled = true ∧ ¬ HeldByOther selecting 3 37 9001
        ∧ (selecting.bank 1).generation = some 1
        ∧ selecting.recent = [] ++ { context := file, outcome := .aborted } :: [{ context := file, outcome := .reconciled }]
        ∧ AbortedFor 37 9001 { context := file, outcome := .aborted }
        ∧ ∀ x ∈ [({ context := file, outcome := .reconciled } : RecentEntry)], ¬ AbortedFor 37 9001 x) :=
  ⟨⟨by decide, sound_running, by decide, by decide, by decide, by decide, not_held 3 37 9001, by decide⟩,
    ⟨by decide, by rintro _ ⟨⟩; decide⟩, by decide, by decide, by decide,
    fun ⟨o, _, open_, _⟩ => open_ ((by decide : ∀ x : Fin 16, (selecting.lane x).state = .idle) o), by decide, by decide,
    ⟨by decide, by decide, by decide⟩, by unfold AbortedFor; decide⟩

theorem witness_RecordBlockFillsBuffer :
    let near : FileContext := { file with announced := 4294967295 - 170 }
    let filling : State := { fileOpen with lanes := fileOpen.lanes.set 3 { state := .opened, context := some near } }
    let records := List.replicate 170 record1
    (filling.feed.up = true ∧ 1 ≤ records.length ∧ records.length ≤ 170 ∧ (filling.lane 3).state = .opened
        ∧ (filling.lane 3).context = some near ∧ near.announced + records.length ≤ 4294967295
        ∧ ((filling.lane 3).bufA.owner = .link ∨ (filling.lane 3).bufB.owner = .link)
        ∧ ((filling.lane 3).buf (BufId.other .a)).owner = .link)
      ∧ (oneBlock.feed.up = true ∧ (oneBlock.lane 3).state = .opened ∧ (oneBlock.lane 3).bufB.owner = .link
        ∧ (oneBlock.lane 3).lastFilled.other = .b ∧ ((oneBlock.lane 3).buf (BufId.other .b)).owner = .parser) := by
  decide +kernel

theorem witness_RecordBlockOverruns :
    let c : FileContext := { file with announced := 2, pending := 2, blocksReceived := 2, expectedBlock := 2 }
    paused.feed.up = true ∧ 1 ≤ [record1].length ∧ [record1].length ≤ 170 ∧ (paused.lane 3).state = .opened
      ∧ (paused.lane 3).context = some c ∧ c.announced + [record1].length ≤ 4294967295
      ∧ (paused.lane 3).bufA.owner = .parser ∧ (paused.lane 3).bufB.owner = .parser := by decide +kernel

theorem witness_StrayLaneFrames :
    let full : FileContext := { file with announced := 4294967295 }
    let brim : State := { fileOpen with lanes := fileOpen.lanes.set 3 { state := .opened, context := some full } }
    (running.feed.up = true ∧ (running.lane 3).state ≠ .opened ∧ 1 ≤ [record1].length ∧ [record1].length ≤ 170)
      ∧ (brim.feed.up = true ∧ (brim.lane 3).state = .opened ∧ (brim.lane 3).context = some full
        ∧ 4294967295 < full.announced + [record1].length)
      ∧ ([] : List CallRecord).length = 0 ∧ 170 < (List.replicate 171 record1).length := by decide +kernel

theorem witness_FileEndsDelivery :
    (fileOpen.feed.up = true ∧ (fileOpen.lane 3).state = .opened ∧ (fileOpen.lane 3).context = some file
        ∧ (fileOpen.lane 3).bufA.owner = .link ∧ (fileOpen.lane 3).bufB.owner = .link)
      ∧ (oneBlock.feed.up = true ∧ (oneBlock.lane 3).state = .opened ∧ (oneBlock.lane 3).context.isSome = true
        ∧ ¬ ((oneBlock.lane 3).bufA.owner = .link ∧ (oneBlock.lane 3).bufB.owner = .link)) := by decide +kernel

/-- Lane 3 DRAINING with a file context, both buffers on the link side. -/
def draining (c : FileContext) : State :=
  { fileOpen with lanes := fileOpen.lanes.set 3 { state := .draining, context := some c } }

theorem witness_DrainCompletionEndsFile :
    let t : Trailer := { recordCount := 1, durationSum := 185, chargeSum := 4 }
    let whole : FileContext := { file with stored := 1, durationSum := 185, chargeSum := 4, trailer := some t }
    let odd : FileContext := { whole with lost := 1, minDay := some 20094, maxDay := some 20095 }
    let empty : FileContext := { file with trailer := some t }
    (∀ c ∈ [file, whole, odd, empty], ((draining c).lane 3).state = .draining ∧ ((draining c).lane 3).context = some c
        ∧ ((draining c).lane 3).bufA.owner = .link ∧ ((draining c).lane 3).bufB.owner = .link)
      ∧ file.trailer = none
      ∧ (whole.trailer = some t ∧ whole.stored + whole.rejected + whole.duplicates = t.recordCount ∧ whole.lost = 0
        ∧ whole.durationSum = t.durationSum ∧ whole.chargeSum = t.chargeSum)
      ∧ (odd.trailer = some t ∧ odd.lost ≠ 0 ∧ 0 < odd.stored ∧ odd.minDay = some 20094 ∧ odd.maxDay = some 20095)
      ∧ (empty.trailer = some t ∧ empty.stored + empty.rejected + empty.duplicates ≠ t.recordCount ∧ empty.stored = 0)
      ∧ ((running.lane 3).state ≠ .draining ∧ (oneBlock.lane 3).bufA.owner = .parser)
      ∧ (running.dayRecord 20096 = none ∧ running.dayRecord 20095 = some { day := 20095, state := .opened }
        ∧ running.dayRecord 20093 = some { day := 20093, state := .closed })
      ∧ (running.hold 0 = none ∧ ∀ x : Fin 64, x < 0 → running.hold x ≠ none)
      ∧ (let selector : HoldSelector := { switch := some 37, firstDay := 1, lastDay := 2, classes := 0xFF#8 }
         let full := fun n : Nat => ({ running with
           holds := Vector.replicate 64 (some { kind := .legal, selector }), pendingHolds := List.replicate n selector } : State)
         (∀ h, (full 0).hold h ≠ none) ∧ (full 0).pendingHolds = []
         ∧ (∀ h, (full 7).hold h ≠ none) ∧ (full 7).pendingHolds ≠ [] ∧ (full 7).pendingHolds.length < 8
         ∧ (∀ h, (full 8).hold h ≠ none) ∧ (full 8).pendingHolds = List.replicate 7 selector ++ [selector]
         ∧ 8 ≤ (full 8).pendingHolds.length)
      ∧ ((running.bank 1).state ≠ .draining ∧ (banked.bank 3).state = .draining ∧ (banked.bank 3).boundFiles ≤ 1) := by
  decide +kernel

theorem witness_ParserTakesNextLane :
    let last : State := { paused with parser := { phase := .idle, lastLane := 3 } }
    paused.parser.phase ≠ .idle
      ∧ (fileOpen.parser.phase = .idle ∧ ∀ l, (fileOpen.lane l).bufA.owner = .link ∧ (fileOpen.lane l).bufB.owner = .link)
      ∧ (last.parser.phase = .idle
        ∧ (∀ j : Fin 16, j < 15 → (last.lane (last.parser.lastLane + 1 + j)).bufA.owner = .link
          ∧ (last.lane (last.parser.lastLane + 1 + j)).bufB.owner = .link)
        ∧ ((last.lane (last.parser.lastLane + 1 + 15)).buf .a).owner = .parser
        ∧ (((last.lane (last.parser.lastLane + 1 + 15)).buf (BufId.other .a)).owner = .parser →
          (last.lane (last.parser.lastLane + 1 + 15)).lastFilled = BufId.other .a)) := by decide +kernel

/-- The verdict on record 1 in `parsing`. -/
def verdict1 : Verdict := { reason := none, cls := 3, day := 20094 }

theorem witness_ParseRecordCounts :
    let c : FileContext := { file with announced := 1, pending := 1, blocksReceived := 1, expectedBlock := 1 }
    let rejected : CallRecord := { record1 with switchId := 38 }
    (∀ l i position, oneBlock.parser.phase ≠ .parsing l i position)
      ∧ (parsing.parser.phase = .parsing 3 .a 0 ∧ (parsing.lane 3).context = some c
        ∧ ((parsing.lane 3).buf .a).records[0]? = some record1)
      ∧ (validate parsing.clock (parsing.bank 1) 37 record1 = verdict1
        ∧ filterHit parsing.clock archived.filter record1 = true ∧ filterHit parsing.clock parsing.filter record1 = false)
      ∧ (∃ s', offerRecord { c with fileDay := some 20094 } record1 verdict1 parsing = .accepted s')
      ∧ (∃ s', offerRecord { c with fileDay := some 20094 } record1 verdict1 { parsing with freeIds := [] } = .refused s')
      ∧ (validate parsing.clock (parsing.bank 1) 37 rejected).reason ≠ none
      ∧ ((∀ l i position r v, parsing.parser.phase ≠ .stalled l i position r v)
        ∧ ({ parsing with stall := .stalled .noId } : State).stall ≠ .runningFree)
      ∧ (let held : State := { parsing with parser := { phase := .stalled 3 .a 0 record1 verdict1, lastLane := 3 } }
         held.stall = .runningFree ∧ held.parser.phase = .stalled 3 .a 0 record1 verdict1 ∧ (held.lane 3).context = some c)
      ∧ (let two : Lane := { bufA := { owner := .parser, records := [record1, record2] }, paused := true }
         let pair : State := { paused with lanes := paused.lanes.set 5 two }
         (0 + 1 < ((pair.lane 5).buf .a).records.length ∧ ((pair.lane 5).buf .a).records.length ≤ 1 + 1)
         ∧ (oneBlock.lane 3).paused = false ∧ ((oneBlock.lane 3).buf .a).records.length ≤ 0 + 1
         ∧ ((pair.lane 5).paused = true ∧ (3 : Fin 16) ≠ 5 ∧ (pair.lane 3).paused = true)
         ∧ ((paused.lane 3).paused = true ∧ ∀ o, o ≠ 3 → (paused.lane o).paused = false)) := by
  intro c rejected
  exact ⟨fun _ _ _ h => (nomatch h), by decide +kernel,
    by decide +kernel, ⟨_, rfl⟩, ⟨_, rfl⟩, by decide +kernel, ⟨fun _ _ _ _ _ h => (nomatch h), by decide⟩, by decide +kernel,
    by decide +kernel⟩

/-- The open segment of records of class 3 after record 1. -/
def segment6 : OpenSegment :=
  { key := key3, segmentId := 6, edition := 0, buffer := 0, late := false, deadline := 300000, switches := [37]
    context := EncodingContext.append {} record1 (encodeRecord bank1.dictionary {} none record1) }

/-- A segment of another day. -/
def otherSegment (n : Nat) : OpenSegment := { segment6 with key := { key3 with day := n }, segmentId := 100 + n }

theorem witness_EncoderTakesRecord :
    let bytes := encodeRecord bank1.dictionary segment6.context.reference none record2
    let brim : EncodingContext := { segment6.context with bodyLength := 65496 - bytes.length + 1 }
    let crowded : State := { parsing with openSegments := (List.range 16).map otherSegment }
    let used : SegmentBuffer := { state := .failed, segmentId := 1 }
    (archived.openSegment key3 = some segment6 ∧ segment6.context.recordCount ≠ 4096
        ∧ segment6.context.bodyLength + bytes.length ≤ 65496)
      ∧ ¬ (brim.recordCount ≠ 4096 ∧ brim.bodyLength + bytes.length ≤ 65496)
      ∧ (crowded.openSegment key3 = none ∧ crowded.openSegments.head? = some (otherSegment 0)
        ∧ crowded.openSegments.length = 16)
      ∧ (parsing.openSegment key3 = none ∧ parsing.openSegments.length < 16 ∧ parsing.freeIds = [6, 7]
        ∧ (parsing.buffer 0).state = .free ∧ ∀ j : Fin 32, j < 0 → (parsing.buffer j).state ≠ .free)
      ∧ ({ parsing with freeIds := [] } : State).freeIds = []
      ∧ (∀ i, (({ parsing with buffers := Vector.replicate 32 used } : State).buffer i).state ≠ .free)
      ∧ ListsBounded archived ∧ ListsBounded crowded ∧ ListsBounded parsing := by
  unfold ListsBounded
  decide +kernel

theorem witness_SealTimeoutSealsSegment :
    archived.openSegments = [] ++ segment6 :: [] ∧ segment6.segmentId = 6 ∧ archived.reached segment6.deadline = false
      ∧ ({ archived with runTime := 300000 } : State).reached segment6.deadline = true
      ∧ (∀ g ∈ archived.openSegments, g.segmentId ≠ 7)
      ∧ (SegmentSound segment6 (archived.buffer segment6.buffer).bytes ∧ ContextOf {} []) := by
  unfold SegmentSound ContextOf
  decide +kernel

theorem witness_ValidationInOrder :
    running.clock.currentDay = some 20094
      ∧ ((20094 - running.clock.lateWindow : Nat) : Int) ≤ (1736123400 + 60 * 60) / 86400
      ∧ ((1736123400 + 60 * 60) / 86400 : Int) ≤ 20094 + 1
      ∧ ¬ ((0 : Int) ≤ 30000 + 60 * -720) := by decide

theorem witness_FilterInsertHits :
    NMap.rising archived.filter = true ∧ running.clock.inWindow 20095 = true ∧ running.clock.inWindow 20096 = false
      ∧ filterHit running.clock archived.filter record1 = true := by decide +kernel

theorem sound_dictionary : DictionarySound bank1.dictionary := by
  unfold DictionarySound
  decide +kernel

theorem witness_EncodedLengthBounded :
    DictionarySound bank1.dictionary ∧ WellFormed.record record1 = true ∧ ({} : Reference).sequence < 4294967296
      ∧ ({} : Reference).startTime < 4294967296 ∧ badField record1 = false :=
  ⟨sound_dictionary, by decide⟩

theorem witness_BodyDecodesToItsRecords :
    DictionarySound bank1.dictionary
      ∧ (∀ p ∈ [((none : Option RejectReason), record1), (none, record2)],
          WellFormed.record p.2 = true ∧ (p.1.isSome = true ↔ (3 : Nat) = 0) ∧ (p.1 = none → badField p.2 = false))
      ∧ (∀ p ∈ [(some RejectReason.badField, { record1 with kind := 0 })],
          WellFormed.record p.2 = true ∧ (p.1.isSome = true ↔ (0 : Nat) = 0) ∧ (p.1 = none → badField p.2 = false)) :=
  ⟨sound_dictionary, by decide +kernel, by decide +kernel⟩

/-! ### Witnesses: frames and images -/

theorem witness_LinkFramesReadBack :
    WellFormed.command (.fileOpen 15 true 511 4294967295) = true
      ∧ frameOf (.fileOpen 15 true 511 4294967295)
        = some (.feed, ((frameOf (.fileOpen 15 true 511 4294967295)).map Prod.snd).getD []) := by decide +kernel

theorem witness_ControlFramesReadBack :
    WellFormed.command (.holdRelease 255 255) = true
      ∧ frameOf (.holdRelease 255 255) = some (.feed, ((frameOf (.holdRelease 255 255)).map Prod.snd).getD [])
      ∧ requestOf (.holdRelease 255 255) = some (255, .holdRelease 255)
      ∧ (255 < 256 ∧ (List.replicate 65533 (0 : Byte)).length ≤ 65533) := by
  simp only [List.length_replicate]
  decide +kernel

/-- R182: a frame too short, one with a wrong check, one of a kind that the Store port does not receive, a lane of 16. -/
theorem test_receive_bad :
    receive .feed [0, 0, 0, 0, 0, 0] = .frameCheckFailed .feed
      ∧ receive .feed [0, 0, 0, 0, 0, 0, 1] = .frameCheckFailed .feed
      ∧ receive .store (envelope 0x14 [15]) = .malformedFrame .store
      ∧ receive .feed (envelope 0x14 [16]) = .malformedFrame .feed
      ∧ receive .feed (envelope 0x14 [15]) = .fileAbort 15 := by decide +kernel

theorem witness_ImagePartsRejoin :
    1 ≤ (List.replicate 1 (0 : Byte)).length ∧ (List.replicate 65536 (0 : Byte)).length ≤ 65536 := by
  simp only [List.length_replicate]; decide

/-- The opening and figures of segment 6 after its seal. -/
def opening6 : Opening := { key := key3, late := false }
def figures6 : Figures := ((writing.entry 6).figures).getD
  { recordCount := 0, bodyLength := 0, checkValue := 0, durationSum := 0, firstStart := 0, lastStart := 0, switches := []
    expiryDay := 0 }

theorem witness_ImageCheckedInOrder :
    let image := (writing.buffer 0).bytes
    (40 ≤ image.length ∧ fieldAt image 0 2 = 0xA5C3 ∧ checkValue (image.drop 40) = figures6.checkValue)
      ∧ checkImage bank1 6 0 opening6 figures6 image false = { result := .fullOk }
      ∧ checkImage { bank1 with generation := some 2 } 6 0 opening6 figures6 image false = { result := .checkOnlyOk }
      ∧ checkImage bank1 6 1 opening6 figures6 image false = { result := .damaged .header }
      ∧ checkImage bank1 6 0 opening6 { figures6 with checkValue := 0 } image false = { result := .damaged .check }
      ∧ checkImage bank1 6 0 opening6 { figures6 with durationSum := 0 } image false = { result := .damaged .duration }
      ∧ (let read : State := { writing with catalog := writing.catalog.map fun p => (p.1, { p.2 with state := .verifying }) }
         (read.entry 6).state = .verifying ∧ (read.entry 6).opening = some opening6 ∧ (read.entry 6).figures = some figures6
         ∧ checkImage (read.bank opening6.key.bank) 6 (read.entry 6).edition opening6 figures6 image false
           = { result := .fullOk }) := by
  decide +kernel

/-! ### Witnesses: the arbiter, the reports and the invariants -/

/-- The last catalog entry STORED and expired, and the sweeper about to examine it. -/
def expired : State :=
  let key : SegmentKey := { key3 with day := 19000 }
  { running with
    catalog := [(262143, { edition := 5, state := .stored, opening := some { key := key, late := false }
                           figures := some { figures6 with expiryDay := 20093 } })]
    stateCounts := #v[262143, 0, 0, 0, 1, 0, 0, 0]
    sweeper := { phase := .running, cursor := 262143 } }

theorem witness_ArbiterLeavesNothingToGrant :
    let walking : State := { expired with verifier := { phase := .running, cursor := 262143 } }
    let queue : State := { writing with tags := Vector.replicate 8 none, writeQueue := [6] }
    let last : State := { walking with tags := #v[writing.tag 0, writing.tag 0, writing.tag 0, writing.tag 0, writing.tag 0,
      writing.tag 0, writing.tag 0, none] }
    let of := fun st : EntryState => ({ walking with
      catalog := expired.catalog.map fun p => (p.1, { p.2 with state := st }) } : State)
    (grantOne running = none ∧ (grantOne walking).isSome = true ∧ State.reset.store.up = false)
      ∧ (running.store.up = true ∧ (∀ j : Fin 8, j < 0 → running.tag (running.lastTag + 1 + j) ≠ none)
        ∧ running.tag (running.lastTag + 1 + 0) = none)
      ∧ (last.store.up = true ∧ (∀ j : Fin 8, j < 7 → last.tag (last.lastTag + 1 + j) ≠ none)
        ∧ last.tag (last.lastTag + 1 + 7) = none)
      ∧ (queue.writeQueue = 6 :: [] ∧ queue.bufferOf 6 = some 0 ∧ walking.writeQueue = [])
      ∧ (walking.sweeper.phase = .running ∧ walking.sweeper.suspended = false ∧ walking.turn = .sweeper
        ∧ walking.verifier.phase = .running ∧ running.verifier.phase ≠ .running)
      ∧ (((of .verifying).entry 262143).state = .verifying ∧ ((of .deleteFailed).entry 262143).state = .deleteFailed
        ∧ (walking.entry 262143).state = .stored ∧ walking.params.verifyScope = .unverified
        ∧ (walking.entry 262143).figures.map Figures.verify = some .none) := by decide +kernel

theorem witness_ArbiterDeletesOnlyExpiredUnheld :
    let of := fun st : EntryState => ({ expired with
      catalog := expired.catalog.map fun p => (p.1, { p.2 with state := st }) } : State)
    let selector : HoldSelector := { switch := none, firstDay := 19000, lastDay := 19000, classes := 0x08#8 }
    (NMap.canonical {} expired.catalog = true ∧ ((arbitrate expired).entry 262143).state = .deleting
        ∧ (expired.entry 262143).state ≠ .deleting)
      ∧ (expired.store.up = true ∧ (expired.entry 262143).state = .stored
        ∧ (expired.entry 262143).expiryDay < expired.clock.currentDay.getD 0
        ∧ ¬ (expired.entry 262143).expiryDay < ({ expired with clock := { currentDay := some 20093 } } : State).clock.currentDay.getD 0)
      ∧ ((∀ h, expired.hold h = none) ∧ expired.pendingHolds = [] ∧ selector.matchesEntry (expired.entry 262143) = true)
      ∧ (((of .verifying).entry 262143).state = .verifying ∧ ((of .deleting).entry 262143).state = .deleting
        ∧ ((of .writing).entry 262143).state = .writing) := by decide +kernel

theorem witness_FlushSendsOldestFirst :
    let r : Report := { kind := .laneOverrun, stamp := 0, archiveDay := none, subject := none, value1 := 0, value2 := 0
                        value3 := 0 }
    let full : State := { running with reports := { entries := List.replicate 64 r, lost := 1, timer := none, due := false } }
    (running.reports.entries = [] ∧ running.reports.entries.length < 64)
      ∧ (full.feed.up = true ∧ full.reports.entries ≠ [] ∧ r ∈ full.reports.entries ∧ r.kind = .laneOverrun
        ∧ 64 ≤ full.reports.entries.length) := by decide +kernel

/-- On its expiry day an entry stays (R133). -/
theorem test_sweeper_keeps_on_expiry_day :
    ((arbitrate { expired with clock := { currentDay := some 20093 } }).entry 262143).state = .stored := by decide +kernel

/-- A pending audit hold list of one entry with the sweeper SUSPENDED. -/
def suspended : State :=
  let selector : HoldSelector := { switch := some 37, firstDay := 1, lastDay := 2, classes := 0xFF#8 }
  { running with
    pendingHolds := [selector]
    holds := Vector.replicate 64 (some { kind := .legal, selector := selector })
    sweeper := { suspended := true } }

theorem witness_BoundsStayKept :
    ReportsSound running ∧ ParamsInRange running ∧ ListsBounded suspended ∧ SuspendedExactly suspended
      ∧ step { suspended with pending := [.holdRelease 1 63] }
        = .next (after (step { suspended with pending := [.holdRelease 1 63] })) := by
  refine ⟨by unfold ReportsSound; decide, ?_, by unfold ListsBounded; decide, by unfold SuspendedExactly; decide, rfl⟩
  unfold ParamsInRange
  refine ⟨by decide, by decide, by decide, by decide, by decide, by decide, by decide, by decide, fun _ h => nomatch h⟩

theorem witness_BanksStaySound :
    BanksSound selecting ∧ step { selecting with pending := [.tableBegin 1 1 1] }
      = .next (after (step { selecting with pending := [.tableBegin 1 1 1] })) :=
  ⟨⟨by decide, by rintro _ ⟨⟩; decide⟩, rfl⟩

theorem witness_PausedSetStaysExact :
    PausedExactly paused ∧ WalkersSound paused
      ∧ step { paused with pending := [.parseRecord] } = .next (after (step { paused with pending := [.parseRecord] })) :=
  ⟨by unfold PausedExactly; decide, by unfold WalkersSound; decide +kernel, rfl⟩

theorem witness_CatalogStaysSound :
    CatalogSound archived
      ∧ step { archived with pending := [.sealTimeout 6] } = .next (after (step { archived with pending := [.sealTimeout 6] })) :=
  ⟨⟨by decide +kernel, by decide +kernel, fun st => by cases st <;> decide +kernel, by decide +kernel, by decide +kernel⟩,
    rfl⟩

theorem witness_RecordsStayConserved :
    RecordsConserved paused
      ∧ step { paused with pending := [.parseRecord] } = .next (after (step { paused with pending := [.parseRecord] })) :=
  ⟨conserved_paused, rfl⟩

theorem witness_GrantsStayTaken :
    GrantsTaken archived
      ∧ step { archived with pending := [.sealTimeout 6] } = .next (after (step { archived with pending := [.sealTimeout 6] })) :=
  ⟨by unfold GrantsTaken; decide +kernel, rfl⟩

/-! ### Witnesses: control requests -/

theorem attentive_running : Attentive running := ⟨rfl, rfl⟩
theorem attentive_linked : Attentive linked := ⟨rfl, rfl⟩

/-- A validation of bank 2 holds the head before three queries. -/
def queued (n : Nat) : State :=
  { running with
    control := { tag := 1, request := .tableEnd 2 0 0 } :: List.replicate n { tag := 2, request := .query .banks } }

theorem witness_RequestsWaitTheirTurn :
    requestOf (.queryIdent 9) = some (9, .query .ident) ∧ (queued 3).feed.up = true ∧ 4 ≤ (queued 3).control.length
      ∧ (queued 2).control ≠ [] ∧ (queued 2).control.length < 4 := by decide

theorem witness_WaitingRequestsAnswered :
    let waiting : State := { running with control := [{ tag := 2, request := .query .ident }] }
    let starting : State := { linked with control := [{ tag := 1, request := .start 65534 }] }
    let loading : State := { linked with
      banks := linked.banks.set 2 { state := .loading }, control := [{ tag := 1, request := .tableEnd 2 1 5 }] }
    (waiting.feed.up = true ∧ (takeTurns waiting).control = [] ∧ (takeTurns waiting).feedTx.length = 1)
      ∧ waiting.control = { tag := 2, request := .query .ident } :: []
      ∧ (starting.device = .starting ∧ (takeTurns starting).control = starting.control)
      ∧ ((loading.bank 2).state = .loading ∧ loading.device = .starting
        ∧ (∀ o, o ≠ 2 → (loading.bank o).holdsGeneration 5 = false) ∧ (takeTurns loading).control = loading.control)
      ∧ (requestOf (.queryIdent 2) = some (2, .query .ident) ∧ running.feed.up = true ∧ running.control = []) := by
  decide +kernel

theorem witness_RequestsRefusedByFormAndState :
    (requestOf (.catalogLoad 1 []) = some (1, .catalogLoad []) ∧ Attentive linked ∧ BadForm (.catalogLoad []))
      ∧ BadForm (.tableSelect 4 0) ∧ BadForm (.sweepStart 2)
      ∧ (requestOf (.dayClose 1) = some (1, .dayClose) ∧ ¬ BadForm .dayClose ∧ refusedIn .dayClose = some linked.device)
      ∧ (requestOf (.start 1 0) = some (1, .start 0) ∧ ¬ BadForm (.start 0) ∧ refusedIn (.start 0) = some running.device) := by
  refine ⟨⟨rfl, attentive_linked, ?_⟩, ?_, ?_, ⟨rfl, id, rfl⟩, ⟨rfl, id, rfl⟩⟩ <;> (unfold BadForm; decide)

theorem witness_StartAndItsCompletion :
    (Attentive linked ∧ linked.device = .starting ∧ 65534 ≤ 65534 ∧ 65534 < 65535)
      ∧ (({ linked with control := [{ tag := 1, request := .start 65534 }] } : State).control
        = { tag := 1, request := .start 65534 } :: [])
      ∧ (∀ tag day rest, linked.control ≠ { tag, request := .start day } :: rest)
      ∧ (let held : CatalogEntry := {
           state := .stored, opening := some { key := { cls := 1, day := 20093, bank := 1, generation := 40 }, late := false } }
         NMap.canonical {} [(5, held)] = true ∧ (NMap.read {} [(5, held)] 5).state ≠ .free
           ∧ largestGeneration [(5, held)] = 40) :=
  ⟨⟨attentive_linked, by decide⟩, rfl, fun _ _ _ h => (by cases h), by decide +kernel⟩

theorem witness_CatalogLoadPlacesEntries :
    let bad : LoadEntry := { loaded with segmentId := 262144 }
    let taken : State := { linked with catalog := [(9, { state := .stored })] }
    (Attentive linked ∧ linked.device = .starting ∧ 1 ≤ [loaded, bad].length ∧ [loaded, bad].length ≤ 8
        ∧ [loaded, bad] = [loaded] ++ bad :: [] ∧ (∀ x ∈ [loaded], badLoadEntry x = false) ∧ badLoadEntry bad = true)
      ∧ ((∀ e ∈ [loaded, loaded], badLoadEntry e = false) ∧ [loaded, loaded] = [loaded] ++ loaded :: []
        ∧ (linked.entry 9).state = .free ∧ ([loaded].map LoadEntry.segmentId).Nodup
        ∧ loaded.segmentId ∈ [loaded].map LoadEntry.segmentId)
      ∧ ([loaded] = [] ++ loaded :: [] ∧ (taken.entry loaded.segmentId).state ≠ .free)
      ∧ NMap.canonical {} linked.catalog = true := by
  refine ⟨⟨attentive_linked, ?_⟩, ?_⟩ <;> decide +kernel

theorem witness_TableBeginClearsBank :
    Attentive banked ∧ (banked.bank 0).state = .active ∧ (banked.bank 3).state = .draining
      ∧ ((banked.bank 1).state = .ready ∧ 0 < (banked.bank 1).references ∧ (1 : Nat) ≤ 1) ∧ (banked.bank 2).state = .loading
      ∧ (running.bank 0).state = .empty := by
  refine ⟨⟨rfl, rfl⟩, ?_⟩
  decide

theorem witness_TableWriteStoresRun :
    Attentive banked ∧ 1 ≤ entryCount (.classTable [1, 1095]) ∧ entryCount (.serviceMap (List.replicate 64 7)) ≤ 64
      ∧ (banked.bank 1).state ≠ .loading ∧ (banked.bank 2).state = .loading
      ∧ (6 + entryCount (.classTable [1, 1095]) = 7 + 1) ∧ (7 + 1 < 7 + entryCount (.classTable [1, 1095]))
      ∧ ([1, 1096][1]? = some 1096 ∧ 1095 < 1096)
      ∧ NMap.canonical 1 (banked.bank 2).classTable = true := by
  refine ⟨⟨rfl, rfl⟩, ?_⟩
  decide +kernel

theorem witness_TableEndAndValidation :
    let starting : State := { banked with device := .starting }
    let spent : State := { banked with loadCounter := 4294967295 }
    let waiting : State := { banked with control := [{ tag := 1, request := .tableEnd 2 0 0 }] }
    (Attentive banked ∧ (banked.bank 1).state ≠ .loading ∧ (banked.bank 2).state = .loading ∧ banked.device = .running)
      ∧ (Attentive starting ∧ starting.device = .starting
        ∧ (∃ o, o ≠ 2 ∧ (starting.bank o).holdsGeneration 4 = true) ∧ ¬ ∃ o, o ≠ 2 ∧ (starting.bank o).holdsGeneration 5 = true)
      ∧ (spent.loadCounter = 4294967295 ∧ banked.loadCounter ≠ 4294967295)
      ∧ (waiting.feed.up = true ∧ waiting.control = { tag := 1, request := .tableEnd (2 : Fin 4).val 0 0 } :: []
        ∧ NMap.canonical [] (waiting.bank 2).dictionary = true
        ∧ NMap.read [] (waiting.bank 2).dictionary 9 ≠ []
        ∧ NMap.read [] (waiting.bank 2).dictionary 3 = NMap.read [] (waiting.bank 2).dictionary 9)
      ∧ NMap.canonical [] bank1.dictionary = true := by
  refine ⟨⟨⟨rfl, rfl⟩, ?_⟩, ⟨⟨rfl, rfl⟩, ?_⟩, ?_⟩ <;> decide +kernel

theorem witness_TableSelectByBankState :
    let none : State := { banked with banks := banked.banks.set 0 {} }
    (Attentive banked ∧ (banked.bank 0).state = .active ∧ (banked.bank 1).state = .ready ∧ (banked.bank 2).state = .loading
        ∧ (banked.bank 3).state = .draining ∧ ∃ o, (banked.bank o).state = .active)
      ∧ (Attentive none ∧ (none.bank 1).state = .ready ∧ (∀ o, (none.bank o).state ≠ .active) ∧ (none.bank 0).state = .empty)
      ∧ (BanksSound banked ∧ (banked.bank 0).boundFiles = 0
        ∧ 0 < (({ banked with banks := banked.banks.set 0 { bank1 with boundFiles := 1 } } : State).bank 0).boundFiles) := by
  refine ⟨⟨⟨rfl, rfl⟩, ?_⟩, ⟨⟨rfl, rfl⟩, ?_⟩, ⟨⟨by decide, fun _ h => nomatch h⟩, ?_⟩⟩ <;> decide

theorem witness_TableCancelDropsSelection :
    Attentive selecting ∧ selecting.selection ≠ none ∧ Attentive running ∧ running.selection = none :=
  ⟨⟨rfl, rfl⟩, by decide, attentive_running, rfl⟩

theorem witness_DayCloseAdvances :
    let late : State := { running with clock := { currentDay := some 65534 } }
    let last : State := { running with clock := { currentDay := some 65533 } }
    (Attentive late ∧ late.device = .running ∧ late.clock.currentDay = some 65534 ∧ 65533 < 65534)
      ∧ (Attentive last ∧ last.device = .running ∧ last.clock.currentDay = some 65533 ∧ 65533 ≤ 65533) := by
  refine ⟨⟨⟨rfl, rfl⟩, ?_⟩, ⟨⟨rfl, rfl⟩, ?_⟩⟩ <;> decide

theorem witness_DayTableFollowsClose :
    let closing : State := { running with clock := { currentDay := some (20094 + 1) } }
    closing.clock.currentDay = some (20094 + 1) ∧ (closing.days.map DayRecord.day).Pairwise (· < ·)
      ∧ ∀ d ∈ closing.days, d.day ≤ 20094 + 1 := by decide

theorem witness_AdditionReachesItsRow :
    (running.clock.currentDay = some 20094 ∧ linked.clock.currentDay = none) ∧ running.dayRecord 20096 = none
      ∧ (running.dayRecord 20094 = some { day := 20094, state := .opened }
        ∧ NMap.rising ({ day := 20094, state := .opened } : DayRecord).rows = true) := by decide

/-- A deletion outstanding on tag 2, of the entry of `expired`. -/
def deleting : State :=
  { expired with
    catalog := expired.catalog.map (fun p => (p.1, { p.2 with state := .deleting }))
    sweeper := {}
    tags := expired.tags.set 2 (some { operation := .delete, segmentId := 262143, edition := 5, expiry := 2000 }) }

theorem witness_HoldsAddedAndReleased :
    let rested : State := { suspended with sweeper := { suspended := true, phase := .resting, restExpiry := some 0 } }
    let two : State := { suspended with pendingHolds := suspended.pendingHolds ++ suspended.pendingHolds }
    (Attentive linked ∧ linked.device = .starting)
      ∧ (Attentive deleting ∧ deleting.device = .running ∧ deleting.hold 0 = none
        ∧ deleting.tag 2 = some { operation := .delete, segmentId := 262143, edition := 5, expiry := 2000 }
        ∧ (deleting.entry 262143).state = .deleting)
      ∧ (65535 < 65536 ∧ (511 < 512 ∧ 512 ≠ 0xFFFF) ∧ 256 % 256 = 0)
      ∧ (Attentive suspended ∧ suspended.device = .running ∧ (∀ h, suspended.hold h ≠ none) ∧ suspended.hold 63 ≠ none)
      ∧ (Attentive running ∧ running.hold 63 = none ∧ running.pendingHolds = [] ∧ 63 < 64)
      ∧ (suspended.pendingHolds.length = 1 ∧ two.pendingHolds.length = 2)
      ∧ (rested.sweeper.phase = .resting ∧ rested.sweeper.restExpiry = some 0 ∧ rested.reached 0 = true)
      ∧ suspended.sweeper.phase ≠ .resting := by
  refine ⟨⟨attentive_linked, ?_⟩, ⟨⟨rfl, rfl⟩, ?_⟩, ?_, ⟨⟨rfl, rfl⟩, ?_⟩, ⟨attentive_running, ?_⟩, ?_⟩ <;> decide +kernel

theorem witness_WalkersStartAndStop :
    let stopped : State := { running with sweeper := { phase := .stopped }, verifier := { phase := .stopped } }
    let resting : State := { running with sweeper := { phase := .resting }, verifier := { phase := .resting } }
    (Attentive running ∧ running.device = .running ∧ running.sweeper.phase = .idle ∧ running.verifier.phase = .idle)
      ∧ (Attentive stopped ∧ stopped.device = .running ∧ stopped.sweeper.phase = .stopped ∧ stopped.verifier.phase = .stopped)
      ∧ (Attentive resting ∧ resting.device = .running ∧ inPass resting.sweeper.phase ∧ inPass resting.verifier.phase) := by
  unfold inPass
  refine ⟨⟨attentive_running, ?_⟩, ⟨⟨rfl, rfl⟩, ?_⟩, ⟨⟨rfl, rfl⟩, ?_⟩⟩ <;> decide

/-- The entry of `expired` in another state, with segment buffer 4 FAILED for it. -/
def failedEntry (st : EntryState) : State :=
  { expired with
    catalog := expired.catalog.map (fun p => (p.1, { p.2 with state := st }))
    buffers := expired.buffers.set 4 { state := .failed, segmentId := 262143 } }

theorem witness_FailedSegmentsRetriedOrDiscarded :
    let w := failedEntry .writeFailed
    (Attentive w ∧ w.device = .running ∧ (w.entry 262143).edition = 5 ∧ (w.entry 262143).state = .writeFailed
        ∧ (w.entry 262143).figures.isSome = true ∧ w.bufferOf 262143 = some 4)
      ∧ ((failedEntry .deleteFailed).entry 262143).state = .deleteFailed ∧ (expired.entry 262143).state = .stored
      ∧ (w.entry 262143).edition ≠ 6 ∧ 262144 ≤ 262144 ∧ 262143 < 262144 := by
  refine ⟨⟨⟨rfl, rfl⟩, ?_⟩, ?_⟩ <;> decide +kernel

theorem witness_FreedEntryReturnsItsId :
    ((deleting.entry 262143).opening = some { key := { key3 with day := 19000 }, late := false })
      ∧ deleting.catalogFull = false ∧ ({ deleting with catalogFull := true } : State).catalogFull = true := by decide +kernel

theorem witness_SetsTakeClampedValues : Attentive running := attentive_running

theorem witness_QueriesReadState :
    (Attentive selecting ∧ selecting.recent = [{ context := file, outcome := .aborted }]
        ++ { context := file, outcome := .reconciled } :: [] ∧ ([] : List RecentEntry).length ≤ 63
        ∧ selecting.recent.length ≤ 63)
      ∧ (15 < 16 ∧ 63 < 64 ∧ 262143 < 262144 ∧ 511 < 512 ∧ 512 ≠ 0xFFFF)
      ∧ (selecting.bank 0).state = .active ∧ (∀ b, (linked.bank b).state ≠ .active)
      ∧ selecting.dayRecord 20096 = none ∧ (selecting.dayRecord 20095).isSome = true := by
  refine ⟨⟨⟨rfl, rfl⟩, ?_⟩, ?_⟩ <;> decide

/-! ### Witnesses: the Store link and the timers -/

/-- A read outstanding on tag 7, of the entry of `expired`. -/
def reading : State :=
  { expired with
    catalog := expired.catalog.map (fun p => (p.1, { p.2 with state := .verifying }))
    sweeper := {}
    verifier := { phase := .running, cursor := 3, readBuffer := [1] }
    tags := expired.tags.set 7 (some { operation := .read, segmentId := 262143, edition := 5, expiry := 2000 }) }

theorem witness_StoreAcknowledgementsEndOperations :
    (writing.store.up = true ∧ writing.tag 0 = some { operation := .write, segmentId := 6, edition := 0, expiry := 302000 }
        ∧ (writing.entry 6).state = .writing ∧ (writing.entry 6).figures = some figures6
        ∧ (writing.entry 6).opening = some opening6 ∧ writing.bufferOf 6 = some 0 ∧ figures6.writeAttempts + 1 < 3)
      ∧ 3 ≤ ({ figures6 with writeAttempts := 2 } : Figures).writeAttempts + 1
      ∧ (deleting.store.up = true ∧ (deleting.entry 262143).state = .deleting ∧ (deleting.entry 262143).figures.isSome = true)
      ∧ (reading.store.up = true ∧ (reading.entry 262143).state = .verifying ∧ (reading.entry 262143).figures.isSome = true
        ∧ (reading.tag 7).map Outstanding.operation = some .read) := by decide +kernel

theorem witness_StoreDataAndStrays :
    (running.store.up = true ∧ running.tag 7 = none ∧ 16384 < (List.replicate 16385 (0 : Byte)).length
        ∧ (List.replicate 16384 (0 : Byte)).length ≤ 16384)
      ∧ (writing.store.up = true ∧ (writing.tag 0).map Outstanding.operation = some .write)
      ∧ (reading.store.up = true ∧ reading.tag 7 = some { operation := .read, segmentId := 262143, edition := 5, expiry := 2000 }
        ∧ ((262143 : Nat) ≠ 262142 ∨ (5 : Nat) ≠ 5)) := by
  simp only [List.length_replicate]
  decide +kernel

theorem witness_TagTimeoutFailsOperation :
    let late := fun s : State => { s with runTime := 302000 }
    running.tag 7 = none
      ∧ (writing.tag 0 = some { operation := .write, segmentId := 6, edition := 0, expiry := 302000 }
        ∧ ({ writing with runTime := 301999 } : State).reached 302000 = false ∧ (late writing).reached 302000 = true
        ∧ ((late writing).entry 6).state = .writing ∧ (late writing).bufferOf 6 = some 0)
      ∧ ((late deleting).reached 2000 = true ∧ ((late deleting).entry 262143).state = .deleting
        ∧ (deleting.tag 2).map Outstanding.expiry = some 2000)
      ∧ ((late reading).reached 2000 = true ∧ ((late reading).entry 262143).state = .verifying
        ∧ (reading.tag 7).map Outstanding.expiry = some 2000) := by decide +kernel

theorem witness_TimersExpire :
    let waiting : State := { running with
      runTime := 999
      fullWaits := [{ segmentId := 6, expiry := 1000 }, { segmentId := 7, expiry := 999 }]
      sweeper := { phase := .resting, restExpiry := some 999 }
      verifier := { phase := .resting, restExpiry := some 1000 }
      reports := { entries := [], lost := 0, timer := some 999, due := false } }
    (∀ w ∈ waiting.fullWaits, w.segmentId ≠ 8)
      ∧ (waiting.fullWaits = [{ segmentId := 6, expiry := 1000 }] ++ { segmentId := 7, expiry := 999 } :: []
        ∧ (∀ x ∈ [({ segmentId := 6, expiry := 1000 } : FullWait)] ++ [], x.segmentId ≠ 7))
      ∧ waiting.reached 999 = true ∧ waiting.reached 1000 = false
      ∧ waiting.sweeper.phase = .resting ∧ waiting.verifier.phase = .resting ∧ waiting.reports.timer = some 999
      ∧ running.sweeper.phase ≠ .resting ∧ running.verifier.phase ≠ .resting ∧ running.reports.timer = none
      ∧ (let late : State := { running with runTime := 4294967293 }
         (5 : Nat) < 2147483648 ∧ (5 : Nat) < 5 + 2147483648 ∧ (late.runTime + 5) % 4294967296 = 2
           ∧ ({ late with runTime := 1 } : State).reached 2 = false ∧ ({ late with runTime := 2 } : State).reached 2 = true) := by
  decide

end Sys2Proof.Tests
end

namespace Sys2Proof.Machine

/-! ### Chapter 1: the four tests, the archive day and the day window -/

theorem badNumber_iff (n : Number) :
    badNumber n = true ↔ 20 < n.count ∨ ∃ d ∈ n.digits.take n.count, 9 < d := by
  simp [badNumber, countedDigits]

/-- R3 in numbers. -/
theorem badField_iff (r : CallRecord) :
    badField r = true ↔ r.kind = 0 ∨ 16 ≤ r.kind
      ∨ (20 < r.calling.count ∨ ∃ d ∈ r.calling.digits.take r.calling.count, 9 < d)
      ∨ (20 < r.called.count ∨ ∃ d ∈ r.called.digits.take r.called.count, 9 < d) ∨ 172800 < r.duration := by
  simp only [badField, Bool.or_eq_true, badNumber_iff, decide_eq_true_eq, or_assoc, Nat.succ_le_iff]

/-- R5: the archive day is the floor of the adjusted time over a day's seconds, and is computable exactly when that floor
is a day. -/
theorem archiveDay_eq_some_iff (startTime : Nat) (offset : Int) (day : Nat) :
    archiveDay startTime offset = some day ↔
      (0 ≤ (startTime : Int) + 60 * offset ∧ ((startTime : Int) + 60 * offset) / 86400 ≤ 65535)
        ∧ (day : Int) = ((startTime : Int) + 60 * offset) / 86400 := by
  simp only [archiveDay, Config.lastDay, Config.secondsPerDay]
  split
  case isTrue before => simp only [reduceCtorEq, false_iff]; omega
  case isFalse since =>
    split
    case isTrue beyond => simp only [reduceCtorEq, false_iff]; omega
    case isFalse within => simp only [Option.some.injEq]; omega

/-- R10, while the Day Clock is set. -/
theorem DayClock.inWindow_iff {c : DayClock} {current : Nat} (hset : c.currentDay = some current) (day : Nat) :
    c.inWindow day = true ↔ current - c.lateWindow ≤ day ∧ day ≤ current + 1 := by
  simp [DayClock.inWindow, DayClock.window, hset]

theorem dayInWindow_iff (c : DayClock) (day : Option Nat) :
    dayInWindow c day = true ↔ ∃ d, day = some d ∧ c.inWindow d = true := by
  cases day <;> simp [dayInWindow]

/-- R6 in numbers: the archive day passes the TIME_RANGE test. -/
theorem dayInWindow_archiveDay_iff {c : DayClock} {current : Nat} (hset : c.currentDay = some current)
    (startTime : Nat) (offset : Int) :
    dayInWindow c (archiveDay startTime offset) = true ↔
      (0 ≤ (startTime : Int) + 60 * offset ∧ ((startTime : Int) + 60 * offset) / 86400 ≤ 65535)
        ∧ ((current - c.lateWindow : Nat) : Int) ≤ ((startTime : Int) + 60 * offset) / 86400
        ∧ ((startTime : Int) + 60 * offset) / 86400 ≤ (current : Int) + 1 := by
  simp only [dayInWindow_iff, archiveDay_eq_some_iff, DayClock.inWindow_iff hset]
  constructor
  · rintro ⟨d, ⟨hcomputable, hd⟩, hfirst, hlast⟩
    exact ⟨hcomputable, by omega, by omega⟩
  · rintro ⟨hcomputable, hfirst, hlast⟩
    exact ⟨(((startTime : Int) + 60 * offset) / 86400).toNat, ⟨hcomputable, by omega⟩, by omega, by omega⟩

/-! ### The reason is that of the first test failed (R2) -/

section
variable (c : DayClock) (bank : Bank) (fileSwitch : Nat) (r : CallRecord)

/-- Everything `rejectReason` can answer, each answer with the tests passed before it. -/
theorem rejectReason_cases :
    (badField r = true ∧ rejectReason c bank fileSwitch r = some .badField)
    ∨ (badField r ≠ true ∧ r.switchId ≠ fileSwitch ∧ rejectReason c bank fileSwitch r = some .switchMismatch)
    ∨ (badField r ≠ true ∧ r.switchId = fileSwitch
        ∧ dayInWindow c (archiveDay r.startTime (bank.switchOf fileSwitch).offset) ≠ true
        ∧ rejectReason c bank fileSwitch r = some .timeRange)
    ∨ (badField r ≠ true ∧ r.switchId = fileSwitch
        ∧ dayInWindow c (archiveDay r.startTime (bank.switchOf fileSwitch).offset) = true
        ∧ bank.classOf r.service = 0 ∧ rejectReason c bank fileSwitch r = some .serviceUnmapped)
    ∨ (badField r ≠ true ∧ r.switchId = fileSwitch
        ∧ dayInWindow c (archiveDay r.startTime (bank.switchOf fileSwitch).offset) = true
        ∧ bank.classOf r.service ≠ 0 ∧ rejectReason c bank fileSwitch r = none) := by
  unfold rejectReason
  by_cases hfield : badField r = true
  · simp [hfield]
  by_cases hswitch : r.switchId = fileSwitch
  · by_cases hday : dayInWindow c (archiveDay r.startTime (bank.switchOf fileSwitch).offset) = true
    · by_cases hclass : bank.classOf r.service = 0 <;> simp [hfield, hswitch, hday, hclass]
    · simp [hfield, hswitch, hday]
  · simp [hfield, hswitch]

@[simp] theorem validate_reason : (validate c bank fileSwitch r).reason = rejectReason c bank fileSwitch r := rfl
@[simp] theorem validate_day : (validate c bank fileSwitch r).day = assignedDay c bank fileSwitch r := rfl

variable {c bank fileSwitch r}

/-- R7: a valid record has the class of the service map. -/
theorem validate_cls_of_valid (hvalid : rejectReason c bank fileSwitch r = none) :
    (validate c bank fileSwitch r).cls = bank.classOf r.service := by
  simp [validate, hvalid]

theorem validate_cls_of_rejected (hrejected : rejectReason c bank fileSwitch r ≠ none) :
    (validate c bank fileSwitch r).cls = 0 := by
  obtain ⟨reason, hreason⟩ := Option.ne_none_iff_exists'.mp hrejected
  simp [validate, hreason]

/-- R8: a record whose archive day lies in the window is stored on it. -/
theorem archiveDay_eq_assignedDay
    (hinside : dayInWindow c (archiveDay r.startTime (bank.switchOf fileSwitch).offset) = true) :
    archiveDay r.startTime (bank.switchOf fileSwitch).offset = some (assignedDay c bank fileSwitch r) := by
  obtain ⟨d, hd, hwindow⟩ := (dayInWindow_iff _ _).mp hinside
  simp [assignedDay, hd, dayInWindow, hwindow]

/-- R8: any other record is stored on the current day. -/
theorem assignedDay_of_outside {current : Nat} (hset : c.currentDay = some current)
    (houtside : dayInWindow c (archiveDay r.startTime (bank.switchOf fileSwitch).offset) ≠ true) :
    assignedDay c bank fileSwitch r = current := by
  simp [assignedDay, houtside, hset]

end

/-- Settles O21: the tests read in numbers, then the reason by the cases of `rejectReason`, the class by the reason, and the
day by the window. -/
theorem validationInOrder : Obligations.ValidationInOrder := by
  intro clock bank fileSwitch r current hset adjusted computable inside badDigits fails v
  have hfield : fails ↔ badField r = true := (badField_iff r).symm
  have hinside : inside ↔ dayInWindow clock (archiveDay r.startTime (bank.switchOf fileSwitch).offset) = true :=
    (dayInWindow_archiveDay_iff hset _ _).symm
  have hreason : v.reason = rejectReason clock bank fileSwitch r := validate_reason ..
  have hclass : NMap.read 0 bank.serviceMap r.service = bank.classOf r.service := rfl
  rw [hfield, hinside, hreason, hclass]
  have hcases := rejectReason_cases clock bank fileSwitch r
  refine ⟨?badField, ?switchMismatch, ?timeRange, ?serviceUnmapped, fun hvalid => ⟨validate_cls_of_valid hvalid, ?mapped⟩,
    validate_cls_of_rejected, fun hin => ?dated, assignedDay_of_outside hset⟩
  case badField | switchMismatch | timeRange | serviceUnmapped => grind
  case mapped => rw [validate_cls_of_valid hvalid]; grind
  case dated => exact ((archiveDay_eq_some_iff ..).mp (archiveDay_eq_assignedDay hin)).2

end Sys2Proof.Machine

namespace Sys2Proof.Machine

open Sys2Proof.Safety

/-! ### A control request taken at its arrival (R169, R173, R182) -/

/-- `s` with another control queue. -/
def State.queueing (queue : List QueuedRequest) (s : State) : State := { s with control := queue }

section
variable {s t : State}

theorem State.queueing_of_control {queue : List QueuedRequest} (h : s.control = queue) : s.queueing queue = s := by
  cases h; rfl

/-- R173: a response neither reads nor changes the control queue. -/
theorem respond_queueing (queue : List QueuedRequest) (tag code : Nat) (rc : ResponseCode) (results : Results) :
    respond tag code rc results (s.queueing queue) = (respond tag code rc results s).queueing queue := by
  unfold respond sendFeed
  split
  case isTrue hup => rw [if_pos (show s.feed.up = true from hup)]; rfl
  case isFalse hdown => rw [if_neg (show ¬ s.feed.up = true from hdown)]

theorem respond_of_up (hup : s.feed.up = true) (tag code : Nat) (rc : ResponseCode) (results : Results) :
    respond tag code rc results s = replied tag code rc results s :=
  sendFeed_up s _ hup

theorem receiveGood_feed_of_up (hup : s.feed.up = true) : receiveGood .feed s = heardFeed s := by
  simp [receiveGood, heardFeed, State.port, State.setPort, Port.afterGood, satAdd, hup]

theorem controlArrives_of_empty (hempty : s.control = []) (q : QueuedRequest) :
    controlArrives q s = runQueue 1 (s.queueing [q]) := by
  simp [controlArrives, takeTurns, State.queueing, Config.controlQueueLimit, hempty]

theorem runQueue_succ_of_free {q : QueuedRequest} {rest : List QueuedRequest} (hhead : s.control = q :: rest)
    (hfree : holdsHead q.request s = false) (n : Nat) :
    runQueue (n + 1) s = runQueue n ((takeRequest q s).queueing ((takeRequest q s).control.drop 1)) := by
  simp [runQueue, State.queueing, hhead, hfree]

/-- R169: a request that enters an empty queue and does not hold its head is taken at once, and leaves the queue with its
response. -/
theorem controlArrives_of_taken {q : QueuedRequest} (hempty : s.control = [])
    (hfree : holdsHead q.request (s.queueing [q]) = false) (htaken : takeRequest q (s.queueing [q]) = t.queueing [q]) :
    controlArrives q s = t.queueing [] := by
  rw [controlArrives_of_empty hempty, runQueue_succ_of_free (s := s.queueing [q]) rfl hfree, htaken]
  rfl

/-- The frame of a request taken at its arrival: `t` is what the request makes of the state that has heard it. -/
theorem controlFrame_of_taken {tag : Nat} {r : Request} (hs : Attentive s)
    (hfree : holdsHead r ((heardFeed s).queueing [⟨tag, r⟩]) = false)
    (htaken : takeRequest ⟨tag, r⟩ ((heardFeed s).queueing [⟨tag, r⟩]) = t.queueing [⟨tag, r⟩])
    (hleft : t.control = []) :
    controlFrame tag r s = flushReports t := by
  obtain ⟨hup, hempty⟩ := hs
  have hheard : (heardFeed s).control = [] := hempty
  rw [controlFrame, receiveGood_feed_of_up hup, controlArrives_of_taken hheard hfree htaken, State.queueing_of_control hleft]

/-! ### TABLE_CANCEL (R56) -/

theorem takeTableCancel_of_none (h : s.selection = none) (tag : Nat) :
    takeTableCancel tag s = respond tag 0x14 .notFound .none s := by
  simp [takeTableCancel, h, answer, requestCode]

theorem takeTableCancel_of_pending (h : s.selection ≠ none) (tag : Nat) :
    takeTableCancel tag s = respond tag 0x14 .done .none { s with selection := none } := by
  obtain ⟨selection, hselection⟩ := Option.ne_none_iff_exists'.mp h
  simp [takeTableCancel, hselection, answer, requestCode]

theorem takeTableCancel_control (tag : Nat) : (takeTableCancel tag s).control = s.control := by
  by_cases h : s.selection = none
  · rw [takeTableCancel_of_none h]; exact sendFeed_control ..
  · rw [takeTableCancel_of_pending h]; exact sendFeed_control ..

theorem takeTableCancel_queueing (queue : List QueuedRequest) (tag : Nat) :
    takeTableCancel tag (s.queueing queue) = (takeTableCancel tag s).queueing queue := by
  by_cases h : s.selection = none
  · rw [takeTableCancel_of_none h, takeTableCancel_of_none (s := s.queueing queue) h, respond_queueing]
  · rw [takeTableCancel_of_pending h, takeTableCancel_of_pending (s := s.queueing queue) h, ← respond_queueing]
    rfl

/-- TABLE_CANCEL has no operands to test and is allowed in either device state (R170, R171). -/
theorem takeRequest_tableCancel (tag : Nat) : takeRequest ⟨tag, .tableCancel⟩ s = takeTableCancel tag s := rfl

theorem holdsHead_tableCancel : holdsHead .tableCancel s = false := rfl

theorem exec_tableCancel_of_attentive (hs : Attentive s) (tag : Nat) :
    exec (.tableCancel tag) s = .next (flushReports (takeTableCancel tag (heardFeed s))) := by
  have hleft : (takeTableCancel tag (heardFeed s)).control = [] := (takeTableCancel_control tag).trans hs.2
  have htaken := takeTableCancel_queueing (s := heardFeed s) [⟨tag, .tableCancel⟩] tag
  exact congrArg Host.Outcome.next <|
    controlFrame_of_taken hs holdsHead_tableCancel ((takeRequest_tableCancel tag).trans htaken) hleft

end

/-- Settles O47: the request is taken at its arrival, and R56 has one case for a pending selection and one for none. -/
theorem tableCancelDropsSelection : Obligations.TableCancelDropsSelection := by
  intro s tag hs
  rw [exec_tableCancel_of_attentive hs]
  obtain ⟨hup, -⟩ := hs
  constructor
  case left =>
    intro hpending
    have hkept : (heardFeed s).selection ≠ none := hpending
    rw [takeTableCancel_of_pending hkept, respond_of_up (s := { heardFeed s with selection := none }) hup]
  case right =>
    intro hnone
    have hkept : (heardFeed s).selection = none := hnone
    rw [takeTableCancel_of_none hkept, respond_of_up (s := heardFeed s) hup]

end Sys2Proof.Machine

namespace Sys2Proof.Machine

/-! ### Chapter 4: the Duplicate Filter -/

/-! #### Ways and look-ups -/

theorem liveWay_iff (c : DayClock) (w : Option Way) :
    liveWay c w = true ↔ ∃ e, w = some e ∧ c.inWindow e.day = true := by
  cases w <;> simp [liveWay]

theorem Way.holdsKey_iff (e : Way) (r : CallRecord) :
    e.holdsKey r = true ↔ e.switch = r.switchId ∧ e.sequence = r.sequence ∧ e.startTime = r.startTime := by
  simp [Way.holdsKey, and_assoc]

/-- R65: a look-up hits when a live way of the bucket holds the key. -/
theorem filterHit_iff (c : DayClock) (filter : NMap Way) (r : CallRecord) :
    filterHit c filter r = true ↔ ∃ w < 8, ∃ e, wayAt filter (bucketOf r) w = some e ∧ c.inWindow e.day = true
      ∧ e.switch = r.switchId ∧ e.sequence = r.sequence ∧ e.startTime = r.startTime := by
  simp only [filterHit, List.any_eq_true, List.mem_range]
  refine exists_congr fun w => and_congr_right fun _ => ?_
  cases wayAt filter (bucketOf r) w with
  | none => simp
  | some e => simp [Way.holdsKey_iff]

/-- A write to a way reads back there and leaves every other way: the keys of two ways below 8 differ when their buckets or
their numbers do. -/
theorem wayAt_insert (filter : NMap Way) (e : Way) {bucket w : Nat} (hw : w < 8) {b x : Nat} (hx : x < 8) :
    wayAt (NMap.insert filter (bucket * Config.filterWays + w) e) b x
      = if b = bucket ∧ x = w then some e else wayAt filter b x := by
  have hkey : b * Config.filterWays + x = bucket * Config.filterWays + w ↔ b = bucket ∧ x = w := by
    simp only [Config.filterWays]; omega
  simp only [wayAt, NMap.find?_insert, hkey]

/-! #### The way that an insertion writes (R67, R68) -/

/-- `w` is the lowest-numbered of the numbers below `n` at which `f` is lowest. -/
def IsFirstLowest (f : Nat → Nat) (n w : Nat) : Prop :=
  w < n ∧ ∀ x < n, f w ≤ f x ∧ (x < w → f w < f x)

theorem isFirstLowest_one (f : Nat → Nat) : IsFirstLowest f 1 0 := by
  refine ⟨Nat.one_pos, fun x hx => ?_⟩
  obtain rfl : x = 0 := Nat.lt_one_iff.mp hx
  simp

theorem IsFirstLowest.succ {f : Nat → Nat} {n best : Nat} (h : IsFirstLowest f n best) :
    IsFirstLowest f (n + 1) (if f n < f best then n else best) := by
  obtain ⟨hbest, hlowest⟩ := h
  split
  case isTrue hlower =>
    refine ⟨Nat.lt_succ_self n, fun x hx => ?_⟩
    obtain hx | rfl := Nat.lt_succ_iff_lt_or_eq.mp hx
    · have := (hlowest x hx).1
      omega
    · omega
  case isFalse hnot =>
    refine ⟨Nat.lt_succ_of_lt hbest, fun x hx => ?_⟩
    obtain hx | rfl := Nat.lt_succ_iff_lt_or_eq.mp hx
    · exact hlowest x hx
    · omega

theorem isFirstLowest_foldl (f : Nat → Nat) (n : Nat) :
    IsFirstLowest f (n + 1) ((List.range (n + 1)).foldl (fun best w => if f w < f best then w else best) 0) := by
  induction n with
  | zero => simpa using isFirstLowest_one f
  | succ n ih =>
    rw [List.range_succ, List.foldl_append]
    exact ih.succ

theorem oldestWay_isFirstLowest (filter : NMap Way) (bucket : Nat) :
    IsFirstLowest (wayDay filter bucket) 8 (oldestWay filter bucket) :=
  isFirstLowest_foldl (wayDay filter bucket) 7

/-- Everything `chooseWay` can answer: the first way that is not live, or, when all are, the first of the lowest day. -/
theorem chooseWay_cases (c : DayClock) (filter : NMap Way) (bucket : Nat) :
    (∃ w < 8, liveWay c (wayAt filter bucket w) = false ∧ (∀ x < w, liveWay c (wayAt filter bucket x) = true)
      ∧ chooseWay c filter bucket = (w, false))
    ∨ ((∀ x < 8, liveWay c (wayAt filter bucket x) = true)
      ∧ chooseWay c filter bucket = (oldestWay filter bucket, true)) := by
  unfold chooseWay
  split
  case h_1 w hfound =>
    obtain ⟨hdead, hw, hbefore⟩ := List.find?_range_eq_some.mp hfound
    exact .inl ⟨w, List.mem_range.mp hw, by simpa using hdead, by simpa using hbefore, rfl⟩
  case h_2 hnone =>
    exact .inr ⟨by simpa using List.find?_range_eq_none.mp hnone, rfl⟩

theorem chooseWay_lt (c : DayClock) (filter : NMap Way) (bucket : Nat) : (chooseWay c filter bucket).1 < 8 := by
  obtain ⟨w, hw, -, -, hchosen⟩ | ⟨-, hchosen⟩ := chooseWay_cases c filter bucket
  · rwa [hchosen]
  · rw [hchosen]
    exact (oldestWay_isFirstLowest filter bucket).1

/-- R67 step 1: a way that is not live is written before any live one, and nothing is evicted. -/
theorem chooseWay_of_dead {c : DayClock} {filter : NMap Way} {bucket : Nat}
    (hdead : ∃ x < 8, ¬ liveWay c (wayAt filter bucket x) = true) :
    ¬ liveWay c (wayAt filter bucket (chooseWay c filter bucket).1) = true
      ∧ (∀ x < (chooseWay c filter bucket).1, liveWay c (wayAt filter bucket x) = true)
      ∧ (chooseWay c filter bucket).2 = false := by
  obtain ⟨w, -, hnot, hbefore, hchosen⟩ | ⟨hlive, -⟩ := chooseWay_cases c filter bucket
  · rw [hchosen]
    exact ⟨by simp [hnot], hbefore, rfl⟩
  · obtain ⟨x, hx, hnot⟩ := hdead
    exact absurd (hlive x hx) hnot

/-- R67 step 2 and R68: with every way live the insertion evicts the oldest. -/
theorem chooseWay_of_live {c : DayClock} {filter : NMap Way} {bucket : Nat}
    (hlive : ∀ x < 8, liveWay c (wayAt filter bucket x) = true) :
    chooseWay c filter bucket = (oldestWay filter bucket, true) := by
  obtain ⟨w, hw, hnot, -, -⟩ | ⟨-, hchosen⟩ := chooseWay_cases c filter bucket
  · simp [hlive w hw] at hnot
  · exact hchosen

/-! #### The filter after an insertion -/

theorem rising_filterWith {filter : NMap Way} (h : NMap.rising filter = true) (c : DayClock) (r : CallRecord) (day : Nat) :
    NMap.rising (filterWith c filter r day) = true :=
  NMap.risingFrom_insert _ (Nat.zero_le _) h

theorem wayAt_filterWith (c : DayClock) (filter : NMap Way) (r : CallRecord) (day : Nat) (b : Nat) {x : Nat} (hx : x < 8) :
    wayAt (filterWith c filter r day) b x
      = if b = bucketOf r ∧ x = (chooseWay c filter (bucketOf r)).1
        then some { switch := r.switchId, sequence := r.sequence, startTime := r.startTime, day }
        else wayAt filter b x :=
  wayAt_insert filter _ (chooseWay_lt c filter _) hx

theorem wayAt_filterWith_self (c : DayClock) (filter : NMap Way) (r : CallRecord) (day : Nat) :
    wayAt (filterWith c filter r day) (bucketOf r) (chooseWay c filter (bucketOf r)).1
      = some { switch := r.switchId, sequence := r.sequence, startTime := r.startTime, day } := by
  simp [wayAt_filterWith, chooseWay_lt]

theorem wayAt_filterWith_other (c : DayClock) (filter : NMap Way) (r : CallRecord) (day : Nat) {b x : Nat} (hx : x < 8)
    (hother : b ≠ bucketOf r ∨ x ≠ (chooseWay c filter (bucketOf r)).1) :
    wayAt (filterWith c filter r day) b x = wayAt filter b x := by
  rw [wayAt_filterWith c filter r day b hx, if_neg (not_and_or.mpr hother)]

/-- R65 after R67: the way written is live and holds the key. -/
theorem filterHit_filterWith {c : DayClock} {day : Nat} (hday : c.inWindow day = true) (filter : NMap Way) (r : CallRecord) :
    filterHit c (filterWith c filter r day) r = true :=
  (filterHit_iff ..).mpr ⟨_, chooseWay_lt c filter _, _, wayAt_filterWith_self c filter r day, hday, rfl, rfl, rfl⟩

/-- Settles O22: the way written is the one `chooseWay` answers, by whether some way of the bucket is not live. -/
theorem filterInsertHits : Obligations.FilterInsertHits := by
  intro clock filter r day hrising hday bucket live after
  have hlive (x : Nat) : live x ↔ liveWay clock (wayAt filter bucket x) = true := (liveWay_iff ..).symm
  simp only [hlive]
  refine ⟨rising_filterWith hrising .., filterHit_filterWith hday .., filterHit_iff .., (chooseWay clock filter bucket).1,
    chooseWay_lt .., wayAt_filterWith_self .., fun _ _ hx hother => wayAt_filterWith_other clock filter r day hx hother,
    chooseWay_of_dead, fun hall => ?evicts⟩
  case evicts =>
    rw [chooseWay_of_live hall]
    exact ⟨rfl, (oldestWay_isFirstLowest filter bucket).2⟩

end Sys2Proof.Machine

namespace Sys2Proof.Machine

open Sys2Proof.Safety

/-! ### What every event keeps, part by part

The invariants of `Safety` read disjoint groups of fields. `Part` names the groups, `Part.Same` says that an operation
leaves the fields of one alone, `Part.Kept` that its invariant goes through, and `Keeps but` that every part outside `but`
is kept: an operation that breaks a part for a moment is followed through the others, and the part is put back whole. -/

/-- The groups of fields that the invariants read. -/
inductive Part where
  | links
  | reports
  | params
  | lists
  | banks
  | walkers
  | catalog
  | records
  deriving DecidableEq

/-- The fields that a part reads are the same. -/
def Part.Same (s t : State) : Part → Prop
  | .links => t.pending = s.pending ∧ t.feedTx = s.feedTx ∧ t.storeTx = s.storeTx ∧ t.feed = s.feed ∧ t.store = s.store
  | .reports => t.reports = s.reports
  | .params => t.params = s.params ∧ t.clock = s.clock
  | .lists => t.control = s.control ∧ t.recent = s.recent ∧ t.pendingHolds = s.pendingHolds
      ∧ t.openSegments = s.openSegments ∧ t.sweeper.suspended = s.sweeper.suspended
  | .banks => t.banks = s.banks ∧ t.selection = s.selection
  | .walkers => t.lanes = s.lanes ∧ t.sweeper = s.sweeper ∧ t.verifier = s.verifier
  | .catalog => t.catalog = s.catalog ∧ t.stateCounts = s.stateCounts ∧ t.freeIds = s.freeIds
      ∧ t.openSegments = s.openSegments
  | .records => t.lanes = s.lanes ∧ t.parser = s.parser ∧ t.recent = s.recent

/-- A port that is DOWN and not locked stays so, and nothing is sent on it. -/
def Quiet {α : Type} (p q : Port) (sent sent' : List α) : Prop :=
  p.up = false → p.locked = false → q.up = false ∧ q.locked = false ∧ sent' = sent

/-- The commands that wait are left alone, the logs only grow, and a port that is DOWN and not locked sends nothing. -/
structure LinksKept (s t : State) : Prop where
  pending : t.pending = s.pending
  feedTx : s.feedTx <+: t.feedTx
  storeTx : s.storeTx <+: t.storeTx
  feed : Quiet s.feed t.feed s.feedTx t.feedTx
  store : Quiet s.store t.store s.storeTx t.storeTx

/-- The invariant of a part goes through. -/
def Part.Kept (s t : State) : Part → Prop
  | .links => LinksKept s t
  | .reports => ReportsSound s → ReportsSound t
  | .params => ParamsInRange s → ParamsInRange t
  | .lists => ListsBounded s ∧ SuspendedExactly s → ListsBounded t ∧ SuspendedExactly t
  | .banks => BanksSound s → BanksSound t
  | .walkers => PausedExactly s ∧ WalkersSound s → PausedExactly t ∧ WalkersSound t
  | .catalog => CatalogSound s → CatalogSound t
  | .records => RecordsConserved s → RecordsConserved t

/-- Every part outside `but` is kept. -/
structure Keeps (but : List Part) (s t : State) : Prop where
  of_parts ::
  kept : ∀ p, p ∉ but → p.Kept s t

section
variable {s t u : State} {p q : Part} {qs : List Part}

theorem Quiet.of_eq {α : Type} {p q : Port} {sent sent' : List α} (hp : q = p) (hs : sent' = sent) :
    Quiet p q sent sent' := by
  subst hp hs; exact fun up locked => ⟨up, locked, rfl⟩

theorem Quiet.trans {α : Type} {p q r : Port} {a b c : List α} (h : Quiet p q a b) (k : Quiet q r b c) : Quiet p r a c := by
  intro up locked
  obtain ⟨up', locked', hb⟩ := h up locked
  obtain ⟨up'', locked'', hc⟩ := k up' locked'
  exact ⟨up'', locked'', hc.trans hb⟩

theorem LinksKept.trans (h : LinksKept s t) (k : LinksKept t u) : LinksKept s u where
  pending := k.pending.trans h.pending
  feedTx := h.feedTx.trans k.feedTx
  storeTx := h.storeTx.trans k.storeTx
  feed := h.feed.trans k.feed
  store := h.store.trans k.store

theorem Part.Kept.trans (h : p.Kept s t) (k : p.Kept t u) : p.Kept s u := by
  cases p
  case links => exact LinksKept.trans h k
  all_goals exact fun hs => k (h hs)

theorem Part.kept_of_same (h : p.Same s t) : p.Kept s t := by
  cases p
  case links =>
    obtain ⟨hp, hf, hs, hfeed, hstore⟩ := h
    exact ⟨hp, hf ▸ List.prefix_rfl, hs ▸ List.prefix_rfl, .of_eq hfeed hf, .of_eq hstore hs⟩
  case reports =>
    have h : t.reports = s.reports := h
    simp [Part.Kept, ReportsSound, h]
  case params =>
    obtain ⟨hparams, hclock⟩ := h
    simp [Part.Kept, ParamsInRange, hparams, hclock]
  case lists =>
    obtain ⟨hcontrol, hrecent, hholds, hopen, hsuspended⟩ := h
    simp [Part.Kept, ListsBounded, SuspendedExactly, hcontrol, hrecent, hholds, hopen, hsuspended]
  case banks =>
    obtain ⟨hbanks, hselection⟩ := h
    simp [Part.Kept, BanksSound, State.bank, hbanks, hselection]
  case walkers =>
    obtain ⟨hlanes, hsweeper, hverifier⟩ := h
    simp [Part.Kept, PausedExactly, WalkersSound, State.anyPaused, State.lane, hlanes, hsweeper, hverifier]
  case catalog =>
    obtain ⟨hcatalog, hcounts, hfree, hopen⟩ := h
    simp [Part.Kept, CatalogSound, hcatalog, hcounts, hfree, hopen]
  case records =>
    obtain ⟨hlanes, hparser, hrecent⟩ := h
    simp [Part.Kept, RecordsConserved, LaneAccounts, ParserAccounts, uncountedIn, State.lane, hlanes, hparser, hrecent]

theorem Keeps.of_same (h : ∀ p, p ∉ qs → p.Same s t) : Keeps qs s t := ⟨fun p hp => Part.kept_of_same (h p hp)⟩

theorem Keeps.refl (qs : List Part) (s : State) : Keeps qs s s := .of_same fun p _ => by cases p <;> simp [Part.Same]

theorem Keeps.trans (h : Keeps qs s t) (k : Keeps qs t u) : Keeps qs s u := ⟨fun p hp => (h.kept p hp).trans (k.kept p hp)⟩

/-- `Keeps.trans`, the later operation named first. -/
theorem Keeps.after (k : Keeps qs t u) (h : Keeps qs s t) : Keeps qs s u := h.trans k

theorem Keeps.weaken (h : Keeps [] s t) : Keeps qs s t := ⟨fun p _ => h.kept p List.not_mem_nil⟩

/-- A part that was left out is put back. -/
theorem Keeps.restore (h : Keeps (q :: qs) s t) (hq : q.Kept s t) : Keeps qs s t := by
  refine ⟨fun p hp => ?_⟩
  by_cases heq : p = q
  · exact heq ▸ hq
  · exact h.kept p (by simp [heq, hp])

theorem Keeps.part (h : Keeps [] s t) (p : Part) : p.Kept s t := h.kept p List.not_mem_nil

/-- A run of operations each of which keeps the parts. -/
theorem Keeps.foldl {α : Type} {f : State → α → State} (h : ∀ x a, Keeps qs x (f x a)) (as : List α) (s : State) :
    Keeps qs s (as.foldl f s) := by
  induction as generalizing s with
  | nil => exact .refl _ _
  | cons a as ih => exact (h s a).trans (ih _)

end

end Sys2Proof.Machine

namespace Sys2Proof.Machine

open Sys2Proof.Safety

section
variable {s t : State}

/-! ### Sending and reporting -/

theorem quiet_send {α : Type} {p q : Port} (sent new : List α) (hup : p.up = true) : Quiet p q sent new :=
  fun down => absurd (hup.symm.trans down) (by decide)

theorem keeps_sendFeed (f : FeedFrame) (s : State) : Keeps [] s (sendFeed f s) := by
  refine .restore (q := .links) (.of_same fun p hp => by cases p <;> simp_all [Part.Same]) ?_
  unfold sendFeed
  split
  case isTrue hup => exact ⟨rfl, List.prefix_append .., List.prefix_rfl, quiet_send _ _ hup, .of_eq rfl rfl⟩
  case isFalse => exact Keeps.refl [] s |>.part .links

theorem keeps_sendStore (fs : List StoreFrame) (s : State) : Keeps [] s (sendStore fs s) := by
  refine .restore (q := .links) (.of_same fun p hp => by cases p <;> simp_all [Part.Same]) ?_
  unfold sendStore
  split
  case isTrue hup => exact ⟨rfl, List.prefix_rfl, List.prefix_append .., .of_eq rfl rfl, quiet_send _ _ hup⟩
  case isFalse => exact Keeps.refl [] s |>.part .links

theorem keeps_respond (tag code : Nat) (rc : ResponseCode) (results : Results) (s : State) :
    Keeps [] s (respond tag code rc results s) := keeps_sendFeed _ s

theorem keeps_answer (tag : Nat) (r : Request) (code : ResponseCode) (s : State) : Keeps [] s (answer tag r code s) :=
  keeps_sendFeed _ s

/-- R180: a report enters a queue that has room, and is counted lost where it has none. -/
theorem reportsSound_raiseOn (d : Option Nat) (k : ReportKind) (u : Option Nat) (a b c : Nat) (h : ReportsSound s) :
    ReportsSound (raiseOn d k u a b c s) := by
  obtain ⟨hroom, hlost, -⟩ := h
  unfold raiseOn
  split
  case isTrue hlt =>
    refine ⟨by simpa [enterReport] using hlt, fun hpos => ?_, by simp [enterReport]⟩
    have := hlost hpos
    omega
  case isFalse hfull =>
    have hlen : s.reports.entries.length = Config.reportQueueLimit := by omega
    refine ⟨hroom, fun _ => hlen, fun hempty => ?_⟩
    have hempty : s.reports.entries = [] := hempty
    simp [hempty] at hlen

theorem keeps_raiseOn (d : Option Nat) (k : ReportKind) (u : Option Nat) (a b c : Nat) (s : State) :
    Keeps [] s (raiseOn d k u a b c s) :=
  .restore (q := .reports) (.of_same fun p hp => by cases p <;> simp_all [Part.Same])
    (reportsSound_raiseOn d k u a b c)

theorem keeps_raise (k : ReportKind) (u : Option Nat) (a b c : Nat) (s : State) : Keeps [] s (raise k u a b c s) :=
  keeps_raiseOn _ k u a b c s

/-! ### Bundles (R180, R181) -/

theorem quietIfEmpty_sound (hroom : s.reports.entries.length ≤ Config.reportQueueLimit) (hlost : s.reports.lost = 0) :
    ReportsSound (quietIfEmpty s) := by
  unfold quietIfEmpty
  split
  case isTrue => exact ⟨hroom, by simp [hlost], fun _ => ⟨rfl, rfl⟩⟩
  case isFalse hne => exact ⟨hroom, by simp [hlost], fun hempty => absurd (by simp [hempty]) hne⟩

@[simp] theorem enterLost_lost (s : State) : (enterLost s).reports.lost = 0 := by
  unfold enterLost
  split
  · rfl
  · omega

theorem enterLost_length (s : State) : (enterLost s).reports.entries.length ≤ s.reports.entries.length + 1 := by
  unfold enterLost
  split <;> simp [enterReport]

/-- R181: a bundle takes eight entries out and lets one in at most. -/
theorem reportsSound_sendBundle (h : ReportsSound s) : ReportsSound (sendBundle s) := by
  refine quietIfEmpty_sound ((enterLost_length _).trans ?_) (enterLost_lost _)
  have hroom : s.reports.entries.length ≤ 64 := h.1
  simp only [sendFeed_reports, List.length_drop, Config.bundleLimit, Config.reportQueueLimit]
  omega

theorem keeps_sendBundle (s : State) : Keeps [] s (sendBundle s) := by
  refine .restore (q := .reports) ?_ reportsSound_sendBundle
  refine (keeps_sendFeed (.bundle (s.reports.entries.take Config.bundleLimit)) s).weaken.trans
    (.of_same fun p hp => ?_)
  cases p <;> simp_all [Part.Same, sendBundle]

theorem keeps_sendBundles (n : Nat) (s : State) : Keeps [] s (sendBundles n s) := by
  induction n generalizing s with
  | zero => exact .refl _ _
  | succ n ih =>
    unfold sendBundles
    split
    · exact (keeps_sendBundle s).trans (ih _)
    · exact .refl _ _

theorem keeps_flushReports (s : State) : Keeps [] s (flushReports s) := keeps_sendBundles _ s

/-- R181: the timer runs, so the queue is not empty. -/
theorem keeps_holdoffExpires (h : s.holdoffOver = true) : Keeps [] s (holdoffExpires s) := by
  refine .restore (q := .reports) (.of_same fun p hp => by cases p <;> simp_all [Part.Same, holdoffExpires]) fun hs => ?_
  obtain ⟨hroom, hlost, hquiet⟩ := hs
  refine ⟨hroom, hlost, fun hempty => ?_⟩
  have hstopped := (hquiet hempty).1
  simp [State.holdoffOver, hstopped] at h

theorem keeps_restartHoldoff {value : Nat} (hvalue : value ≤ 255) (s : State) : Keeps [] s (restartHoldoff value s) := by
  refine .restore (q := .reports) (.restore (q := .params)
    (.of_same fun p hp => by cases p <;> simp_all [Part.Same, restartHoldoff]) ?params) ?reports
  case params => exact fun hs => ⟨hvalue, hs.2⟩
  case reports =>
    intro hs
    obtain ⟨hroom, hlost, -⟩ := hs
    refine ⟨hroom, hlost, fun hempty => ?_⟩
    have hempty : s.reports.entries = [] := hempty
    simp [restartHoldoff, hempty]

/-! ### Ports (R182, R183) -/

/-- A port is changed and nothing is sent: a port that is DOWN and not locked stays so. -/
theorem keeps_setPort {port : PortId} {x : Port}
    (h : (s.port port).up = false → (s.port port).locked = false → x.up = false ∧ x.locked = false) :
    Keeps [] s (s.setPort port x) := by
  refine .restore (q := .links) (.of_same fun p hp => by cases p <;> cases port <;> simp_all [Part.Same, State.setPort]) ?_
  have hquiet {α : Type} (sent : List α) : Quiet (s.port port) x sent sent := fun up locked =>
    ⟨(h up locked).1, (h up locked).2, rfl⟩
  cases port
  case feed => exact ⟨rfl, List.prefix_rfl, List.prefix_rfl, hquiet _, .of_eq rfl rfl⟩
  case store => exact ⟨rfl, List.prefix_rfl, List.prefix_rfl, .of_eq rfl rfl, hquiet _⟩

theorem keeps_countCheckFailed (port : PortId) (s : State) : Keeps [] s (countCheckFailed port s) :=
  keeps_setPort fun up locked => ⟨up, locked⟩

theorem keeps_countMalformed (port : PortId) (s : State) : Keeps [] s (countMalformed port s) :=
  keeps_setPort fun up locked => ⟨up, locked⟩

theorem keeps_sendPauses (s : State) : Keeps [] s (sendPauses s) := by
  refine .foldl (fun x l => ?_) _ s
  unfold sendPauseOf
  split
  · exact keeps_sendFeed _ x
  · exact .refl _ _

/-- R183: LINK KEEP is sent on a locked port alone. -/
theorem keeps_keepLink (port : PortId) (s : State) : Keeps [] s (keepLink port s) := by
  unfold keepLink
  split
  case isFalse => exact .refl _ _
  case isTrue hdue =>
    obtain ⟨hlocked, -⟩ := Bool.and_eq_true_iff.mp hdue
    refine .restore (q := .links) (.of_same fun p hp => by cases p <;> cases port <;> simp_all [Part.Same, sendKeep]) ?_
    have hquiet {α : Type} (y : Port) (sent new : List α) : Quiet (s.port port) y sent new := fun _ unlocked =>
      absurd (hlocked.symm.trans unlocked) (by decide)
    cases port
    case feed => exact ⟨rfl, List.prefix_append .., List.prefix_rfl, hquiet _ _ _, .of_eq rfl rfl⟩
    case store => exact ⟨rfl, List.prefix_rfl, List.prefix_append .., .of_eq rfl rfl, hquiet _ _ _⟩

end

end Sys2Proof.Machine

namespace Sys2Proof.Machine

open Sys2Proof.Safety

/-! ### Counting the entries of a table -/

section
variable {α : Type} (f : α → Bool)

/-- How much an entry adds to the count of those that meet `f`. -/
def tally (o : Option α) : Nat := o.elim 0 (fun v => (f v).toNat)

theorem countP_cons_snd (p : Nat × α) (m : NMap α) :
    List.countP (fun p => f p.2) (p :: m) = List.countP (fun p => f p.2) m + (f p.2).toNat := by
  cases h : f p.2 <;> simp [h]

theorem countP_insert (m : NMap α) (k : Nat) (v : α) :
    (NMap.insert m k v).countP (fun p => f p.2) + tally f (NMap.find? m k)
      = m.countP (fun p => f p.2) + (f v).toNat := by
  induction m with
  | nil => cases h : f v <;> simp [NMap.insert, NMap.find?, tally, h]
  | cons p rest ih =>
    simp only [NMap.insert, NMap.find?]
    split
    · simp only [countP_cons_snd]; simp [tally]
    · split
      · simp only [countP_cons_snd]; simp [tally]; omega
      · simp only [countP_cons_snd]; omega

theorem countP_erase (m : NMap α) (k : Nat) :
    (NMap.erase m k).countP (fun p => f p.2) + tally f (NMap.find? m k) = m.countP (fun p => f p.2) := by
  induction m with
  | nil => simp [NMap.erase, NMap.find?, tally]
  | cons p rest ih =>
    simp only [NMap.erase, NMap.find?]
    split
    · simp [tally]
    · split
      · simp only [countP_cons_snd]; simp [tally]
      · simp only [countP_cons_snd]; omega

theorem toNat_read_eq_tally {d : α} (hd : f d = false) (m : NMap α) (k : Nat) :
    (f (NMap.read d m k)).toNat = tally f (NMap.find? m k) := by
  unfold NMap.read tally
  cases NMap.find? m k <;> simp [hd]

theorem read_le_countP {d : α} (hd : f d = false) (m : NMap α) (k : Nat) :
    (f (NMap.read d m k)).toNat ≤ m.countP (fun p => f p.2) := by
  rw [toNat_read_eq_tally f hd, ← countP_erase f m k]
  exact Nat.le_add_left ..

/-- A write moves one entry from its old value to its new one, where the unlisted entries are not counted. -/
theorem countP_write [DecidableEq α] {d : α} (hd : f d = false) (m : NMap α) (k : Nat) (v : α) :
    (NMap.write d m k v).countP (fun p => f p.2) + (f (NMap.read d m k)).toNat
      = m.countP (fun p => f p.2) + (f v).toNat := by
  rw [toNat_read_eq_tally f hd, NMap.write]
  split
  case isTrue h => subst h; simpa [hd] using countP_erase f m k
  case isFalse => exact countP_insert f m k v

end

/-- Keys strictly rising from `low` and below `n`: there is room for `n - low` entries. -/
theorem NMap.length_le_of_risingFrom {α : Type} {m : NMap α} {low n : Nat} (h : NMap.risingFrom low m = true)
    (hn : NMap.keysBelow n m = true) : m.length + low ≤ max low n := by
  induction m generalizing low with
  | nil => simp
  | cons p rest ih =>
    simp only [NMap.risingFrom, Bool.and_eq_true, decide_eq_true_eq] at h
    simp only [NMap.keysBelow, List.all_cons, Bool.and_eq_true, decide_eq_true_eq] at hn
    have := ih h.2 (by simpa [NMap.keysBelow] using hn.2)
    simp only [List.length_cons]
    omega

/-! ### The catalog and its state counts (R108, R110) -/

theorem EntryState.code_inj {x y : EntryState} (h : x.code = y.code) : x = y := by
  cases x <;> cases y <;> simp_all [EntryState.code]

theorem NMap.keysBelow_insert {α : Type} {m : NMap α} {n k : Nat} (v : α) (hk : k < n) (h : NMap.keysBelow n m = true) :
    NMap.keysBelow n (NMap.insert m k v) = true := by
  simp only [NMap.keysBelow, List.all_eq_true, decide_eq_true_eq] at h ⊢
  intro p hp
  rcases NMap.mem_insert hp with rfl | hp
  · exact hk
  · exact h p hp

/-- The entry is in a state other than FREE, so the catalog lists it. -/
def CatalogEntry.taken (e : CatalogEntry) : Bool := decide (e.state ≠ .free)

theorem CatalogEntry.taken_eq_false {e : CatalogEntry} : e.taken = false ↔ e.state = .free := by simp [taken]

/-- Entries not FREE, with room for one more where `k` is FREE. -/
theorem countP_taken_le {m : NMap CatalogEntry} {k : Nat} (hrising : NMap.rising m = true)
    (hbelow : NMap.keysBelow Config.catalogEntries m = true) (hk : k < Config.catalogEntries) :
    m.countP (fun p => p.2.taken) + (!(NMap.read {} m k).taken).toNat ≤ Config.catalogEntries := by
  let full : CatalogEntry := { state := .stored }
  have hcount := countP_insert CatalogEntry.taken m k full
  have hlen := NMap.length_le_of_risingFrom (NMap.risingFrom_insert full (Nat.zero_le k) hrising)
    (NMap.keysBelow_insert full hk hbelow)
  have hle := List.countP_le_length (p := fun p : Nat × CatalogEntry => p.2.taken) (l := NMap.insert m k full)
  have hfree : tally CatalogEntry.taken (NMap.find? m k) + (!(NMap.read {} m k).taken).toNat = 1 := by
    unfold NMap.read tally
    cases NMap.find? m k with
    | none => rfl
    | some e => cases h : e.taken <;> simp [h]
  have hfull : full.taken.toNat = 1 := rfl
  rw [hfull] at hcount
  omega

theorem countIn_free (m : NMap CatalogEntry) :
    countIn m .free = Config.catalogEntries - m.countP (fun p => p.2.taken) := by
  rw [countIn, List.countP_eq_length_filter]; rfl

theorem countIn_of_ne {st : EntryState} (h : st ≠ .free) (m : NMap CatalogEntry) :
    countIn m st = m.countP (fun p => decide (p.2.state = st)) := by
  rw [List.countP_eq_length_filter]
  cases st
  case free => exact absurd rfl h
  all_goals rfl

theorem moveCount_getElem (counts : Vector Nat 8) (old new st : EntryState) :
    (moveCount counts old new)[st.code]
      = (if st = old then counts[st.code] - 1 else counts[st.code]) + (if st = new then 1 else 0) := by
  have hcode (x y : EntryState) : x.code.val = y.code.val ↔ x = y :=
    ⟨fun h => EntryState.code_inj (Fin.ext h), fun h => h ▸ rfl⟩
  simp only [moveCount, Fin.getElem_fin, Vector.getElem_set, hcode]
  by_cases hnew : new = st <;> by_cases hold : old = st
  · subst hnew hold; simp
  · subst hnew; simp [hold, Ne.symm hold]
  · subst hold; simp [hnew, Ne.symm hnew]
  · simp [hnew, hold, Ne.symm hnew, Ne.symm hold]

/-- R110: a state count follows the entry that is written. -/
theorem countIn_write {m : NMap CatalogEntry} {counts : Vector Nat 8} {id : Nat} (hrising : NMap.rising m = true)
    (hbelow : NMap.keysBelow Config.catalogEntries m = true) (hid : id < Config.catalogEntries)
    (hcounts : ∀ st : EntryState, counts[st.code] = countIn m st) (e : CatalogEntry) (st : EntryState) :
    (moveCount counts (NMap.read {} m id).state e.state)[st.code] = countIn (NMap.write {} m id e) st := by
  rw [moveCount_getElem, hcounts]
  by_cases hst : st = .free
  · subst hst
    have hcount := countP_write CatalogEntry.taken (d := {}) rfl m id e
    have hroom := countP_taken_le hrising hbelow hid
    have hstate (e : CatalogEntry) : EntryState.free = e.state ↔ e.taken = false := by
      rw [CatalogEntry.taken_eq_false, eq_comm]
    simp only [countIn_free, hstate]
    cases hold : (NMap.read {} m id).taken <;> cases hnew : e.taken <;>
      simp only [hold, hnew, Bool.not_true, Bool.not_false, Bool.toNat_true, Bool.toNat_false] at hcount hroom <;>
      simp <;> omega
  · let inState := fun e : CatalogEntry => decide (e.state = st)
    have hdefault : inState {} = false := decide_eq_false fun h => hst h.symm
    have hcount := countP_write inState hdefault m id e
    have hlisted := read_le_countP inState hdefault m id
    simp only [countIn_of_ne hst, eq_comm (a := st)]
    by_cases hold : (NMap.read {} m id).state = st <;> by_cases hnew : e.state = st <;>
      simp only [inState, hold, hnew, decide_true, decide_false, Bool.toNat_true, Bool.toNat_false, if_true,
        if_false] at hcount hlisted ⊢ <;> omega

section
variable {s t : State}

/-- R108, R110: an entry is replaced and its state counts follow. -/
theorem catalogSound_setEntry {id : Nat} (hid : id < Config.catalogEntries) (e : CatalogEntry) (h : CatalogSound s) :
    CatalogSound (s.setEntry id e) := by
  obtain ⟨hcanonical, hbelow, hcounts, hfree, hopen⟩ := h
  have hrising : NMap.rising s.catalog = true := (Bool.and_eq_true_iff.mp hcanonical).1
  exact ⟨NMap.canonical_write _ _ _ _ hcanonical, NMap.keysBelow_write _ _ _ hid hbelow,
    countIn_write hrising hbelow hid hcounts e, hfree, hopen⟩

/-- An entry that is not FREE is listed, so its id is that of a catalog entry. -/
theorem id_lt_of_notFree (h : CatalogSound s) {id : Nat} (hstate : (s.entry id).state ≠ .free) :
    id < Config.catalogEntries := by
  obtain ⟨-, hbelow, -⟩ := h
  simp only [NMap.keysBelow, List.all_eq_true, decide_eq_true_eq] at hbelow
  cases hfind : NMap.find? s.catalog id with
  | none => simp [State.entry, NMap.read, hfind] at hstate
  | some e => exact hbelow _ (NMap.mem_of_find? hfind)

theorem keepsBut_setEntry (id : Nat) (e : CatalogEntry) (s : State) : Keeps [.catalog] s (s.setEntry id e) :=
  .of_same fun p hp => by cases p <;> simp_all [Part.Same]

theorem keeps_setEntry {id : Nat} (e : CatalogEntry) (hid : CatalogSound s → id < Config.catalogEntries) :
    Keeps [] s (s.setEntry id e) :=
  .restore (q := .catalog) (keepsBut_setEntry id e s) fun h => catalogSound_setEntry (hid h) e h

theorem keeps_setEntry_of_notFree {id : Nat} (e : CatalogEntry) (h : (s.entry id).state ≠ .free) :
    Keeps [] s (s.setEntry id e) := keeps_setEntry e fun hs => id_lt_of_notFree hs h

/-! ### Fields that no invariant reads -/

theorem keeps_setBuffer (i : Fin 32) (x : SegmentBuffer) (s : State) : Keeps [] s (s.setBuffer i x) :=
  .of_same fun p _ => by cases p <;> simp [Part.Same]

theorem keeps_setTag (g : Fin 8) (x : Option Outstanding) (s : State) : Keeps [] s (s.setTag g x) :=
  .of_same fun p _ => by cases p <;> simp [Part.Same]

theorem keeps_setHold (h : Fin 64) (x : Option Hold) (s : State) : Keeps [] s (s.setHold h x) :=
  .of_same fun p _ => by cases p <;> simp [Part.Same]

theorem keeps_updateBufferOf (id : Nat) (f : SegmentBuffer → SegmentBuffer) (s : State) :
    Keeps [] s (s.updateBufferOf id f) := by
  unfold State.updateBufferOf
  split
  · exact .refl _ _
  · exact keeps_setBuffer ..

theorem keeps_refreshStall (s : State) : Keeps [] s (refreshStall s) := by
  unfold refreshStall
  split
  · exact .refl _ _
  · exact .of_same fun p _ => by cases p <;> simp [Part.Same]

theorem keeps_filterInsert (r : CallRecord) (day : Nat) (s : State) : Keeps [] s (filterInsert r day s) := by
  unfold filterInsert
  split
  · exact .of_same fun p _ => by cases p <;> simp [Part.Same]
  · exact .refl _ _

theorem keeps_clearCatalogFull (id : Nat) (s : State) : Keeps [] s (clearCatalogFull id s) := by
  unfold clearCatalogFull
  split
  · exact (keeps_raise ..).after (.of_same fun p _ => by cases p <;> simp [Part.Same])
  · exact .refl _ _

theorem keeps_setDayRecord (d : DayRecord) (s : State) : Keeps [] s (s.setDayRecord d) :=
  .of_same fun p _ => by cases p <;> simp [Part.Same]

theorem keeps_addToDay (day switch : Nat) (a : Accumulator) (n : Nat) (s : State) :
    Keeps [] s (addToDay day switch a n s) := by
  unfold addToDay
  dsimp only
  split
  · exact .of_same fun p _ => by cases p <;> simp [Part.Same]
  · split
    · exact (keeps_setDayRecord ..).trans (keeps_raise ..)
    · exact keeps_setDayRecord ..

theorem keeps_addToCurrentDay (switch : Nat) (a : Accumulator) (n : Nat) (s : State) :
    Keeps [] s (addToCurrentDay switch a n s) := by
  unfold addToCurrentDay
  split
  · exact .refl _ _
  · exact keeps_addToDay ..

/-! ### Banks whose states stay -/

theorem keepsBut_setBank (b : Fin 4) (x : Bank) (s : State) : Keeps [.banks] s (s.setBank b x) :=
  .of_same fun p hp => by cases p <;> simp_all [Part.Same]

theorem state_setBank {b : Fin 4} {x : Bank} (hx : x.state = (s.bank b).state) (c : Fin 4) :
    ((s.setBank b x).bank c).state = (s.bank c).state := by
  rw [State.bank_setBank]
  split
  case isTrue h => exact h ▸ hx
  case isFalse => rfl

theorem banksSound_of_states (hstates : ∀ c, (t.bank c).state = (s.bank c).state) (hselection : t.selection = s.selection)
    (h : BanksSound s) : BanksSound t := by
  simpa only [BanksSound, hstates, hselection] using h

theorem keeps_setBank {b : Fin 4} {x : Bank} (hx : x.state = (s.bank b).state) : Keeps [] s (s.setBank b x) :=
  .restore (q := .banks) (keepsBut_setBank b x s) (banksSound_of_states (state_setBank hx) rfl)

theorem keeps_addReference (b : Fin 4) (s : State) : Keeps [] s (addReference b s) := keeps_setBank rfl

theorem keeps_dropEntryReference (e : CatalogEntry) (s : State) : Keeps [] s (dropEntryReference e s) := by
  unfold dropEntryReference dropReference
  split
  · exact .refl _ _
  · split
    · exact keeps_setBank rfl
    · exact .refl _ _

theorem keeps_freeEntry {id : Nat} (h : (s.entry id).state ≠ .free) : Keeps [] s (freeEntry id s) := by
  have hjoins : Keeps [] s { s.setEntry id { edition := ((s.entry id).edition + 1) % 256 } with
      freeIds := s.freeIds ++ [id] } := by
    refine .restore (q := .catalog)
      ((keepsBut_setEntry id { edition := ((s.entry id).edition + 1) % 256 } s).trans (.of_same fun p hp => by cases p <;> simp_all [Part.Same])) fun hs => ?_
    have hid := id_lt_of_notFree hs h
    obtain ⟨hcanonical, hbelow, hcounts, hfree, hopen⟩ :=
      catalogSound_setEntry hid { edition := ((s.entry id).edition + 1) % 256 } hs
    refine ⟨hcanonical, hbelow, hcounts, fun x hx => ?_, hopen⟩
    rcases List.mem_append.mp hx with hx | hx
    · exact hfree x hx
    · exact List.mem_singleton.mp hx ▸ hid
  exact ((hjoins.trans (keeps_dropEntryReference ..)).trans (keeps_refreshStall _)).trans (keeps_clearCatalogFull ..)

end

end Sys2Proof.Machine

namespace Sys2Proof.Machine

open Sys2Proof.Safety

section
variable {s t : State}

/-! ### Segments (R92 to R99) -/

/-- The id of an open segment is that of a catalog entry. -/
theorem catalogSound_sealSegment {g : OpenSegment} (hid : g.segmentId < Config.catalogEntries) (h : CatalogSound s) :
    CatalogSound (sealSegment g s) := by
  obtain ⟨hcanonical, hbelow, hcounts, hfree, hopen⟩ := catalogSound_setEntry hid
    { s.entry g.segmentId with state := .writing, figures := some (sealFigures (s.bank g.key.bank) g) } h
  exact ⟨hcanonical, hbelow, hcounts, hfree, fun x hx => hopen x (List.mem_of_mem_filter hx)⟩

theorem sealSegment_openSegments (g : OpenSegment) (s : State) :
    (sealSegment g s).openSegments = s.openSegments.filter (fun x => decide (x.segmentId ≠ g.segmentId)) := rfl

theorem keepsBut_sealSegment (g : OpenSegment) (s : State) : Keeps [.catalog] s (sealSegment g s) := by
  refine .restore (q := .lists) (.of_same fun p hp => ?_) fun hs => ?_
  · cases p <;> simp_all [Part.Same, sealSegment]
  · obtain ⟨⟨hcontrol, hrecent, hholds, hopen⟩, hsuspended⟩ := hs
    exact ⟨⟨hcontrol, hrecent, hholds, (List.length_filter_le ..).trans hopen⟩, hsuspended⟩

theorem keeps_sealSegment {g : OpenSegment} (hid : CatalogSound s → g.segmentId < Config.catalogEntries) :
    Keeps [] s (sealSegment g s) :=
  .restore (keepsBut_sealSegment g s) fun hs => catalogSound_sealSegment (hid hs) hs

theorem keeps_sealSegment_of_mem {g : OpenSegment} (hg : g ∈ s.openSegments) : Keeps [] s (sealSegment g s) :=
  keeps_sealSegment fun hs => by
    obtain ⟨-, -, -, -, hopen⟩ := hs
    exact hopen g hg

theorem catalogSound_seals {gs : List OpenSegment} (hids : ∀ g ∈ gs, g.segmentId < Config.catalogEntries)
    (h : CatalogSound s) : CatalogSound (gs.foldl (fun x g => sealSegment g x) s) := by
  induction gs generalizing s with
  | nil => exact h
  | cons g gs ih =>
    exact ih (fun x hx => hids x (List.mem_cons_of_mem _ hx)) (catalogSound_sealSegment (hids g List.mem_cons_self) h)

theorem keeps_sealWhere (which : OpenSegment → Bool) (s : State) : Keeps [] s (sealWhere which s) := by
  refine .restore (q := .catalog) (.foldl (fun x g => keepsBut_sealSegment g x) _ s) fun hs => ?_
  refine catalogSound_seals (fun g hg => ?_) hs
  obtain ⟨-, -, -, -, hopen⟩ := hs
  exact hopen g (List.mem_of_mem_filter hg)

theorem keepsBut_appendRecord {g : OpenSegment} (fileSwitch : Nat) (r : CallRecord) (v : Verdict) (bytes : List Byte)
    (hid : CatalogSound s → g.segmentId < Config.catalogEntries) :
    Keeps [.lists] s (appendRecord g fileSwitch r v bytes s) := by
  refine .restore (q := .catalog) (.of_same fun p hp => ?_) fun hs => ?_
  · cases p <;> simp_all [Part.Same, appendRecord]
  · have hg := hid hs
    obtain ⟨hcanonical, hbelow, hcounts, hfree, hopen⟩ := hs
    refine ⟨hcanonical, hbelow, hcounts, hfree, fun x hx => ?_⟩
    rcases List.mem_append.mp hx with hx | hx
    · exact hopen x (List.mem_of_mem_filter hx)
    · exact List.mem_singleton.mp hx ▸ hg

/-- R92: the segment filled moves to the tail of the list, where there is room for it. -/
theorem listsKept_appendRecord {g : OpenSegment} (fileSwitch : Nat) (r : CallRecord) (v : Verdict) (bytes : List Byte)
    (hroom : (s.openSegments.filter (fun x => decide (x.segmentId ≠ g.segmentId))).length < Config.openSegmentLimit) :
    Part.Kept s (appendRecord g fileSwitch r v bytes s) .lists := by
  rintro ⟨⟨hcontrol, hrecent, hholds, -⟩, hsuspended⟩
  refine ⟨⟨hcontrol, hrecent, hholds, ?_⟩, hsuspended⟩
  simpa [appendRecord] using hroom

theorem keeps_stallEncoder (k : SegmentKey) (s : State) : Keeps [] s (stallEncoder k s) := by
  have hnoted : Keeps [] s (noteCatalogFull k s) := by
    unfold noteCatalogFull
    split
    · exact (keeps_raise ..).after (.of_same fun p _ => by cases p <;> simp [Part.Same])
    · exact .refl _ _
  exact hnoted.trans (.of_same fun p _ => by cases p <;> simp [Part.Same, stallEncoder])

theorem keeps_takeResources (k : SegmentKey) {id : Nat} {rest : List Nat} (i : Fin 32) (hfree : s.freeIds = id :: rest) :
    Keeps [] s (takeResources k id i rest s) := by
  have hid (hs : CatalogSound s) : id < Config.catalogEntries := by
    obtain ⟨-, -, -, hall, -⟩ := hs
    exact hall id (by simp [hfree])
  have htaken : Keeps [] s { s with freeIds := rest } := by
    refine .restore (q := .catalog) (.of_same fun p hp => by cases p <;> simp_all [Part.Same]) fun hs => ?_
    obtain ⟨hcanonical, hbelow, hcounts, hall, hopen⟩ := hs
    exact ⟨hcanonical, hbelow, hcounts, fun x hx => hall x (by simp_all), hopen⟩
  refine .restore (q := .catalog) ?_ fun hs => ?_
  · exact ((htaken.weaken.trans (keepsBut_setEntry ..)).trans (keeps_setBuffer ..).weaken).trans
      (keeps_addReference ..).weaken
  · exact (keeps_addReference k.bank _).part .catalog <| (keeps_setBuffer i _ _).part .catalog <|
      catalogSound_setEntry (hid hs) _ (htaken.part .catalog hs)

theorem length_filter_lt_of_mem {g : OpenSegment} {gs : List OpenSegment} (hg : g ∈ gs) :
    (gs.filter (fun x => decide (x.segmentId ≠ g.segmentId))).length < gs.length := by
  have hle := List.length_filter_le (fun x : OpenSegment => decide (x.segmentId ≠ g.segmentId)) gs
  refine lt_of_le_of_ne hle fun heq => ?_
  have := List.length_filter_eq_length_iff.mp heq g hg
  simp at this

/-- R93 step 1: a list of 16 entries seals its head. -/
theorem relievePressure_cases (s : State) :
    (s.openSegments.length < 16 ∧ relievePressure s = s)
    ∨ ∃ head rest, s.openSegments = head :: rest ∧ 16 ≤ s.openSegments.length ∧ relievePressure s = sealSegment head s := by
  unfold relievePressure
  split
  case h_1 hnil => exact .inl ⟨by simp [hnil], rfl⟩
  case h_2 head rest hcons =>
    split
    case isTrue hfull => exact .inr ⟨head, rest, hcons, hfull, rfl⟩
    case isFalse hroom => exact .inl ⟨Nat.lt_of_not_le hroom, rfl⟩

theorem keeps_relievePressure (s : State) : Keeps [] s (relievePressure s) := by
  obtain ⟨-, h⟩ | ⟨head, rest, hcons, -, h⟩ := relievePressure_cases s
  · rw [h]; exact .refl _ _
  · rw [h]; exact keeps_sealSegment_of_mem (by simp [hcons])

theorem relievePressure_room (h : ListsBounded s) : (relievePressure s).openSegments.length < Config.openSegmentLimit := by
  obtain ⟨-, -, -, hopen⟩ := h
  obtain ⟨hroom, h⟩ | ⟨head, rest, hcons, -, h⟩ := relievePressure_cases s
  · rwa [h]
  · rw [h, sealSegment_openSegments]
    exact (length_filter_lt_of_mem (by simp [hcons])).trans_le hopen

/-- The state that an offer leaves, whatever the encoder answers. -/
def Offer.state : Offer → State
  | .accepted s => s
  | .refused s => s

/-- An entry other than the default is read back without a word on the table's order. -/
theorem entry_setEntry_self {e : CatalogEntry} (he : e ≠ {}) (id : Nat) (s : State) : (s.setEntry id e).entry id = e := by
  simp [State.entry, State.setEntry, NMap.read, NMap.write, he, NMap.find?_insert_self]

theorem entry_takeResources (k : SegmentKey) (id : Nat) (rest : List Nat) (i : Fin 32) (s : State) :
    ((takeResources k id i rest s).entry id).state = .opened := by
  unfold takeResources addReference
  simp only [State.entry_setBank_same, State.entry_setBuffer_same]
  rw [entry_setEntry_self (by simp)]

theorem keeps_offerNew (k : SegmentKey) (fileSwitch : Nat) (r : CallRecord) (v : Verdict) (s : State) :
    Keeps [] s (offerNew k fileSwitch r v s).state := by
  have hrelieved := keeps_relievePressure s
  unfold offerNew
  dsimp only
  split
  case h_2 => exact hrelieved.trans (keeps_stallEncoder ..)
  case h_1 id rest i hfree _ =>
    have htaken := hrelieved.trans (keeps_takeResources k i hfree)
    refine .restore (q := .lists) (htaken.weaken.trans (keepsBut_appendRecord _ _ _ _ fun hs => ?_)) fun hs => ?_
    · exact id_lt_of_notFree hs (by simp [newSegment, entry_takeResources])
    · exact listsKept_appendRecord _ _ _ _
        ((List.length_filter_le ..).trans_lt (relievePressure_room hs.1)) (htaken.part .lists hs)

/-- R92: a record that fits its open segment, else a new segment after the seal of a full one. -/
theorem keeps_offerRecord (c : FileContext) (r : CallRecord) (v : Verdict) (s : State) :
    Keeps [] s (offerRecord c r v s).state := by
  unfold offerRecord
  dsimp only
  split
  case h_1 => exact keeps_offerNew ..
  case h_2 g hfound =>
    have hg : g ∈ s.openSegments := List.mem_of_find?_eq_some hfound
    split
    case isTrue =>
      refine .restore (q := .lists) (keepsBut_appendRecord _ _ _ _ fun hs => ?_) fun hs => ?_
      · obtain ⟨-, -, -, -, hopen⟩ := hs
        exact hopen g hg
      · refine listsKept_appendRecord _ _ _ _ ?_ hs
        obtain ⟨⟨-, -, -, hopen⟩, -⟩ := hs
        exact (length_filter_lt_of_mem hg).trans_le hopen
    case isFalse => exact (keeps_sealSegment_of_mem hg).trans (keeps_offerNew ..)

theorem keeps_of_accepted {c : FileContext} {r : CallRecord} {v : Verdict} (h : offerRecord c r v s = .accepted t) :
    Keeps [] s t := by
  have := keeps_offerRecord c r v s
  rwa [h] at this

theorem keeps_of_refused {c : FileContext} {r : CallRecord} {v : Verdict} (h : offerRecord c r v s = .refused t) :
    Keeps [] s t := by
  have := keeps_offerRecord c r v s
  rwa [h] at this

/-! ### Banks (R53 to R58) -/

theorem sealWhere_banks (which : OpenSegment → Bool) (s : State) : (sealWhere which s).banks = s.banks := by
  unfold sealWhere
  generalize s.openSegments.filter which = gs
  induction gs generalizing s with
  | nil => rfl
  | cons g gs ih => exact ih _

theorem sealWhere_selection (which : OpenSegment → Bool) (s : State) : (sealWhere which s).selection = s.selection := by
  unfold sealWhere
  generalize s.openSegments.filter which = gs
  induction gs generalizing s with
  | nil => rfl
  | cons g gs ih => exact ih _

theorem bank_of_banks {x y : State} (h : x.banks = y.banks) (c : Fin 4) : x.bank c = y.bank c := by
  simp [State.bank, h]

@[simp] theorem bank_raise (k : ReportKind) (u : Option Nat) (a b c : Nat) (s : State) (d : Fin 4) :
    (raise k u a b c s).bank d = s.bank d := bank_of_banks (raise_banks ..) d

/-- R58: the bank that retires becomes READY, and the others are left. -/
theorem bank_retireBank (b c : Fin 4) (s : State) :
    (retireBank b s).bank c = if b = c then { s.bank b with state := .ready } else s.bank c := by
  unfold retireBank
  simp only [bank_raise, State.bank_setBank, bank_of_banks (sealWhere_banks ..)]

@[simp] theorem retireBank_selection (b : Fin 4) (s : State) : (retireBank b s).selection = s.selection := by
  unfold retireBank
  simp [sealWhere_selection]

theorem keepsBut_retireBank (b : Fin 4) (s : State) : Keeps [.banks] s (retireBank b s) :=
  ((keeps_sealWhere ..).weaken.trans (keepsBut_setBank b _ _)).trans (keeps_raise ..).weaken

theorem keepsBut_supersede (b : Fin 4) (s : State) : Keeps [.banks] s (supersede b s) := by
  unfold supersede
  split
  · exact keepsBut_setBank ..
  · exact keepsBut_retireBank ..

/-- R55: the bank superseded is READY or DRAINING, and the others are left. -/
theorem bank_supersede (b c : Fin 4) (s : State) :
    (supersede b s).bank c = if b = c then { s.bank b with
      state := if 0 < (s.bank b).boundFiles then .draining else .ready } else s.bank c := by
  unfold supersede
  split <;> simp only [State.bank_setBank, bank_retireBank]

@[simp] theorem supersede_selection (b : Fin 4) (s : State) : (supersede b s).selection = s.selection := by
  unfold supersede
  split
  · rfl
  · exact retireBank_selection ..

theorem activeBank_eq_some {b : Fin 4} (h : s.activeBank = some b) : (s.bank b).state = .active := by
  simpa using List.find?_some h

theorem activeBank_eq_none (h : s.activeBank = none) (b : Fin 4) : (s.bank b).state ≠ .active := by
  simpa using List.find?_eq_none.mp h b (List.mem_finRange b)

theorem selectBank_selection (b : Fin 4) (how : SelectedBy) (s : State) : (selectBank b how s).selection = none := by
  unfold selectBank
  dsimp only
  split <;> simp

theorem keepsBut_selectBank (b : Fin 4) (how : SelectedBy) (s : State) : Keeps [.banks] s (selectBank b how s) := by
  have hchosen : Keeps [.banks] s ({ s with selection := none }.setBank b { s.bank b with state := .active }) :=
    (keepsBut_setBank ..).after (.of_same fun p hp => by cases p <;> simp_all [Part.Same])
  unfold selectBank
  dsimp only
  split
  · exact hchosen.trans (keeps_raise ..).weaken
  · exact (hchosen.trans (keeps_raise ..).weaken).trans (keepsBut_supersede ..)

/-- R54, R55: after a selection the bank selected is the ACTIVE one. -/
theorem eq_of_active_selectBank {b c : Fin 4} {how : SelectedBy} (hs : BanksSound s)
    (hc : ((selectBank b how s).bank c).state = .active) : c = b := by
  by_contra hne
  have hbc : b ≠ c := fun h => hne h.symm
  unfold selectBank at hc
  dsimp only at hc
  split at hc
  case h_1 hnone =>
    rw [bank_raise, State.bank_setBank, if_neg hbc] at hc
    exact activeBank_eq_none hnone c hc
  case h_2 old hold =>
    have hold := activeBank_eq_some hold
    rw [bank_supersede] at hc
    split at hc
    case isTrue => revert hc; dsimp only; split <;> simp
    case isFalse hoc =>
      rw [bank_raise, State.bank_setBank, if_neg hbc] at hc
      exact hoc (hs.1 old c hold hc)

theorem keeps_selectBank {b : Fin 4} (how : SelectedBy) (s : State) : Keeps [] s (selectBank b how s) := by
  refine .restore (keepsBut_selectBank b how s) fun hs => ⟨fun x y hx hy => ?_, fun sel hsel => ?_⟩
  · exact (eq_of_active_selectBank hs hx).trans (eq_of_active_selectBank hs hy).symm
  · simp [selectBank_selection] at hsel

theorem keeps_takeSelection (mode : SelectMode) (how : SelectedBy) (s : State) : Keeps [] s (takeSelection mode how s) := by
  unfold takeSelection
  split
  · exact .refl _ _
  · split
    · exact keeps_selectBank ..
    · exact .refl _ _

/-- R57, R58: a DRAINING bank that no file binds any more retires. -/
theorem keeps_unbindFile (b : Fin 4) (s : State) : Keeps [] s (unbindFile b s) := by
  unfold unbindFile
  dsimp only
  split
  case isFalse => exact keeps_setBank rfl
  case isTrue h =>
    obtain ⟨hdraining, -⟩ := h
    refine .restore (q := .banks) ((keepsBut_setBank ..).trans (keepsBut_retireBank ..)) fun hs => ?_
    obtain ⟨hactive, hselected⟩ := hs
    have hbank (c : Fin 4) : ((retireBank b (s.setBank b { s.bank b with boundFiles := (s.bank b).boundFiles - 1 })).bank c).state
        = if b = c then .ready else (s.bank c).state := by
      by_cases h : b = c <;> simp [bank_retireBank, State.bank_setBank, h]
    simp only [BanksSound, hbank, retireBank_selection, State.setBank_selection]
    refine ⟨fun x y hx hy => ?_, fun sel hsel => ?_⟩
    · have hne (c : Fin 4) (hc : (if b = c then BankState.ready else (s.bank c).state) = .active) :
          (s.bank c).state = .active := by split at hc <;> simp_all
      exact hactive x y (hne x hx) (hne y hy)
    · have := hselected sel hsel
      split <;> simp_all

end

end Sys2Proof.Machine

namespace Sys2Proof.Machine

open Sys2Proof.Safety

section
variable {s t : State}

/-! ### The walkers (R135 to R142, R163, R164) -/

/-- What `WalkersSound` asks of one walker while the paused set is or is not empty (R139, R168, R135, R163). -/
def WalkFits (paused : Bool) (phase : WalkPhase) (rest : Option Nat) (cursor : Nat) : Prop :=
  (paused = true → phase ≠ .running ∧ phase ≠ .resting) ∧ (paused = false → phase ≠ .extendedRest)
    ∧ (phase = .resting ↔ rest.isSome = true) ∧ cursor < Config.catalogEntries

def SweeperFits (paused : Bool) (w : Sweeper) : Prop := WalkFits paused w.phase w.restExpiry w.cursor

def VerifierFits (paused : Bool) (v : Verifier) : Prop := WalkFits paused v.phase v.restExpiry v.cursor

@[simp] theorem Sweeper.enter_phase (w : Sweeper) (phase : WalkPhase) : (w.enter phase).phase = phase := rfl
@[simp] theorem Verifier.enter_phase (v : Verifier) (phase : WalkPhase) : (v.enter phase).phase = phase := rfl

theorem walkersSound_iff : WalkersSound s ↔ SweeperFits s.anyPaused s.sweeper ∧ VerifierFits s.anyPaused s.verifier := by
  unfold WalkersSound SweeperFits VerifierFits WalkFits
  tauto

/-- Only the lanes decide whether a lane is paused. -/
theorem anyPaused_of_lanes (h : t.lanes = s.lanes) : t.anyPaused = s.anyPaused := by
  simp [State.anyPaused, State.lane, h]

theorem pausedExactly_of_lanes (h : t.lanes = s.lanes) (hs : PausedExactly s) : PausedExactly t := by
  simpa [PausedExactly, State.lane, h] using hs

theorem keepsBut_setSweeper {w : Sweeper} (hw : SweeperFits s.anyPaused s.sweeper → SweeperFits s.anyPaused w) :
    Keeps [.lists] s { s with sweeper := w } := by
  refine .restore (q := .walkers) (.of_same fun p hp => by cases p <;> simp_all [Part.Same]) fun ⟨hpaused, hwalkers⟩ => ?_
  obtain ⟨hsweeper, hverifier⟩ := walkersSound_iff.mp hwalkers
  exact ⟨pausedExactly_of_lanes rfl hpaused, walkersSound_iff.mpr ⟨hw hsweeper, hverifier⟩⟩

theorem keeps_setSweeper {w : Sweeper} (hsuspended : w.suspended = s.sweeper.suspended)
    (hw : SweeperFits s.anyPaused s.sweeper → SweeperFits s.anyPaused w) : Keeps [] s { s with sweeper := w } := by
  refine .restore (q := .lists) (keepsBut_setSweeper hw) fun ⟨hlists, hs⟩ => ⟨hlists, ?_⟩
  have hs : s.sweeper.suspended = true ↔ s.pendingHolds ≠ [] := hs
  exact (by rw [hsuspended] : w.suspended = true ↔ s.sweeper.suspended = true).trans hs

theorem keeps_setVerifier {v : Verifier} (hv : VerifierFits s.anyPaused s.verifier → VerifierFits s.anyPaused v) :
    Keeps [] s { s with verifier := v } := by
  refine .restore (q := .walkers) (.of_same fun p hp => by cases p <;> simp_all [Part.Same]) fun ⟨hpaused, hwalkers⟩ => ?_
  obtain ⟨hsweeper, hverifier⟩ := walkersSound_iff.mp hwalkers
  exact ⟨pausedExactly_of_lanes rfl hpaused, walkersSound_iff.mpr ⟨hsweeper, hv hverifier⟩⟩

theorem WalkFits.cursor_zero {paused : Bool} {phase : WalkPhase} {rest : Option Nat} {cursor : Nat}
    (h : WalkFits paused phase rest cursor) : WalkFits paused phase rest 0 :=
  ⟨h.1, h.2.1, h.2.2.1, by simp⟩

/-- A walker in a phase other than RESTING has no rest expiry. -/
theorem WalkFits.enter {paused : Bool} {phase new : WalkPhase} {rest : Option Nat} {cursor : Nat}
    (h : WalkFits paused phase rest cursor) (hpaused : paused = true → new ≠ .running)
    (hnone : paused = false → new ≠ .extendedRest) (hrest : new ≠ .resting) : WalkFits paused new none cursor :=
  ⟨fun hp => ⟨hpaused hp, hrest⟩, hnone, by simp [hrest], h.2.2.2⟩

theorem WalkFits.rest {paused : Bool} {phase : WalkPhase} {rest : Option Nat} {cursor : Nat}
    (h : WalkFits paused phase rest cursor) (hpaused : paused = false) (expiry : Nat) :
    WalkFits paused .resting (some expiry) cursor :=
  ⟨fun hp => by simp_all, by simp, by simp, h.2.2.2⟩

/-- R136: a pass that begins or continues, from a state that the sweeper may be in but for its phase. -/
theorem keeps_enterSweep {w : Sweeper} (hsuspended : w.suspended = s.sweeper.suspended)
    (hcursor : SweeperFits s.anyPaused s.sweeper → w.cursor < Config.catalogEntries) : Keeps [] s (enterSweep w s) := by
  unfold enterSweep
  refine keeps_setSweeper ?_ fun hs => ?_
  · split
    · exact hsuspended
    · split <;> exact hsuspended
  · have hw : WalkFits s.anyPaused .idle none w.cursor := ⟨by simp, by simp, by simp, hcursor hs⟩
    split
    case isTrue hp => exact hw.enter (by simp) (by simp [hp]) (by simp)
    case isFalse hp =>
      split
      · exact hw.rest (by simpa using hp) _
      · exact hw.enter (by simp [hp]) (by simp) (by simp)

theorem keeps_restartSweep (s : State) : Keeps [] s (restartSweep s) := by
  unfold restartSweep
  dsimp only
  split
  iterate 2 exact keeps_enterSweep rfl fun _ => by simp
  iterate 3 exact keeps_setSweeper rfl WalkFits.cursor_zero

theorem keeps_resumeSweep (s : State) : Keeps [] s (resumeSweep s) := by
  unfold resumeSweep
  dsimp only
  split
  iterate 2 exact keeps_enterSweep rfl fun h => h.2.2.2
  iterate 3 exact .refl _ _

theorem keeps_autoSweep (s : State) : Keeps [] s (autoSweep s) := by
  unfold autoSweep
  dsimp only
  split
  · exact .refl _ _
  · split
    · exact keeps_restartSweep s
    · exact keeps_enterSweep rfl fun h => h.2.2.2
    iterate 3 exact keeps_setSweeper rfl id

theorem keeps_stopSweep (s : State) : Keeps [] s (stopSweep s) := by
  unfold stopSweep
  split
  · exact keeps_setSweeper rfl fun h => h.enter (by simp) (by simp) (by simp)
  · exact .refl _ _

/-- R138: a walker that rests is not held by ingest, so it may run. -/
theorem WalkFits.rest_over {paused : Bool} {rest : Option Nat} {cursor : Nat} (h : WalkFits paused .resting rest cursor) :
    WalkFits paused .running none cursor :=
  h.enter (fun hp => absurd rfl (h.1 hp).2) (by simp) (by simp)

theorem keeps_sweepRestEnds (h : s.sweeper.phase = .resting) : Keeps [] s (sweepRestEnds s) :=
  keeps_setSweeper rfl fun hs => by
    unfold SweeperFits at hs
    rw [h] at hs
    exact hs.rest_over

theorem keeps_verifyRestEnds (h : s.verifier.phase = .resting) : Keeps [] s (verifyRestEnds s) :=
  keeps_setVerifier fun hs => by
    unfold VerifierFits at hs
    rw [h] at hs
    exact hs.rest_over

theorem keeps_enterVerify {v : Verifier} (hcursor : VerifierFits s.anyPaused s.verifier → v.cursor < Config.catalogEntries) :
    Keeps [] s (enterVerify v s) := by
  refine keeps_setVerifier fun hs => ?_
  have hv : WalkFits s.anyPaused .idle none v.cursor := ⟨by simp, by simp, by simp, hcursor hs⟩
  cases hp : s.anyPaused <;> rw [hp] at hv
  · exact hv.enter (by simp) (by simp) (by simp)
  · exact hv.enter (by simp) (by simp) (by simp)

theorem keeps_restartVerify (s : State) : Keeps [] s (restartVerify s) := by
  unfold restartVerify
  dsimp only
  split
  iterate 2 exact keeps_enterVerify fun _ => by simp
  iterate 3 exact keeps_setVerifier WalkFits.cursor_zero

theorem keeps_resumeVerify (s : State) : Keeps [] s (resumeVerify s) := by
  unfold resumeVerify
  dsimp only
  split
  iterate 2 exact keeps_enterVerify fun h => h.2.2.2
  iterate 3 exact .refl _ _

theorem keeps_stopVerify (s : State) : Keeps [] s (stopVerify s) := by
  unfold stopVerify
  split
  · exact keeps_setVerifier fun h => h.enter (by simp) (by simp) (by simp)
  · exact .refl _ _

theorem keeps_restVerifier (s : State) : Keeps [] s (restVerifier s) := by
  unfold restVerifier
  split
  case h_1 h =>
    refine keeps_setVerifier fun hs => ?_
    unfold VerifierFits at hs
    rw [h] at hs
    cases hp : s.anyPaused
    · exact hp ▸ hs.rest hp _
    · exact absurd rfl (hs.1 hp).1
  all_goals exact .refl _ _

theorem keeps_mapVerifyCounts (f : VerifyCounts → VerifyCounts) (s : State) : Keeps [] s (s.mapVerifyCounts f) :=
  keeps_setVerifier id

theorem keeps_clearReadBuffer (s : State) : Keeps [] s (clearReadBuffer s) := keeps_setVerifier id

theorem keeps_countDeleteFailure (s : State) : Keeps [] s (countDeleteFailure s) := keeps_setSweeper rfl id

/-! ### Holds (R144 to R149) -/

theorem keeps_missOn (h : Fin 64) (sel : HoldSelector) (s : State) (g : Fin 8) : Keeps [] s (missOn h sel s g) := by
  unfold missOn
  split
  · exact .refl _ _
  · dsimp only
    split
    · exact keeps_raise ..
    · exact .refl _ _

theorem keeps_reportMissed (h : Fin 64) (sel : HoldSelector) (s : State) : Keeps [] s (reportMissed h sel s) :=
  .foldl (keeps_missOn h sel) _ s

theorem keeps_placeAudit (h : Fin 64) (sel : HoldSelector) (s : State) : Keeps [] s (placeAudit h sel s) :=
  (keeps_setHold ..).trans (keeps_raise ..)

theorem keepsBut_pendingHolds (l : List HoldSelector) (s : State) : Keeps [.lists] s { s with pendingHolds := l } :=
  .of_same fun p hp => by cases p <;> simp_all [Part.Same]

theorem widenNewest_length (r : HoldSelector) {l : List HoldSelector} (h : l ≠ []) : (widenNewest r l).length = l.length := by
  induction l with
  | nil => exact absurd rfl h
  | cons p l ih =>
    cases l with
    | nil => rfl
    | cons q l => simp [widenNewest, ih]

theorem keeps_suspendSweep (s : State) : Keeps [.lists] s (suspendSweep s) :=
  (keeps_raise ..).weaken.after (keepsBut_setSweeper id)

/-- The Pending Audit Hold list that a request which finds no free entry leaves (R148). -/
def waitingHolds (r : HoldSelector) (s : State) : List HoldSelector :=
  if s.pendingHolds.length < 8 then s.pendingHolds ++ [r] else widenNewest r s.pendingHolds

/-- R148: it is not empty, and within its capacity. -/
theorem waitingHolds_bounds (r : HoldSelector) (h : s.pendingHolds.length ≤ 8) :
    waitingHolds r s ≠ [] ∧ (waitingHolds r s).length ≤ 8 := by
  unfold waitingHolds
  split
  case isTrue hroom => exact ⟨by simp, by simpa using hroom⟩
  case isFalse hfull =>
    have hne : s.pendingHolds ≠ [] := fun h => hfull (by simp [h])
    have hlen := widenNewest_length r hne
    refine ⟨fun h0 => ?_, hlen.trans_le h⟩
    rw [h0] at hlen
    exact hne (List.length_eq_zero_iff.mp hlen.symm)

theorem waitAudit_lists (r : HoldSelector) (s : State) :
    (waitAudit r s).control = s.control ∧ (waitAudit r s).recent = s.recent
      ∧ (waitAudit r s).openSegments = s.openSegments ∧ (waitAudit r s).pendingHolds = waitingHolds r s
      ∧ (waitAudit r s).sweeper.suspended = (s.pendingHolds.isEmpty || s.sweeper.suspended) := by
  have hwaiting : (if decide (s.pendingHolds.length < Config.pendingHoldLimit) = true then s.pendingHolds ++ [r]
      else widenNewest r s.pendingHolds) = waitingHolds r s := by simp [waitingHolds, Config.pendingHoldLimit]
  unfold waitAudit
  dsimp only
  rw [hwaiting]
  split <;> simp_all [suspendSweep]

theorem keeps_waitAudit (r : HoldSelector) (s : State) : Keeps [] s (waitAudit r s) := by
  refine .restore (q := .lists) ?_ fun ⟨hlists, hsuspended⟩ => ?_
  · unfold waitAudit
    dsimp only
    split
    · exact ((keepsBut_pendingHolds ..).trans (keeps_raise ..).weaken).trans (keeps_suspendSweep _)
    · exact (keepsBut_pendingHolds ..).trans (keeps_raise ..).weaken
  · obtain ⟨hcontrol, hrecent, hholds, hopen⟩ := hlists
    obtain ⟨hne, hlen⟩ := waitingHolds_bounds r hholds
    obtain ⟨h1, h2, h3, h4, h5⟩ := waitAudit_lists r s
    refine ⟨by unfold ListsBounded; rw [h1, h2, h3, h4]; exact ⟨hcontrol, hrecent, hlen, hopen⟩, ?_⟩
    have hs : s.sweeper.suspended = true ↔ s.pendingHolds ≠ [] := hsuspended
    unfold SuspendedExactly
    rw [h4, h5, Bool.or_eq_true, hs, List.isEmpty_iff]
    exact iff_of_true (Classical.em _) hne

theorem keeps_requestAudit (r : HoldSelector) (s : State) : Keeps [] s (requestAudit r s) := by
  unfold requestAudit
  split
  · exact keeps_placeAudit ..
  · exact keeps_waitAudit ..

theorem keepsBut_unsuspendSweep (s : State) : Keeps [.lists] s (unsuspendSweep s) := by
  unfold unsuspendSweep
  dsimp only
  refine keepsBut_setSweeper fun hs => ?_
  split
  case isFalse => exact hs
  case isTrue hended =>
    have hresting : s.sweeper.phase = .resting := by
      revert hended
      cases s.sweeper.restExpiry <;> simp
      exact fun h _ => h
    unfold SweeperFits at hs
    rw [hresting] at hs
    exact hs.rest_over

theorem unsuspendSweep_lists (s : State) :
    (unsuspendSweep s).control = s.control ∧ (unsuspendSweep s).recent = s.recent
      ∧ (unsuspendSweep s).openSegments = s.openSegments ∧ (unsuspendSweep s).pendingHolds = s.pendingHolds
      ∧ (unsuspendSweep s).sweeper.suspended = false := by
  refine ⟨rfl, rfl, rfl, rfl, ?_⟩
  unfold unsuspendSweep
  dsimp only
  split <;> rfl

/-- R146, R149: the oldest pending entry is served, and the suspension ends with the list. -/
theorem keeps_releaseHold (h : Fin 64) (s : State) : Keeps [] s (releaseHold h s) := by
  unfold releaseHold
  dsimp only
  split
  case h_1 => exact keeps_setHold ..
  case h_2 p rest hcons =>
    have hcons : s.pendingHolds = p :: rest := hcons
    have hplaced : Keeps [.lists] s (placeAudit h p { s.setHold h none with pendingHolds := rest }) :=
      ((keeps_setHold ..).weaken.trans (keepsBut_pendingHolds ..)).trans (keeps_placeAudit ..).weaken
    refine .restore (q := .lists) ?_ fun ⟨⟨hcontrol, hrecent, hholds, hopen⟩, hsuspended⟩ => ?_
    · split
      · exact hplaced.trans (keepsBut_unsuspendSweep _)
      · exact hplaced
    · have hrest : rest.length ≤ Config.pendingHoldLimit := by
        rw [hcons] at hholds
        exact (Nat.le_succ _).trans hholds
      have hs : s.sweeper.suspended = true := hsuspended.mpr (by simp [hcons])
      split
      case isTrue hempty =>
        obtain ⟨h1, h2, h3, h4, h5⟩ := unsuspendSweep_lists (placeAudit h p { s.setHold h none with pendingHolds := rest })
        unfold ListsBounded SuspendedExactly
        rw [h1, h2, h3, h4, h5]
        simp_all [placeAudit]
      case isFalse hne =>
        unfold ListsBounded SuspendedExactly
        simp_all [placeAudit]

end

end Sys2Proof.Machine

namespace Sys2Proof.Machine

open Sys2Proof.Safety

section
variable {s t : State}

/-! ### The paused set (R26, R139, R168) -/

theorem anyPaused_iff : s.anyPaused = true ↔ ∃ l, (s.lane l).paused = true := by simp [State.anyPaused]

theorem anyPaused_eq_false_iff : s.anyPaused = false ↔ ∀ l, (s.lane l).paused = false := by simp [State.anyPaused]

/-- A lane is paused exactly while the parser holds both its buffers (R26). -/
def PausedLane (x : Lane) : Prop := x.paused = true ↔ x.bufA.owner = .parser ∧ x.bufB.owner = .parser

theorem pausedLane_iff_buf (x : Lane) (i : BufId) :
    PausedLane x ↔ (x.paused = true ↔ (x.buf i).owner = .parser ∧ (x.buf i.other).owner = .parser) := by
  cases i
  case a => exact Iff.rfl
  case b => rw [and_comm]; exact Iff.rfl

/-- A lane is replaced by one with the same buffers, paused as it was. -/
theorem keepsBut_setLane {l : Fin 16} {y : Lane} (hpaused : y.paused = (s.lane l).paused)
    (ha : y.bufA.owner = (s.lane l).bufA.owner) (hb : y.bufB.owner = (s.lane l).bufB.owner) :
    Keeps [.records] s (s.setLane l y) := by
  have hlane (m : Fin 16) : ((s.setLane l y).lane m).paused = (s.lane m).paused
      ∧ ((s.setLane l y).lane m).bufA.owner = (s.lane m).bufA.owner
      ∧ ((s.setLane l y).lane m).bufB.owner = (s.lane m).bufB.owner := by
    rw [State.lane_setLane]
    split
    case isTrue h => subst h; exact ⟨hpaused, ha, hb⟩
    case isFalse => exact ⟨rfl, rfl, rfl⟩
  refine .restore (q := .walkers) (.of_same fun p hp => by cases p <;> simp_all [Part.Same]) fun h => ?_
  simpa [PausedExactly, WalkersSound, State.anyPaused, hlane] using h

theorem keepsBut_mapContext (l : Fin 16) (f : FileContext → FileContext) (s : State) :
    Keeps [.records] s (s.mapContext l f) := keepsBut_setLane rfl rfl rfl

theorem lane_pauseLane (l m : Fin 16) (s : State) :
    (pauseLane l s).lane m = if l = m then { s.lane l with paused := true } else s.lane m := by
  have h : (pauseLane l s).lanes = (s.setLane l { s.lane l with paused := true }).lanes := by
    unfold pauseLane; dsimp only; split <;> simp
  rw [← State.lane_setLane]
  simp [State.lane, h]

theorem lane_resumeLane (l m : Fin 16) (s : State) :
    (resumeLane l s).lane m = if l = m then { s.lane l with paused := false } else s.lane m := by
  have h : (resumeLane l s).lanes = (s.setLane l { s.lane l with paused := false }).lanes := by
    unfold resumeLane; dsimp only; split <;> simp
  rw [← State.lane_setLane]
  simp [State.lane, h]

theorem anyPaused_pauseLane (l : Fin 16) (s : State) : (pauseLane l s).anyPaused = true :=
  anyPaused_iff.mpr ⟨l, by simp [lane_pauseLane]⟩

theorem WalkFits.yield {phase : WalkPhase} {rest : Option Nat} {cursor : Nat} (h : WalkFits false phase rest cursor) :
    WalkFits true (if phase = .running ∨ phase = .resting then .extendedRest else phase)
      (if phase = .running ∨ phase = .resting then none else rest) cursor := by
  obtain ⟨-, hext, hrest, hcursor⟩ := h
  split
  · exact ⟨by simp, by simp, by simp, hcursor⟩
  · exact ⟨fun _ => by tauto, by simp, hrest, hcursor⟩

theorem SweeperFits.yield {w : Sweeper} (h : SweeperFits false w) : SweeperFits true w.yieldToIngest := by
  have hy := WalkFits.yield h
  unfold SweeperFits Sweeper.yieldToIngest
  split <;> simpa [‹w.phase = _›, Sweeper.enter] using hy

theorem VerifierFits.yield {v : Verifier} (h : VerifierFits false v) : VerifierFits true v.yieldToIngest := by
  have hy := WalkFits.yield h
  unfold VerifierFits Verifier.yieldToIngest
  split <;> simpa [‹v.phase = _›, Verifier.enter] using hy

/-- R139, R168: the walkers yield when the paused set becomes non-empty. -/
theorem walkersSound_pauseLane (l : Fin 16) (h : WalkersSound s) : WalkersSound (pauseLane l s) := by
  rw [walkersSound_iff] at h ⊢
  rw [anyPaused_pauseLane]
  obtain ⟨hsweeper, hverifier⟩ := h
  unfold pauseLane
  dsimp only
  cases hp : s.anyPaused <;> rw [hp] at hsweeper hverifier
  · exact ⟨by simpa using hsweeper.yield, by simpa using hverifier.yield⟩
  · exact ⟨by simpa using hsweeper, by simpa using hverifier⟩

theorem WalkFits.paused_mono {phase : WalkPhase} {rest : Option Nat} {cursor : Nat} {p : Bool}
    (h : WalkFits p phase rest cursor) :
    WalkFits false (if phase = .extendedRest then .running else phase) rest cursor := by
  obtain ⟨hpaused, -, hrest, hcursor⟩ := h
  split
  case isTrue hext => exact ⟨by simp, by simp, by simpa [hext] using hrest, hcursor⟩
  case isFalse hext => exact ⟨by simp, fun _ => hext, hrest, hcursor⟩

theorem SweeperFits.return {w : Sweeper} {p : Bool} (h : SweeperFits p w) : SweeperFits false w.returnFromRest := by
  have hy := WalkFits.paused_mono h
  unfold SweeperFits Sweeper.returnFromRest
  split <;> simpa [‹w.phase = _›] using hy

theorem VerifierFits.return {v : Verifier} {p : Bool} (h : VerifierFits p v) : VerifierFits false v.returnFromRest := by
  have hy := WalkFits.paused_mono h
  unfold VerifierFits Verifier.returnFromRest
  split <;> simpa [‹v.phase = _›] using hy

/-- R139, R168: the walkers return when the paused set becomes empty. -/
theorem walkersSound_resumeLane (l : Fin 16) (h : WalkersSound s) : WalkersSound (resumeLane l s) := by
  rw [walkersSound_iff] at h ⊢
  obtain ⟨hsweeper, hverifier⟩ := h
  have hpaused : (resumeLane l s).anyPaused = (s.setLane l { s.lane l with paused := false }).anyPaused := by
    simp [State.anyPaused, lane_resumeLane, State.lane_setLane]
  have hsent : (sendFeed (.laneResume l) (s.setLane l { s.lane l with paused := false })).anyPaused
      = (s.setLane l { s.lane l with paused := false }).anyPaused := anyPaused_of_lanes (sendFeed_lanes ..)
  rw [hpaused]
  unfold resumeLane
  dsimp only
  rw [hsent]
  cases hp : (s.setLane l { s.lane l with paused := false }).anyPaused
  · exact ⟨by simpa using hsweeper.return, by simpa using hverifier.return⟩
  · have hs : s.anyPaused = true := by
      obtain ⟨m, hm⟩ := anyPaused_iff.mp hp
      rw [State.lane_setLane] at hm
      refine anyPaused_iff.mpr ⟨m, ?_⟩
      split at hm
      · simp at hm
      · exact hm
    rw [hs] at hsweeper hverifier
    exact ⟨by simpa using hsweeper, by simpa using hverifier⟩

theorem keepsBut_pauseLane (l : Fin 16) (s : State) : Keeps [.walkers, .records] s (pauseLane l s) := by
  have hset : Keeps [.walkers, .records] s (sendFeed (.lanePause l) (s.setLane l { s.lane l with paused := true })) :=
    (keeps_sendFeed ..).weaken.after (.of_same fun p hp => by cases p <;> simp_all [Part.Same])
  unfold pauseLane
  dsimp only
  split
  · refine hset.trans (.restore (q := .lists) (.of_same fun p hp => by cases p <;> simp_all [Part.Same]) ?_)
    refine fun ⟨hlists, hs⟩ => ⟨hlists, ?_⟩
    have hsame (w : Sweeper) : w.yieldToIngest.suspended = w.suspended := by
      unfold Sweeper.yieldToIngest; split <;> rfl
    simpa [SuspendedExactly, hsame] using hs
  · exact hset

theorem keepsBut_resumeLane (l : Fin 16) (s : State) : Keeps [.walkers, .records] s (resumeLane l s) := by
  have hset : Keeps [.walkers, .records] s (sendFeed (.laneResume l) (s.setLane l { s.lane l with paused := false })) :=
    (keeps_sendFeed ..).weaken.after (.of_same fun p hp => by cases p <;> simp_all [Part.Same])
  unfold resumeLane
  dsimp only
  split
  · exact hset
  · refine hset.trans (.restore (q := .lists) (.of_same fun p hp => by cases p <;> simp_all [Part.Same]) ?_)
    refine fun ⟨hlists, hs⟩ => ⟨hlists, ?_⟩
    have hsame (w : Sweeper) : w.returnFromRest.suspended = w.suspended := by
      unfold Sweeper.returnFromRest; split <;> rfl
    simpa [SuspendedExactly, hsame] using hs

theorem keepsBut_setLane' (l : Fin 16) (y : Lane) (s : State) : Keeps [.walkers, .records] s (s.setLane l y) :=
  .of_same fun p hp => by cases p <;> simp_all [Part.Same]

/-- A lane is replaced by one that is paused as it was. -/
theorem walkersSound_setLane {l : Fin 16} {y : Lane} (hy : y.paused = (s.lane l).paused) (h : WalkersSound s) :
    WalkersSound (s.setLane l y) := by
  have hlane (m : Fin 16) : ((s.setLane l y).lane m).paused = (s.lane m).paused := by
    rw [State.lane_setLane]
    split
    case isTrue h => exact h ▸ hy
    case isFalse => rfl
  simpa [WalkersSound, State.anyPaused, hlane] using h

/-- R22, R26: a block fills a link-side buffer; the second one pauses the lane. -/
theorem keepsBut_fillBuffer {l : Fin 16} {i : BufId} (c : FileContext) (records : List CallRecord)
    (hfree : (s.lane l).free i = true) : Keeps [.records] s (fillBuffer l i c records s) := by
  have howner : ((s.lane l).buf i).owner = .link := by simpa [Lane.free] using hfree
  unfold fillBuffer
  dsimp only
  split
  case isTrue hother =>
    have hother : ((s.lane l).buf i.other).owner = .link := by simpa [Lane.free] using hother
    refine .restore (q := .walkers) (keepsBut_setLane' ..) fun ⟨hpaused, hwalkers⟩ => ⟨fun m => ?_, ?_⟩
    · rw [State.lane_setLane]
      split
      case isFalse => exact hpaused m
      case isTrue h =>
        have hx := (pausedLane_iff_buf _ i).mp (hpaused l)
        refine (pausedLane_iff_buf _ i).mpr ?_
        cases i <;> simp_all [Lane.setBuf, Lane.buf, BufId.other]
    · exact walkersSound_setLane (by cases i <;> rfl) hwalkers
  case isFalse hother =>
    have hother : ((s.lane l).buf i.other).owner = .parser := by
      cases h : ((s.lane l).buf i.other).owner <;> simp_all [Lane.free]
    refine .restore (q := .walkers) ((keepsBut_setLane' ..).trans (keepsBut_pauseLane ..))
      fun ⟨hpaused, hwalkers⟩ => ⟨fun m => ?_, ?_⟩
    · rw [lane_pauseLane, State.lane_setLane, State.lane_setLane, if_pos rfl]
      split
      case isFalse => exact hpaused m
      case isTrue h =>
        refine (pausedLane_iff_buf _ i).mpr ?_
        cases i <;> simp_all [Lane.setBuf, Lane.buf, BufId.other]
    · exact walkersSound_pauseLane l (walkersSound_setLane (by cases i <;> rfl) hwalkers)

/-- Buffers of a lane pass back to the link side, which takes it out of the paused set (R22, R26). -/
theorem keepsBut_passBack {l : Fin 16} {y : Lane} (hpaused : y.paused = (s.lane l).paused)
    (hlink : y.bufA.owner = .link ∨ y.bufB.owner = .link) :
    Keeps [.records] s (if (s.lane l).paused then resumeLane l (s.setLane l y) else s.setLane l y) := by
  have hnotBoth : ¬ (y.bufA.owner = .parser ∧ y.bufB.owner = .parser) := by
    rintro ⟨ha, hb⟩
    rcases hlink with h | h <;> simp_all
  split
  case isTrue =>
    refine .restore (q := .walkers) ((keepsBut_setLane' ..).trans (keepsBut_resumeLane ..))
      fun ⟨hexact, hwalkers⟩ => ⟨fun m => ?_, ?_⟩
    · rw [lane_resumeLane, State.lane_setLane, State.lane_setLane, if_pos rfl]
      split
      case isFalse => exact hexact m
      case isTrue => exact iff_of_false (by simp) hnotBoth
    · exact walkersSound_resumeLane l (walkersSound_setLane hpaused hwalkers)
  case isFalse hnot =>
    refine .restore (q := .walkers) (keepsBut_setLane' ..) fun ⟨hexact, hwalkers⟩ => ⟨fun m => ?_, ?_⟩
    · rw [State.lane_setLane]
      split
      case isFalse => exact hexact m
      case isTrue => exact iff_of_false (by rw [hpaused]; exact hnot) hnotBoth
    · exact walkersSound_setLane hpaused hwalkers

theorem keepsBut_returnBuffer (l : Fin 16) (i : BufId) (s : State) : Keeps [.records] s (returnBuffer l i s) :=
  keepsBut_passBack (by cases i <;> rfl) (by cases i <;> simp [Lane.setBuf])

theorem keepsBut_returnLane (s : State) (l : Fin 16) : Keeps [.records] s (returnLane s l) :=
  keepsBut_passBack rfl (.inl rfl)

end

end Sys2Proof.Machine

namespace Sys2Proof.Machine

open Sys2Proof.Safety

section
variable {s t : State}

/-! ### The records of a lane (R17)

`started` is how far the parser has come in a buffer, so a lane's account reads the lane and two numbers alone. -/

/-- Records of a buffer that are counted already: those before the record in hand. -/
def started (ph : ParserPhase) (l : Fin 16) (i : BufId) : Nat :=
  match inHand ph with
  | none => 0
  | some (l', i', position) => if l' = l ∧ i' = i then position else 0

theorem uncountedIn_eq (s : State) (l : Fin 16) (i : BufId) :
    uncountedIn s l i = ((s.lane l).buf i).records.length - started s.parser.phase l i := by
  unfold uncountedIn started
  cases s.parser.phase with
  | idle => rfl
  | parsing l' i' position => simp only [inHand]; split <;> simp_all
  | stalled l' i' position r v => simp only [inHand]; split <;> simp_all

/-- A file context accounts for every record announced, and `uncounted` are still to come (R17). -/
def ContextAccounts (uncounted : Nat) (c : FileContext) : Prop := c.announced = accounted c ∧ c.pending = uncounted

/-- What `LaneAccounts` asks of a lane whose buffers are counted up to `na` and `nb`. -/
structure LaneOk (na nb : Nat) (x : Lane) : Prop where
  bufA : BufferSound x.bufA
  bufB : BufferSound x.bufB
  noFile : x.context = none → x.state = .idle ∧ x.drained = true
  file : ∀ c, x.context = some c → x.state ≠ .idle
    ∧ ContextAccounts ((x.bufA.records.length - na) + (x.bufB.records.length - nb)) c

theorem laneAccounts_iff (l : Fin 16) :
    LaneAccounts s l ↔ LaneOk (started s.parser.phase l .a) (started s.parser.phase l .b) (s.lane l) := by
  unfold LaneAccounts
  simp only [uncountedIn_eq, Option.mem_def]
  exact ⟨fun ⟨ha, hb, hn, hf⟩ => ⟨ha, hb, hn, hf⟩, fun ⟨ha, hb, hn, hf⟩ => ⟨ha, hb, hn, hf⟩⟩

/-- Every entry of Recent Files accounts for its records, with none pending (R17). -/
def RecentOk (recent : List RecentEntry) : Prop := ∀ e ∈ recent, ContextAccounts 0 e.context

/-- `RecordsConserved`, with the parser's progress read from its phase. -/
theorem recordsConserved_iff :
    RecordsConserved s ↔
      (∀ l, LaneOk (started s.parser.phase l .a) (started s.parser.phase l .b) (s.lane l)) ∧ ParserAccounts s
        ∧ RecentOk s.recent := by
  simp only [RecordsConserved, laneAccounts_iff, RecentOk, ContextAccounts]

theorem parserAccounts_of_idle (h : s.parser.phase = .idle) : ParserAccounts s := by
  simp [ParserAccounts, h, inHand]

theorem started_self {ph : ParserPhase} {l : Fin 16} {i : BufId} {position : Nat} (h : inHand ph = some (l, i, position)) :
    started ph l i = position := by simp [started, h]

theorem started_other {ph : ParserPhase} {l l' : Fin 16} {i i' : BufId} {position : Nat}
    (h : inHand ph = some (l, i, position)) (hne : l ≠ l' ∨ i ≠ i') : started ph l' i' = 0 := by
  simp only [started, h]
  rw [if_neg (not_and_or.mpr hne)]

/-- A link-side buffer holds no records. -/
theorem records_of_link {x : LaneBuffer} (h : BufferSound x) (hx : x.owner = .link) : x.records = [] := h.1 hx

theorem bufferSound_empty : BufferSound {} := ⟨fun _ => rfl, fun h => by simp at h⟩

theorem Lane.drained_iff {x : Lane} : x.drained = true ↔ x.bufA.owner = .link ∧ x.bufB.owner = .link := by
  simp only [Lane.drained, Lane.free, Bool.and_eq_true, decide_eq_true_eq]
  exact Iff.rfl

/-- A lane with both buffers on the link side has no record to come. -/
theorem LaneOk.pending_of_drained {na nb : Nat} {x : Lane} (h : LaneOk na nb x) (hd : x.drained = true) {c : FileContext}
    (hc : x.context = some c) : ContextAccounts 0 c := by
  obtain ⟨ha, hb⟩ := Lane.drained_iff.mp hd
  obtain ⟨-, haccounts⟩ := h.file c hc
  simpa [records_of_link h.bufA ha, records_of_link h.bufB hb] using haccounts

/-- A lane that is IDLE has no file, and both buffers on the link side. -/
theorem LaneOk.of_idle {na nb : Nat} {x : Lane} (h : LaneOk na nb x) (hidle : x.state = .idle) :
    x.context = none ∧ x.drained = true := by
  cases hc : x.context with
  | none => exact ⟨rfl, (h.noFile hc).2⟩
  | some c => exact absurd hidle (h.file c hc).1

/-- One lane is replaced, its buffers kept in the parser's hand as they are. -/
theorem recordsConserved_setLane {l : Fin 16} {y : Lane} (hs : RecordsConserved s)
    (hy : LaneOk (started s.parser.phase l .a) (started s.parser.phase l .b) (s.lane l)
      → LaneOk (started s.parser.phase l .a) (started s.parser.phase l .b) y)
    (hbuf : ∀ i position, inHand s.parser.phase = some (l, i, position) → y.buf i = (s.lane l).buf i) :
    RecordsConserved (s.setLane l y) := by
  rw [recordsConserved_iff] at hs ⊢
  obtain ⟨hlanes, hparser, hrecent⟩ := hs
  refine ⟨fun m => ?_, ?_, hrecent⟩
  · rw [State.lane_setLane]
    split
    case isTrue h => exact h ▸ hy (hlanes l)
    case isFalse => exact hlanes m
  · intro h hh
    have hsame : (((s.setLane l y).lane h.1).buf h.2.1) = ((s.lane h.1).buf h.2.1) := by
      rw [State.lane_setLane]
      split
      case isTrue heq => exact heq ▸ hbuf h.2.1 h.2.2 (by rw [heq]; exact hh)
      case isFalse => rfl
    rw [hsame]
    exact hparser h hh

/-- The buffers of a lane stay, and so does what the account says of it. -/
theorem recordsConserved_setLane_same {l : Fin 16} {y : Lane} (ha : y.bufA = (s.lane l).bufA)
    (hb : y.bufB = (s.lane l).bufB) (hstate : y.state = (s.lane l).state ∨ y.state ≠ .idle ∧ (s.lane l).state ≠ .idle)
    (hcontext : (s.lane l).context.isSome = y.context.isSome)
    (hfile : ∀ n c c', (s.lane l).context = some c → y.context = some c' → ContextAccounts n c → ContextAccounts n c') :
    Part.Kept s (s.setLane l y) .records := by
  refine fun hs => recordsConserved_setLane hs (fun h => ?_) fun i _ _ => by cases i <;> simp [Lane.buf, ha, hb]
  have hdrained : y.drained = true ↔ (s.lane l).drained = true := by rw [Lane.drained_iff, Lane.drained_iff, ha, hb]
  refine ⟨ha ▸ h.bufA, hb ▸ h.bufB, fun hnone => ?_, fun c' hc' => ?_⟩
  · have hnone : (s.lane l).context = none := by
      rw [hnone, Option.isSome_none] at hcontext
      simpa using hcontext
    obtain ⟨hidle, hd⟩ := h.noFile hnone
    refine ⟨?_, hdrained.mpr hd⟩
    rcases hstate with heq | ⟨-, hnot⟩
    · exact heq.trans hidle
    · exact absurd hidle hnot
  · obtain ⟨c, hc⟩ : ∃ c, (s.lane l).context = some c := by
      rw [hc', Option.isSome_some] at hcontext
      exact Option.isSome_iff_exists.mp hcontext
    obtain ⟨hne, haccounts⟩ := h.file c hc
    refine ⟨?_, ?_⟩
    · rcases hstate with heq | ⟨hy, -⟩
      · exact heq ▸ hne
      · exact hy
    · rw [ha, hb]
      exact hfile _ c c' hc hc' haccounts

/-- Fields outside the account of records change. -/
theorem recordsKept_of_same (hlanes : t.lanes = s.lanes) (hparser : t.parser = s.parser) (hrecent : t.recent = s.recent) :
    Part.Kept s t .records := Part.kept_of_same ⟨hlanes, hparser, hrecent⟩

/-! ### Stray frames, blocks and the end of a delivery -/

theorem keeps_countStray (l : Fin 16) (s : State) : Keeps [] s (countStray l s) :=
  .restore (keepsBut_setLane rfl rfl rfl) (recordsConserved_setLane_same rfl rfl (.inl rfl) rfl (by simp_all))

theorem keeps_strayBlock (l : Fin 16) (blockNumber n : Nat) (s : State) : Keeps [] s (strayBlock l blockNumber n s) := by
  unfold strayBlock
  dsimp only
  split
  · exact keeps_countStray l s
  · refine ((keeps_countStray l s).trans ?_).trans (keeps_raise ..)
    exact .restore (keepsBut_setLane rfl rfl rfl) (recordsConserved_setLane_same rfl rfl (.inl rfl) rfl (by simp_all))

/-- R23: a block's records are announced and pending, and stand in the buffer that it fills. -/
theorem keeps_fillBuffer {l : Fin 16} {i : BufId} {c : FileContext} {records : List CallRecord} (blockNumber : Nat)
    (hfree : (s.lane l).free i = true) (hrecords : records ≠ []) (hcontext : (s.lane l).context = some c) :
    Keeps [] s (fillBuffer l i (c.countBlock blockNumber) records s) := by
  refine .restore (keepsBut_fillBuffer _ records hfree) fun hs => ?_
  have howner : ((s.lane l).buf i).owner = .link := by simpa [Lane.free] using hfree
  have hnotInHand : ∀ i' position, inHand s.parser.phase = some (l, i', position) → i' ≠ i := by
    rintro i' position hh rfl
    obtain ⟨-, hparser, -⟩ := hs
    have := (hparser _ hh).1
    simp_all
  have hfilled : RecordsConserved (s.setLane l { (s.lane l).setBuf i { owner := .parser, records } with
      lastFilled := i
      context := some { c.countBlock blockNumber with
        announced := (c.countBlock blockNumber).announced + records.length
        pending := (c.countBlock blockNumber).pending + records.length } }) := by
    refine recordsConserved_setLane hs (fun h => ?_) fun i' position hh => ?_
    · have hempty : ((s.lane l).buf i).records = [] := by
        cases i
        · exact records_of_link h.bufA howner
        · exact records_of_link h.bufB howner
      have hstart : started s.parser.phase l i = 0 := by
        unfold started
        split
        · rfl
        · rename_i l' i' position hh
          refine if_neg fun ⟨hl, hi⟩ => hnotInHand i position ?_ rfl
          rw [← hl, ← hi]; exact hh
      obtain ⟨hne, hann, hpend⟩ := h.file c hcontext
      have hfull : BufferSound { owner := .parser, records } := ⟨by simp, fun _ => hrecords⟩
      have haccounts : accounted { c.countBlock blockNumber with
          announced := c.announced + records.length, pending := c.pending + records.length }
          = accounted c + records.length := by
        simp only [accounted, FileContext.countBlock]; omega
      cases i
      · refine ⟨hfull, h.bufB, by simp, fun c' hc' => ⟨hne, ?_⟩⟩
        obtain rfl := Option.some.inj hc'
        have hempty : (s.lane l).bufA.records = [] := hempty
        rw [hstart] at hpend ⊢
        rw [hempty] at hpend
        exact ⟨(congrArg (· + records.length) hann).trans haccounts.symm,
          show c.pending + records.length = (records.length - 0) + _ by simp at hpend; simp [hpend, Lane.setBuf]; omega⟩
      · refine ⟨h.bufA, hfull, by simp, fun c' hc' => ⟨hne, ?_⟩⟩
        obtain rfl := Option.some.inj hc'
        have hempty : (s.lane l).bufB.records = [] := hempty
        rw [hstart] at hpend ⊢
        rw [hempty] at hpend
        exact ⟨(congrArg (· + records.length) hann).trans haccounts.symm,
          show c.pending + records.length = _ + (records.length - 0) by simp at hpend; simp [hpend, Lane.setBuf]⟩
    · have hne := hnotInHand i' position hh
      cases i <;> cases i' <;> simp_all [Lane.setBuf, Lane.buf]
  unfold fillBuffer
  dsimp only
  split
  · exact hfilled
  · refine Part.Kept.trans (p := .records) (fun _ => hfilled) ?_ hs
    intro hy
    refine (recordsKept_of_same (s := (s.setLane l _).setLane l
      { (s.setLane l { (s.lane l).setBuf i { owner := .parser, records } with
          lastFilled := i
          context := some { c.countBlock blockNumber with
            announced := (c.countBlock blockNumber).announced + records.length
            pending := (c.countBlock blockNumber).pending + records.length } }).lane l with paused := true })
      ?_ ?_ ?_) (recordsConserved_setLane_same rfl rfl (.inl rfl) rfl (by simp_all) hy)
    all_goals unfold pauseLane; dsimp only; split <;> simp

/-- R24: the records of an overrun are announced and lost at once. -/
theorem keeps_overrunBlock {l : Fin 16} {c : FileContext} (blockNumber n : Nat) (hcontext : (s.lane l).context = some c) :
    Keeps [] s (overrunBlock l (c.countBlock blockNumber) blockNumber n s) := by
  have hset : Keeps [] s (s.setLane l { s.lane l with context := some { c.countBlock blockNumber with
      announced := (c.countBlock blockNumber).announced + n, lost := (c.countBlock blockNumber).lost + n
      overrun := true } }) := by
    refine .restore (keepsBut_setLane rfl rfl rfl)
      (recordsConserved_setLane_same rfl rfl (.inl rfl) (by simp [hcontext]) fun m c₁ c₂ h₁ h₂ => ?_)
    obtain rfl := Option.some.inj (hcontext.symm.trans h₁)
    obtain rfl := Option.some.inj h₂
    rintro ⟨hann, hpend⟩
    refine ⟨?_, hpend⟩
    simp only [accounted, FileContext.countBlock] at hann ⊢
    omega
  unfold overrunBlock
  dsimp only
  split
  · exact hset.trans (keeps_addToCurrentDay ..)
  · exact (hset.trans (keeps_addToCurrentDay ..)).trans (keeps_raise ..)

theorem Lane.target_free {x : Lane} {i : BufId} (h : x.target = some i) : x.free i = true := by
  unfold Lane.target at h
  split at h
  · exact Option.some.inj h ▸ ‹_›
  · split at h
    · exact Option.some.inj h ▸ ‹_›
    · cases h

theorem keeps_blockArrives (l : Fin 16) (blockNumber : Nat) {records : List CallRecord} (hrecords : records ≠ [])
    (s : State) : Keeps [] s (blockArrives l blockNumber records s) := by
  unfold blockArrives
  split
  case h_2 => exact keeps_strayBlock ..
  case h_1 c _ hcontext =>
    split
    · exact keeps_strayBlock ..
    · unfold takeBlock
      dsimp only
      split
      case h_1 i htarget => exact keeps_fillBuffer blockNumber (Lane.target_free htarget) hrecords hcontext
      case h_2 => exact keeps_overrunBlock blockNumber _ hcontext

theorem keeps_endDelivery {l : Fin 16} (trailer : Option Trailer) (hopen : (s.lane l).state = .opened) :
    Keeps [] s (endDelivery l trailer s) := by
  refine .restore (keepsBut_setLane rfl rfl rfl)
    (recordsConserved_setLane_same rfl rfl (.inr ⟨by simp, by simp [hopen]⟩) (by simp [Lane.mapContext]) ?_)
  intro n c c' hc hc' h
  simp only [Lane.mapContext, hc, Option.map_some, Option.some.injEq] at hc'
  exact hc' ▸ h

end

end Sys2Proof.Machine

namespace Sys2Proof.Machine

open Sys2Proof.Safety

/-! ### What a bank's retirement and the bookkeeping of a file leave -/

/-- The state with the fields that a selection or a retirement can change blanked out: the banks and the selection, the
segments sealed, the catalog and the Report Queue (R54, R55, R58). -/
def outsideRetire (s : State) : State :=
  { s with banks := Vector.replicate 4 {}, selection := none, buffers := Vector.replicate 32 {}, openSegments := []
           catalog := [], stateCounts := Vector.replicate 8 0, writeQueue := [], reports := {} }

/-- The state with the fields that counting and reporting a file can change blanked out: the Day Table, the holds with the
sweeper's suspension, and the Report Queue (R152 to R159, R147 to R149). -/
def outsideBooks (s : State) : State :=
  { s with days := [], unplaced := {}, holds := Vector.replicate 64 none, pendingHolds := [], sweeper := {}, reports := {} }

section
variable (s : State)

theorem outsideRetire_raise (k : ReportKind) (u : Option Nat) (a b c : Nat) :
    outsideRetire (raise k u a b c s) = outsideRetire s := by
  unfold raise raiseOn; split <;> rfl

theorem outsideRetire_sealWhere (which : OpenSegment → Bool) : outsideRetire (sealWhere which s) = outsideRetire s := by
  unfold sealWhere
  generalize s.openSegments.filter which = gs
  induction gs generalizing s with
  | nil => rfl
  | cons g gs ih => exact ih (sealSegment g s)

theorem outsideRetire_retireBank (b : Fin 4) : outsideRetire (retireBank b s) = outsideRetire s :=
  (outsideRetire_raise _ _ _ _ _ _).trans (outsideRetire_sealWhere s _)

theorem outsideRetire_supersede (b : Fin 4) : outsideRetire (supersede b s) = outsideRetire s := by
  unfold supersede
  split
  · rfl
  · exact outsideRetire_retireBank s b

theorem outsideRetire_selectBank (b : Fin 4) (how : SelectedBy) : outsideRetire (selectBank b how s) = outsideRetire s := by
  unfold selectBank
  dsimp only
  split
  · exact outsideRetire_raise _ _ _ _ _ _
  · exact (outsideRetire_supersede _ _).trans (outsideRetire_raise _ _ _ _ _ _)

theorem outsideRetire_takeSelection (mode : SelectMode) (how : SelectedBy) :
    outsideRetire (takeSelection mode how s) = outsideRetire s := by
  unfold takeSelection
  split
  · rfl
  · split
    · exact outsideRetire_selectBank s _ how
    · rfl

theorem outsideRetire_unbindFile (b : Fin 4) : outsideRetire (unbindFile b s) = outsideRetire s := by
  unfold unbindFile
  dsimp only
  split
  · exact outsideRetire_retireBank _ b
  · rfl

theorem outsideBooks_raiseOn (d : Option Nat) (k : ReportKind) (u : Option Nat) (a b c : Nat) :
    outsideBooks (raiseOn d k u a b c s) = outsideBooks s := by
  unfold raiseOn; split <;> rfl

theorem outsideBooks_addToDay (day switch : Nat) (a : Accumulator) (n : Nat) :
    outsideBooks (addToDay day switch a n s) = outsideBooks s := by rw [addToDay_frame]; rfl

theorem outsideBooks_addToCurrentDay (switch : Nat) (a : Accumulator) (n : Nat) :
    outsideBooks (addToCurrentDay switch a n s) = outsideBooks s := by
  unfold addToCurrentDay
  split
  · rfl
  · exact outsideBooks_addToDay ..

theorem outsideBooks_amendDay (day switch : Nat) (outcome : FileOutcome) :
    outsideBooks (amendDay day outcome switch s) = outsideBooks s := by
  unfold amendDay
  split
  · exact outsideBooks_raiseOn _ _ _ _ _ _ _
  · split
    · rfl
    · exact outsideBooks_raiseOn _ _ _ _ _ _ _

theorem outsideBooks_requestAudit (r : HoldSelector) : outsideBooks (requestAudit r s) = outsideBooks s := by
  unfold requestAudit
  split
  · exact outsideBooks_raiseOn _ _ _ _ _ _ _
  · unfold waitAudit
    dsimp only
    split
    · exact (outsideBooks_raiseOn _ _ _ _ _ _ _).trans (outsideBooks_raiseOn _ _ _ _ _ _ _)
    · exact outsideBooks_raiseOn _ _ _ _ _ _ _

theorem outsideBooks_auditFile (c : FileContext) (outcome : FileOutcome) :
    outsideBooks (auditFile c outcome s) = outsideBooks s := by
  unfold auditFile
  split
  · split
    · exact outsideBooks_requestAudit ..
    · rfl
  · rfl

theorem outsideBooks_countClose (day switch : Nat) (outcome : FileOutcome) :
    outsideBooks (countClose day switch outcome s) = outsideBooks s := by
  unfold countClose
  dsimp only
  split
  · exact (outsideBooks_addToDay ..).trans (outsideBooks_addToDay ..)
  · exact outsideBooks_addToDay ..

theorem outsideBooks_reconcile (l : Fin 16) (c : FileContext) (tr : Trailer) (outcome : FileOutcome) :
    outsideBooks (reconcile l c tr outcome s) = outsideBooks s :=
  (outsideBooks_auditFile ..).trans <| (outsideBooks_amendDay ..).trans <|
    (outsideBooks_raiseOn ..).trans (outsideBooks_countClose ..)

end

section
variable {s t : State}

theorem keeps_countClose (day switch : Nat) (outcome : FileOutcome) (s : State) :
    Keeps [] s (countClose day switch outcome s) := by
  unfold countClose
  dsimp only
  split
  · exact (keeps_addToDay ..).trans (keeps_addToDay ..)
  · exact keeps_addToDay ..

theorem keeps_amendDay (day : Nat) (outcome : FileOutcome) (switch : Nat) (s : State) :
    Keeps [] s (amendDay day outcome switch s) := by
  unfold amendDay
  split
  · exact keeps_raise ..
  · split
    · exact .refl _ _
    · exact (keeps_setDayRecord ..).trans (keeps_raise ..)

theorem keeps_auditFile (c : FileContext) (outcome : FileOutcome) (s : State) : Keeps [] s (auditFile c outcome s) := by
  unfold auditFile
  split
  · split
    · exact keeps_requestAudit ..
    · exact .refl _ _
  · exact .refl _ _

theorem keeps_reconcile (l : Fin 16) (c : FileContext) (tr : Trailer) (outcome : FileOutcome) (s : State) :
    Keeps [] s (reconcile l c tr outcome s) :=
  ((keeps_countClose ..).trans ((keeps_raiseOn ..).trans (keeps_amendDay ..))).trans (keeps_auditFile ..)

/-! ### A file leaves its lane (R34) -/

theorem keepsBut_enterRecent (e : RecentEntry) (s : State) : Keeps [.records] s (enterRecent e s) := by
  refine .restore (q := .lists) (.of_same fun p hp => by cases p <;> simp_all [Part.Same, enterRecent])
    fun ⟨⟨hcontrol, hrecent, hholds, hopen⟩, hs⟩ => ⟨⟨hcontrol, ?_, hholds, hopen⟩, hs⟩
  have hrecent : s.recent.length ≤ 64 := hrecent
  change (_ ++ [e]).length ≤ 64
  rw [List.length_append, List.length_singleton]
  split
  case isTrue => rw [List.length_drop]; omega
  case isFalse hroom =>
    have hroom : ¬64 ≤ s.recent.length := hroom
    omega

theorem mem_enterRecent {e x : RecentEntry} (h : x ∈ (enterRecent e s).recent) : x ∈ s.recent ∨ x = e := by
  unfold enterRecent at h
  dsimp only at h
  rcases List.mem_append.mp h with h | h
  · split at h
    · exact .inl (List.mem_of_mem_drop h)
    · exact .inl h
  · exact .inr (List.mem_singleton.mp h)

/-- A file whose records have all reached an end leaves its drained lane for Recent Files. -/
theorem recordsConserved_leave {l : Fin 16} {e : RecentEntry} (he : ContextAccounts 0 e.context)
    (hdrained : (s.lane l).drained = true) (hs : RecordsConserved s) : RecordsConserved ((enterRecent e s).idleLane l) := by
  rw [recordsConserved_iff] at hs
  obtain ⟨hlanes, hparser, hrecent⟩ := hs
  have hentered : RecordsConserved (enterRecent e s) := recordsConserved_iff.mpr ⟨hlanes, hparser, fun x hx => by
    rcases mem_enterRecent hx with hx | rfl
    · exact hrecent x hx
    · exact he⟩
  refine recordsConserved_setLane hentered (fun h => ⟨h.bufA, h.bufB, fun _ => ⟨rfl, hdrained⟩, by simp⟩)
    fun i _ _ => by cases i <;> rfl

theorem keepsBut_abortFile (l : Fin 16) (c : FileContext) (s : State) : Keeps [.records] s (abortFile l c s) := by
  have hleft : Keeps [.records] s
      ((raiseAborted l c (enterRecent { context := c, outcome := .aborted } s)).idleLane l) :=
    ((keepsBut_enterRecent ..).trans (keeps_raise ..).weaken).trans (keepsBut_setLane rfl rfl rfl)
  exact hleft.trans (keeps_unbindFile ..).weaken

theorem keeps_abortFile {l : Fin 16} {c : FileContext} (hc : RecordsConserved s → ContextAccounts 0 c)
    (hdrained : (s.lane l).drained = true) : Keeps [] s (abortFile l c s) := by
  refine Keeps.trans (.restore (q := .records) ?_ fun hs => ?_) (keeps_unbindFile ..)
  · exact ((keepsBut_enterRecent ..).trans (keeps_raise ..).weaken).trans (keepsBut_setLane rfl rfl rfl)
  · have hleft := recordsConserved_leave (l := l) (e := { context := c, outcome := .aborted }) (hc hs) hdrained hs
    refine recordsKept_of_same ?_ ?_ ?_ hleft <;> simp [State.idleLane, State.setLane, State.lane, raiseAborted]

theorem lane_reconcile (l m : Fin 16) (c : FileContext) (tr : Trailer) (outcome : FileOutcome) (s : State) :
    (reconcile l c tr outcome s).lane m = s.lane m := by
  have h := congrArg State.lanes (outsideBooks_reconcile s l c tr outcome)
  have h : (reconcile l c tr outcome s).lanes = s.lanes := h
  simp [State.lane, h]

theorem keeps_closeFile {l : Fin 16} {c : FileContext} (tr : Trailer) (hc : RecordsConserved s → ContextAccounts 0 c)
    (hdrained : (s.lane l).drained = true) : Keeps [] s (closeFile l c tr s) := by
  unfold closeFile
  dsimp only
  generalize (if reconciles c tr = true then FileOutcome.reconciled else .unreconciled) = outcome
  refine Keeps.trans (.restore (q := .records) ?_ fun hs => ?_) (keeps_unbindFile ..)
  · exact ((keeps_reconcile l c tr outcome s).weaken.trans (keepsBut_enterRecent ..)).trans (keepsBut_setLane rfl rfl rfl)
  · refine recordsConserved_leave (hc hs) ?_ ((keeps_reconcile l c tr outcome s).part .records hs)
    rw [lane_reconcile]
    exact hdrained

/-! ### Drain completion (R34) -/

theorem keeps_drainLane (l : Fin 16) (s : State) : Keeps [] s (drainLane l s) := by
  unfold drainLane
  dsimp only
  split
  case isFalse => exact .refl _ _
  case isTrue hdrain =>
    obtain ⟨-, hdrained⟩ := hdrain
    split
    · exact .refl _ _
    case h_2 c hcontext =>
      have hc (hs : RecordsConserved s) : ContextAccounts 0 c :=
        ((recordsConserved_iff.mp hs).1 l).pending_of_drained hdrained hcontext
      split
      · exact keeps_abortFile hc hdrained
      · exact keeps_closeFile _ hc hdrained

theorem keeps_fileEnds (l : Fin 16) (trailer : Option Trailer) (s : State) : Keeps [] s (fileEnds l trailer s) := by
  unfold fileEnds
  split
  case isTrue hopen => exact (keeps_endDelivery trailer hopen).trans (keeps_drainLane ..)
  case isFalse => exact keeps_countStray ..

theorem keeps_endOpenLane (s : State) (l : Fin 16) : Keeps [] s (endOpenLane s l) := by
  unfold endOpenLane
  split
  case isTrue hopen => exact keeps_endDelivery none hopen
  case isFalse => exact .refl _ _

theorem keeps_feedLossAtLanes (s : State) : Keeps [] s (feedLossAtLanes s) :=
  (Keeps.foldl keeps_endOpenLane _ s).trans (.foldl (fun x l => keeps_drainLane l x) _ _)

end

end Sys2Proof.Machine

namespace Sys2Proof.Machine

open Sys2Proof.Safety

/-! ### Opening a file (R18 to R21) -/

section
variable {s t : State}

theorem newestAborted_mem {recent : List RecentEntry} {switch fileNumber : Nat} {e : RecentEntry}
    (h : newestAborted recent switch fileNumber = some e) : e ∈ recent :=
  List.mem_reverse.mp (List.mem_of_find?_eq_some h)

theorem withoutAborted_sublist (recent : List RecentEntry) (switch fileNumber : Nat) :
    (withoutAborted recent switch fileNumber).Sublist recent := by
  rw [← List.reverse_sublist]
  simpa [withoutAborted] using List.eraseP_sublist

theorem contextAccounts_contextFor (h : RecentOk s.recent) (continueFlag : Bool) (switch fileNumber : Nat) (bank : Fin 4)
    (generation : Nat) : ContextAccounts 0 (contextFor s continueFlag switch fileNumber bank generation) := by
  unfold contextFor
  dsimp only
  split
  case isFalse => exact ⟨rfl, rfl⟩
  case isTrue =>
    split
    · exact ⟨rfl, rfl⟩
    case h_2 e he =>
      obtain ⟨hannounced, hpending⟩ := h e (newestAborted_mem he)
      exact ⟨by simpa [accounted, hpending] using hannounced, rfl⟩

theorem keepsBut_recent {recent : List RecentEntry} (h : recent.Sublist s.recent) :
    Keeps [.records] s { s with recent } := by
  refine .restore (q := .lists) (.of_same fun p hp => by cases p <;> simp_all [Part.Same])
    fun ⟨⟨hcontrol, hrecent, hholds, hopen⟩, hs⟩ => ⟨⟨hcontrol, h.length_le.trans hrecent, hholds, hopen⟩, hs⟩

theorem keeps_recent {recent : List RecentEntry} (h : recent.Sublist s.recent) : Keeps [] s { s with recent } := by
  refine .restore (q := .records) (keepsBut_recent h) fun hs => ?_
  obtain ⟨hlanes, hparser, hrecent⟩ := recordsConserved_iff.mp hs
  exact recordsConserved_iff.mpr ⟨hlanes, hparser, fun e he => hrecent e (h.subset he)⟩

/-- R19: an IDLE lane takes a file with nothing pending. -/
theorem keeps_openLane {l : Fin 16} {c : FileContext} (hidle : (s.lane l).state = .idle)
    (hc : RecordsConserved s → ContextAccounts 0 c) :
    Keeps [] s (s.setLane l { s.lane l with state := .opened, context := some c, strayReport := false }) := by
  refine .restore (q := .records) (keepsBut_setLane rfl rfl rfl) fun hs => ?_
  refine recordsConserved_setLane hs (fun hok => ⟨hok.bufA, hok.bufB, by simp, ?_⟩) fun i _ _ => by cases i <;> rfl
  obtain ⟨ha, hb⟩ := Lane.drained_iff.mp (hok.of_idle hidle).2
  rintro c' ⟨⟩
  simpa [records_of_link hok.bufA ha, records_of_link hok.bufB hb] using hc hs

theorem keeps_bindFile {l : Fin 16} (continueFlag : Bool) (switch fileNumber : Nat) (active : Fin 4)
    (hidle : (s.lane l).state = .idle) : Keeps [] s (bindFile l continueFlag switch fileNumber active s) := by
  unfold bindFile
  dsimp only
  have hopened := (keeps_setBank (s := s) (b := active)
      (x := { s.bank active with boundFiles := (s.bank active).boundFiles + 1 }) rfl).trans
    (keeps_openLane (l := l) (c := contextFor s continueFlag switch fileNumber active ((s.bank active).generation.getD 0))
      hidle fun hs => contextAccounts_contextFor (recordsConserved_iff.mp hs).2.2 ..)
  split
  · exact hopened.trans (keeps_recent (withoutAborted_sublist ..))
  · exact hopened

theorem takeSelection_lanes (mode : SelectMode) (how : SelectedBy) (s : State) :
    (takeSelection mode how s).lanes = s.lanes := by
  have h := congrArg State.lanes (outsideRetire_takeSelection s mode how)
  exact h

theorem keeps_acceptFile {l : Fin 16} (continueFlag : Bool) (switch fileNumber : Nat)
    (hidle : (s.lane l).state = .idle) : Keeps [] s (acceptFile l continueFlag switch fileNumber s) := by
  unfold acceptFile
  dsimp only
  split
  · exact keeps_takeSelection ..
  · exact (keeps_takeSelection ..).trans (keeps_bindFile _ _ _ _ (by simpa [State.lane, takeSelection_lanes] using hidle))

theorem idle_of_not_refused {l : Fin 16} {continueFlag : Bool} {switch fileNumber : Nat}
    (h : refusalOf l continueFlag switch fileNumber s = none) : (s.lane l).state = .idle := by
  unfold refusalOf at h
  split at h
  · cases h
  · split at h
    · cases h
    · split at h
      · cases h
      · exact not_not.mp ‹_›

theorem keeps_openFile (l : Fin 16) (continueFlag : Bool) (switch fileNumber : Nat) (s : State) :
    Keeps [] s (openFile l continueFlag switch fileNumber s) := by
  unfold openFile
  split
  · exact keeps_raise ..
  · exact keeps_acceptFile _ _ _ (idle_of_not_refused ‹_›)

/-! ### The parser takes and returns buffers (R28) -/

theorem Lane.owner_of_not_free {x : Lane} {i : BufId} (h : x.free i = false) : (x.buf i).owner = .parser := by
  cases hx : (x.buf i).owner <;> simp_all [Lane.free]

theorem Lane.toParse_owner {x : Lane} {i : BufId} (h : x.toParse = some i) : (x.buf i).owner = .parser := by
  apply Lane.owner_of_not_free
  unfold Lane.toParse at h
  split at h
  case isTrue hother =>
    obtain rfl := Option.some.inj h
    simpa using hother
  case isFalse =>
    split at h
    case isTrue hlast =>
      obtain rfl := Option.some.inj h
      simpa using hlast
    case isFalse => cases h

theorem keepsBut_setParser (ph : Parser) (s : State) : Keeps [.records] s { s with parser := ph } :=
  .of_same fun p hp => by cases p <;> simp_all [Part.Same]

theorem LaneOk.buf {na nb : Nat} {x : Lane} (h : LaneOk na nb x) (i : BufId) : BufferSound (x.buf i) := by
  cases i
  · exact h.bufA
  · exact h.bufB

theorem keeps_startBuffer (s : State) : Keeps [] s (startBuffer s) := by
  unfold startBuffer
  split
  case h_2 | h_3 => exact .refl _ _
  case h_1 hidle =>
    split
    · exact .refl _ _
    split
    · exact .refl _ _
    case h_2 l _ _ i hi =>
      refine .restore (q := .records) (keepsBut_setParser ..) fun hs => ?_
      obtain ⟨hlanes, -, hrecent⟩ := recordsConserved_iff.mp hs
      have hstarted (m : Fin 16) (j : BufId) : started (.parsing l i 0) m j = started s.parser.phase m j := by
        rw [hidle]; simp [started, inHand]
      refine recordsConserved_iff.mpr ⟨fun m => ?_, ?_, hrecent⟩
      · simp only [hstarted]; exact hlanes m
      · rintro ⟨_, _, _⟩ ⟨⟩
        have howner := Lane.toParse_owner hi
        exact ⟨howner, List.length_pos_of_ne_nil (((hlanes l).buf i).2 howner), by simp [recordHeld]⟩

/-- R32: the record in hand is held. -/
theorem keeps_holdRecord {l : Fin 16} {i : BufId} {position : Nat} {r : CallRecord} (v : Verdict)
    (hhand : inHand s.parser.phase = some (l, i, position))
    (hr : RecordsConserved s → ((s.lane l).buf i).records[position]? = some r) :
    Keeps [] s (holdRecord l i position r v s) := by
  refine .restore (q := .records) (keepsBut_setParser ..) fun hs => ?_
  obtain ⟨hlanes, hparser, hrecent⟩ := recordsConserved_iff.mp hs
  have hstarted (m : Fin 16) (j : BufId) : started (.stalled l i position r v) m j = started s.parser.phase m j := by
    simp only [started, hhand]; rfl
  refine recordsConserved_iff.mpr ⟨fun m => ?_, ?_, hrecent⟩
  · change LaneOk (started (.stalled l i position r v) m .a) (started (.stalled l i position r v) m .b) (s.lane m)
    rw [hstarted, hstarted]; exact hlanes m
  · rintro ⟨_, _, _⟩ ⟨⟩
    obtain ⟨howner, hlt, -⟩ := hparser (l, i, position) hhand
    refine ⟨howner, hlt, ?_⟩
    rintro r' ⟨⟩
    exact hr hs

theorem lane_returnBuffer (l m : Fin 16) (i : BufId) (s : State) :
    (returnBuffer l i s).lane m
      = if l = m then { (s.lane l).setBuf i {} with paused := false } else s.lane m := by
  have hpaused : ((s.lane l).setBuf i {}).paused = (s.lane l).paused := by cases i <;> rfl
  unfold returnBuffer
  dsimp only
  split
  case isTrue => rw [lane_resumeLane]; by_cases h : l = m <;> simp [State.lane_setLane, h]
  case isFalse hp =>
    have hp : (s.lane l).paused = false := by simpa using hp
    rw [State.lane_setLane]
    split
    · rw [← hp, ← hpaused]
    · rfl

theorem returnBuffer_recent (l : Fin 16) (i : BufId) (s : State) : (returnBuffer l i s).recent = s.recent := by
  unfold returnBuffer
  dsimp only
  split
  · rw [resumeLane_frame]; rfl
  · rfl

theorem keepsBut_finishBuffer (l : Fin 16) (i : BufId) (s : State) : Keeps [.records] s (finishBuffer l i s) :=
  ((keepsBut_returnBuffer l i s).trans (keepsBut_setParser ..)).trans
    ((keeps_drainLane ..).weaken.trans (keeps_startBuffer _).weaken)

theorem keepsBut_nextRecord (l : Fin 16) (i : BufId) (position : Nat) (s : State) :
    Keeps [.records] s (nextRecord l i position s) := by
  unfold nextRecord
  split
  · exact keepsBut_setParser ..
  · exact keepsBut_finishBuffer ..

/-! ### One record counted (R29 to R31) -/

/-- The file of lane `l` has counted the record in hand: `t` is `s` with the file context `c` there, whose pending is one
less. -/
structure CountedIn (l : Fin 16) (s t : State) : Prop where
  lanes : ∃ c c', (s.lane l).context = some c ∧ t.lanes = (s.setLane l { s.lane l with context := some c' }).lanes
    ∧ (ContextAccounts c.pending c → 1 ≤ c.pending → ContextAccounts (c.pending - 1) c')
  parser : t.parser = s.parser
  recent : t.recent = s.recent

theorem LaneOk.count {na nb : Nat} {x : Lane} {c c' : FileContext} (h : LaneOk na nb x) (hc : x.context = some c)
    {na' nb' : Nat} {y : Lane} (hstate : y.state = x.state) (hcontext : y.context = some c') (ha : BufferSound y.bufA)
    (hb : BufferSound y.bufB) (hcount : ContextAccounts c.pending c → 1 ≤ c.pending → ContextAccounts (c.pending - 1) c')
    (hn : (y.bufA.records.length - na') + (y.bufB.records.length - nb') + 1
      = (x.bufA.records.length - na) + (x.bufB.records.length - nb)) : LaneOk na' nb' y := by
  obtain ⟨hbusy, hannounced, hpending⟩ := h.file c hc
  refine ⟨ha, hb, by simp [hcontext], fun d hd => ⟨hstate ▸ hbusy, ?_⟩⟩
  obtain rfl : c' = d := Option.some.inj (hcontext.symm.trans hd)
  obtain ⟨hannounced', hpending'⟩ := hcount ⟨hannounced, rfl⟩ (by omega)
  exact ⟨hannounced', by omega⟩

/-- R29: after the count the parser passes on in the buffer, and every record is accounted for again. -/
theorem recordsConserved_advance {l : Fin 16} {i : BufId} {position : Nat} (hs : RecordsConserved s)
    (hhand : inHand s.parser.phase = some (l, i, position)) (h : CountedIn l s t)
    (hmore : position + 1 < ((s.lane l).buf i).records.length) :
    RecordsConserved { t with parser := { t.parser with phase := .parsing l i (position + 1) } } := by
  obtain ⟨⟨c, c', hc, hlanes, hcount⟩, -, hrecent⟩ := h
  obtain ⟨hok, hparser, hro⟩ := recordsConserved_iff.mp hs
  obtain ⟨howner, hlt, -⟩ := hparser (l, i, position) hhand
  have hlane (m : Fin 16) : t.lane m = if l = m then { s.lane l with context := some c' } else s.lane m := by
    rw [← State.lane_setLane]; simp only [State.lane, hlanes]
  have hphase : inHand (.parsing l i (position + 1)) = some (l, i, position + 1) := rfl
  refine recordsConserved_iff.mpr ⟨fun m => ?_, ?_, hrecent ▸ hro⟩
  · change LaneOk _ _ (t.lane m)
    rw [hlane m]
    split
    case isFalse hne =>
      have hm := hok m
      rw [started_other hhand (.inl hne), started_other hhand (.inl hne)] at hm
      rwa [started_other hphase (.inl hne), started_other hphase (.inl hne)]
    case isTrue heq =>
      subst heq
      refine (hok l).count hc rfl rfl (hok l).bufA (hok l).bufB hcount ?_
      cases i
      · rw [started_self hphase, started_self hhand, started_other hphase (.inr (by simp)),
          started_other hhand (.inr (by simp))]
        have : position + 1 < (s.lane l).bufA.records.length := hmore
        dsimp only; omega
      · rw [started_self hphase, started_self hhand, started_other hphase (.inr (by simp)),
          started_other hhand (.inr (by simp))]
        have : position + 1 < (s.lane l).bufB.records.length := hmore
        dsimp only; omega
  · rintro ⟨_, _, _⟩ ⟨⟩
    have hbuf : (t.lane l).buf i = (s.lane l).buf i := by rw [hlane]; cases i <;> simp [Lane.buf]
    exact ⟨hbuf ▸ howner, hbuf ▸ hmore, by simp [recordHeld]⟩

/-- R28: after the count of its last record the buffer passes back, and every record is accounted for again. -/
theorem recordsConserved_return {l : Fin 16} {i : BufId} {position : Nat} (hs : RecordsConserved s)
    (hhand : inHand s.parser.phase = some (l, i, position)) (h : CountedIn l s t)
    (hlast : ¬position + 1 < ((s.lane l).buf i).records.length) :
    RecordsConserved { returnBuffer l i t with parser := { (returnBuffer l i t).parser with phase := .idle } } := by
  obtain ⟨⟨c, c', hc, hlanes, hcount⟩, -, hrecent⟩ := h
  obtain ⟨hok, hparser, hro⟩ := recordsConserved_iff.mp hs
  obtain ⟨howner, hlt, -⟩ := hparser (l, i, position) hhand
  have hlane (m : Fin 16) : t.lane m = if l = m then { s.lane l with context := some c' } else s.lane m := by
    rw [← State.lane_setLane]; simp only [State.lane, hlanes]
  refine recordsConserved_iff.mpr ⟨fun m => ?_, parserAccounts_of_idle rfl, ?_⟩
  · change LaneOk 0 0 ((returnBuffer l i t).lane m)
    rw [lane_returnBuffer, hlane m, hlane l, if_pos (rfl : l = l)]
    split
    case isFalse hne =>
      have hm := hok m
      rwa [started_other hhand (.inl hne), started_other hhand (.inl hne)] at hm
    case isTrue heq =>
      subst heq
      have hlast : ((s.lane l).buf i).records.length = position + 1 := by dsimp only at hlt; omega
      cases i
      · refine (hok l).count hc rfl rfl bufferSound_empty (hok l).bufB hcount ?_
        rw [started_self hhand, started_other hhand (.inr (by simp))]
        have : (s.lane l).bufA.records.length = position + 1 := hlast
        simp only [Lane.setBuf, List.length_nil]; omega
      · refine (hok l).count hc rfl rfl (hok l).bufA bufferSound_empty hcount ?_
        rw [started_self hhand, started_other hhand (.inr (by simp))]
        have : (s.lane l).bufB.records.length = position + 1 := hlast
        simp only [Lane.setBuf, List.length_nil]; omega
  · change RecentOk (returnBuffer l i t).recent
    rw [returnBuffer_recent, hrecent]
    exact hro

theorem recordsConserved_nextRecord {l : Fin 16} {i : BufId} {position : Nat} (hs : RecordsConserved s)
    (hhand : inHand s.parser.phase = some (l, i, position)) (h : CountedIn l s t) :
    RecordsConserved (nextRecord l i position t) := by
  have hbuf : (t.lane l).buf i = (s.lane l).buf i := by
    obtain ⟨c, c', -, hlanes, -⟩ := h.lanes
    have : t.lane l = { s.lane l with context := some c' } := by
      rw [← State.lane_setLane_self s l { s.lane l with context := some c' }]; simp only [State.lane, hlanes]
    rw [this]; cases i <;> rfl
  unfold nextRecord
  rw [hbuf]
  split
  case isTrue hmore => exact recordsConserved_advance hs hhand h hmore
  case isFalse hlast =>
    exact ((keeps_drainLane ..).trans (keeps_startBuffer _)).part .records (recordsConserved_return hs hhand h hlast)

end

end Sys2Proof.Machine

namespace Sys2Proof.Machine

open Sys2Proof.Safety

/-! ### What an offer to the encoder leaves -/

/-- The state with the fields that the encoder can change blanked out. -/
def outsideEncoder (s : State) : State :=
  { s with openSegments := [], buffers := Vector.replicate 32 {}, stall := .runningFree, catalogFull := false
           writeQueue := [], catalog := [], stateCounts := Vector.replicate 8 0, freeIds := []
           banks := Vector.replicate 4 {}, reports := {} }

section
variable {s t : State}

theorem outsideEncoder_stallEncoder (k : SegmentKey) (s : State) : outsideEncoder (stallEncoder k s) = outsideEncoder s := by
  unfold stallEncoder noteCatalogFull raise raiseOn
  dsimp only
  split
  · split <;> rfl
  · rfl

theorem outsideEncoder_relievePressure (s : State) : outsideEncoder (relievePressure s) = outsideEncoder s := by
  obtain ⟨-, h⟩ | ⟨head, rest, -, -, h⟩ := relievePressure_cases s
  · rw [h]
  · rw [h]; rfl

theorem outsideEncoder_appendRecord (g : OpenSegment) (fileSwitch : Nat) (r : CallRecord) (v : Verdict) (bytes : List Byte)
    (s : State) : outsideEncoder (appendRecord g fileSwitch r v bytes s) = outsideEncoder s := rfl

theorem outsideEncoder_takeResources (k : SegmentKey) (id : Nat) (i : Fin 32) (rest : List Nat) (s : State) :
    outsideEncoder (takeResources k id i rest s) = outsideEncoder s := by
  unfold outsideEncoder takeResources addReference State.setBank State.setBuffer State.setEntry
  dsimp only

theorem outsideEncoder_offerNew (k : SegmentKey) (fileSwitch : Nat) (r : CallRecord) (v : Verdict) (s : State) :
    outsideEncoder (offerNew k fileSwitch r v s).state = outsideEncoder s := by
  rw [← outsideEncoder_relievePressure s]
  unfold offerNew
  dsimp only
  generalize relievePressure s = relieved
  split
  · exact (outsideEncoder_appendRecord ..).trans (outsideEncoder_takeResources ..)
  · exact outsideEncoder_stallEncoder k relieved

theorem outsideEncoder_offerRecord (c : FileContext) (r : CallRecord) (v : Verdict) (s : State) :
    outsideEncoder (offerRecord c r v s).state = outsideEncoder s := by
  unfold offerRecord
  dsimp only
  split
  · exact outsideEncoder_offerNew ..
  case h_2 g _ =>
    split
    · exact outsideEncoder_appendRecord ..
    · exact (outsideEncoder_offerNew ..).trans (show outsideEncoder (sealSegment g s) = outsideEncoder s from rfl)

theorem outsideEncoder_of_accepted {c : FileContext} {r : CallRecord} {v : Verdict}
    (h : offerRecord c r v s = .accepted t) : outsideEncoder t = outsideEncoder s := by
  rw [← outsideEncoder_offerRecord c r v s, h]; rfl

theorem outsideEncoder_of_refused {c : FileContext} {r : CallRecord} {v : Verdict}
    (h : offerRecord c r v s = .refused t) : outsideEncoder t = outsideEncoder s := by
  rw [← outsideEncoder_offerRecord c r v s, h]; rfl

/-! ### What counting a record does to its file (R17, R29 to R31) -/

theorem contextAccounts_countDuplicate {c : FileContext} (r : CallRecord) (hc : ContextAccounts c.pending c)
    (hpos : 1 ≤ c.pending) : ContextAccounts (c.pending - 1) (c.countDuplicate r) := by
  obtain ⟨hannounced, -⟩ := hc
  refine ⟨?_, rfl⟩
  simp only [accounted, FileContext.countDuplicate, FileContext.addSums, FileContext.stepSequence] at *
  omega

theorem contextAccounts_countRejected {c : FileContext} (r : CallRecord) (hc : ContextAccounts c.pending c)
    (hpos : 1 ≤ c.pending) : ContextAccounts (c.pending - 1) (c.countRejected r) := by
  obtain ⟨hannounced, -⟩ := hc
  refine ⟨?_, rfl⟩
  simp only [accounted, FileContext.countRejected, FileContext.addSums] at *
  omega

theorem contextAccounts_countStored {c : FileContext} (r : CallRecord) (day : Nat) (hc : ContextAccounts c.pending c)
    (hpos : 1 ≤ c.pending) : ContextAccounts (c.pending - 1) (c.countStored r day) := by
  obtain ⟨hannounced, -⟩ := hc
  refine ⟨?_, rfl⟩
  simp only [accounted, FileContext.countStored, FileContext.addSums, FileContext.stepSequence] at *
  omega

/-- A file that counts a record, and whatever follows outside the lanes, the parser and Recent Files. -/
theorem CountedIn.of_mapContext {l : Fin 16} {f : FileContext → FileContext} {c : FileContext}
    (hc : (s.lane l).context = some c)
    (hf : ContextAccounts c.pending c → 1 ≤ c.pending → ContextAccounts (c.pending - 1) (f c))
    (hlanes : t.lanes = (s.mapContext l f).lanes) (hparser : t.parser = s.parser) (hrecent : t.recent = s.recent) :
    CountedIn l s t where
  lanes := ⟨c, f c, hc, by rw [hlanes]; simp [State.mapContext, Lane.mapContext, hc], hf⟩
  parser := hparser
  recent := hrecent

/-- The additions to the Day Table leave the count as it is. -/
theorem CountedIn.of_books {l : Fin 16} {u : State} (h : CountedIn l s t) (hbooks : outsideBooks u = outsideBooks t) :
    CountedIn l s u where
  lanes := by
    have hlanes : u.lanes = t.lanes := congrArg (fun x => x.lanes) hbooks
    rw [hlanes]; exact h.lanes
  parser := (congrArg (fun x => x.parser) hbooks : u.parser = t.parser).trans h.parser
  recent := (congrArg (fun x => x.recent) hbooks : u.recent = t.recent).trans h.recent

theorem outsideBooks_countStored (day switch duration charge : Nat) (s : State) :
    outsideBooks (countStored day switch duration charge s) = outsideBooks s :=
  (outsideBooks_addToDay ..).trans ((outsideBooks_addToDay ..).trans (outsideBooks_addToDay ..))

theorem countedIn_duplicateRecord {l : Fin 16} {c : FileContext} (hc : (s.lane l).context = some c) (switch : Nat)
    (r : CallRecord) (v : Verdict) : CountedIn l s (duplicateRecord l switch r v s) := by
  exact (CountedIn.of_mapContext hc (contextAccounts_countDuplicate r) rfl rfl rfl).of_books (outsideBooks_addToDay ..)

/-- The additions of an accepted record, and the filter's way, change none of the fields that conservation reads. -/
theorem countedIn_acceptRecord {l : Fin 16} {c : FileContext} (hc : (s.lane l).context = some c)
    (hencoder : outsideEncoder t = outsideEncoder s) (switch : Nat) (r : CallRecord) (v : Verdict) :
    CountedIn l s (acceptRecord l switch r v t) := by
  have hlanes : t.lanes = s.lanes := congrArg (fun x => x.lanes) hencoder
  have hparser : t.parser = s.parser := congrArg (fun x => x.parser) hencoder
  have hrecent : t.recent = s.recent := congrArg (fun x => x.recent) hencoder
  have hlane : t.lane l = s.lane l := by simp only [State.lane, hlanes]
  have hmapped (f : FileContext → FileContext) : (t.mapContext l f).lanes = (s.mapContext l f).lanes := by
    simp only [State.mapContext, State.setLane_lanes, hlane, hlanes]
  unfold acceptRecord
  split
  · exact (CountedIn.of_mapContext hc (contextAccounts_countRejected r) (hmapped _) hparser hrecent).of_books
      (outsideBooks_addToDay ..)
  · have hinserted : CountedIn l s (filterInsert r v.day (t.mapContext l (fun c => c.countStored r v.day))) := by
      rw [filterInsert_frame]
      exact .of_mapContext hc (contextAccounts_countStored r _) (hmapped _) hparser hrecent
    refine CountedIn.of_books ?_ (outsideBooks_countStored ..)
    split
    · exact hinserted.of_books (outsideBooks_addToDay ..)
    · exact hinserted

theorem keepsBut_duplicateRecord (l : Fin 16) (switch : Nat) (r : CallRecord) (v : Verdict) (s : State) :
    Keeps [.records] s (duplicateRecord l switch r v s) := (keepsBut_mapContext ..).trans (keeps_addToDay ..).weaken

theorem keeps_countStored (day switch duration charge : Nat) (s : State) :
    Keeps [] s (countStored day switch duration charge s) :=
  ((keeps_addToDay ..).trans (keeps_addToDay ..)).trans (keeps_addToDay ..)

theorem keepsBut_acceptRecord (l : Fin 16) (switch : Nat) (r : CallRecord) (v : Verdict) (s : State) :
    Keeps [.records] s (acceptRecord l switch r v s) := by
  unfold acceptRecord
  split
  · exact (keepsBut_mapContext ..).trans (keeps_addToDay ..).weaken
  · dsimp only
    refine (keepsBut_mapContext l (fun c => c.countStored r v.day) s).trans
      (Keeps.weaken ((keeps_countStored ..).after ?_))
    split
    · exact (keeps_filterInsert ..).trans (keeps_addToDay ..)
    · exact keeps_filterInsert ..

/-! ### One record (R29, R32) -/

theorem keeps_takeRecord {l : Fin 16} {i : BufId} {position : Nat} {r : CallRecord} (v : Verdict)
    (hhand : inHand s.parser.phase = some (l, i, position))
    (hr : RecordsConserved s → ((s.lane l).buf i).records[position]? = some r) :
    Keeps [] s (takeRecord l i position r v s) := by
  unfold takeRecord
  split
  · exact .refl _ _
  case h_2 c hc =>
    split
    · exact .restore (q := .records) ((keepsBut_duplicateRecord ..).trans (keepsBut_nextRecord ..)) fun hs =>
        recordsConserved_nextRecord hs hhand (countedIn_duplicateRecord hc ..)
    · split
      case h_1 t ht =>
        refine .restore (q := .records) ((keeps_of_accepted ht).weaken.trans
          ((keepsBut_acceptRecord ..).trans (keepsBut_nextRecord ..))) fun hs => ?_
        exact recordsConserved_nextRecord hs hhand (countedIn_acceptRecord hc (outsideEncoder_of_accepted ht) ..)
      case h_2 t ht =>
        have hencoder := outsideEncoder_of_refused ht
        have hparser : t.parser = s.parser := congrArg (fun x => x.parser) hencoder
        have hlanes : t.lanes = s.lanes := congrArg (fun x => x.lanes) hencoder
        have hrecent : t.recent = s.recent := congrArg (fun x => x.recent) hencoder
        refine .restore (q := .records) ((keeps_of_refused ht).weaken.trans (keepsBut_setParser ..)) fun hs => ?_
        have ht' : RecordsConserved t := recordsKept_of_same hlanes hparser hrecent hs
        refine (keeps_holdRecord v (hparser ▸ hhand) fun _ => ?_).part .records ht'
        simpa [State.lane, hlanes] using hr hs

theorem keeps_parseNext (s : State) : Keeps [] s (parseNext s) := by
  unfold parseNext
  split
  case h_2 | h_3 => exact .refl _ _
  case h_1 l i position hphase =>
    split
    case h_2 => exact .refl _ _
    case h_1 c r hc hr =>
      dsimp only
      generalize validate s.clock (s.bank c.bank) c.switch r = v
      refine Keeps.trans (t := s.mapContext l (fun x => x.noteDay v.day))
        (.restore (q := .records) (keepsBut_mapContext ..) ?_) ?_
      · refine recordsConserved_setLane_same rfl rfl (.inl rfl) (by simp [Lane.mapContext]) fun n d d' hd hd' h => ?_
        simp only [Lane.mapContext, hd, Option.map_some, Option.some.injEq] at hd'
        subst hd'
        exact h
      · refine keeps_takeRecord _ ?_ fun _ => ?_
        · simp [State.mapContext, State.setLane, hphase, inHand]
        · simp only [State.mapContext, State.lane_setLane_self]
          exact hr

theorem keeps_takeUpHeld (s : State) : Keeps [] s (takeUpHeld s) := by
  unfold takeUpHeld
  split
  case h_2 => exact .refl _ _
  case h_1 l i position r v hstall hphase =>
    refine keeps_takeRecord v (by simp [hphase, inHand]) fun hs => ?_
    obtain ⟨-, hparser, -⟩ := hs
    obtain ⟨-, -, hheld⟩ := hparser (l, i, position) (by simp [hphase, inHand])
    exact hheld r (by simp [hphase, recordHeld])

end

end Sys2Proof.Machine

namespace Sys2Proof.Machine

open Sys2Proof.Safety

/-! ### What a warm reset discards (R37 steps 1 and 2) -/

/-- `n` pending records of a file become lost. -/
def FileContext.lose (n : Nat) (c : FileContext) : FileContext := { c with pending := c.pending - n, lost := c.lost + n }

/-- The addition for one record discarded from a lane: to the row of the switch of the file that the lane has in `s`. -/
def lostFor (s x : State) (l : Fin 16) : State :=
  match (s.lane l).context with
  | none => x
  | some c => addToCurrentDay c.switch .lost 1 x

/-- `s` after one record has been discarded from each lane of a list. -/
def discarded (ls : List (Fin 16)) (s : State) : State :=
  { ls.foldl (lostFor s) s with lanes := Vector.ofFn fun l => (s.lane l).mapContext (FileContext.lose (ls.count l)) }

/-- The records of a buffer that a warm reset discards without their having been started (R37 step 2). -/
def waiting (s : State) (l : Fin 16) (i : BufId) : List (Fin 16) :=
  if ((s.lane l).buf i).owner = .parser ∧ (inHand s.parser.phase).map (fun h => (h.1, h.2.1)) ≠ some (l, i)
  then List.replicate ((s.lane l).buf i).records.length l else []

/-- The records of the buffer in hand that are not yet counted (R37 step 1). -/
def waitingInHand (s : State) : List (Fin 16) :=
  match inHand s.parser.phase with
  | none => []
  | some (l, i, position) => List.replicate (((s.lane l).buf i).records.length - position) l

theorem discards_eq (s : State) :
    discards s = waitingInHand s ++ (List.finRange 16).flatMap fun l => waiting s l .a ++ waiting s l .b := by
  unfold discards waitingInHand
  simp only [List.flatMap_cons, List.flatMap_nil, List.append_nil]
  rfl

section
variable {s t : State}

theorem raise_withLanes (k : ReportKind) (u : Option Nat) (a b c : Nat) (lanes : Vector Lane 16) (s : State) :
    raise k u a b c { s with lanes } = { raise k u a b c s with lanes } := by
  unfold raise raiseOn
  dsimp only
  split <;> rfl

theorem addToCurrentDay_withLanes (switch : Nat) (a : Accumulator) (n : Nat) (lanes : Vector Lane 16) (s : State) :
    addToCurrentDay switch a n { s with lanes } = { addToCurrentDay switch a n s with lanes } := by
  unfold addToCurrentDay addToDay State.dayRecord
  dsimp only
  split
  · rfl
  case h_2 day _ =>
    split
    · rfl
    case h_2 d _ =>
      split
      · exact raise_withLanes _ _ _ _ _ lanes (s.setDayRecord (d.add switch a n))
      · rfl

theorem lostFor_withLanes (s x : State) (lanes : Vector Lane 16) (l : Fin 16) :
    lostFor s { x with lanes } l = { lostFor s x l with lanes } := by
  unfold lostFor
  split
  · rfl
  · exact addToCurrentDay_withLanes ..

theorem countLost_eq {l : Fin 16} {c : FileContext} (hc : (s.lane l).context = some c) (n : Nat) (x : State) :
    countLost n c.switch x = (List.replicate n l).foldl (lostFor s) x := by
  induction n generalizing x with
  | zero => rfl
  | succ n ih => simp [countLost, List.replicate_succ, lostFor, hc, ih]

theorem foldl_lostFor_withLanes (s x : State) (lanes : Vector Lane 16) (ls : List (Fin 16)) :
    ls.foldl (lostFor s) { x with lanes } = { ls.foldl (lostFor s) x with lanes } := by
  induction ls generalizing x with
  | nil => rfl
  | cons l ls ih => rw [List.foldl_cons, lostFor_withLanes, ih, List.foldl_cons]

theorem outsideBooks_lostFor (s x : State) (l : Fin 16) : outsideBooks (lostFor s x l) = outsideBooks x := by
  unfold lostFor
  split
  · rfl
  · exact outsideBooks_addToCurrentDay ..

theorem outsideBooks_foldl_lostFor (s x : State) (ls : List (Fin 16)) :
    outsideBooks (ls.foldl (lostFor s) x) = outsideBooks x := by
  induction ls generalizing x with
  | nil => rfl
  | cons l ls ih => exact (ih _).trans (outsideBooks_lostFor s x l)

theorem lane_discarded (ls : List (Fin 16)) (s : State) (l : Fin 16) :
    (discarded ls s).lane l = (s.lane l).mapContext (FileContext.lose (ls.count l)) := by
  simp [discarded, State.lane]

theorem discarded_parser (ls : List (Fin 16)) (s : State) : (discarded ls s).parser = s.parser :=
  (congrArg (fun x => x.parser) (outsideBooks_foldl_lostFor s s ls) : _)

theorem discarded_recent (ls : List (Fin 16)) (s : State) : (discarded ls s).recent = s.recent :=
  (congrArg (fun x => x.recent) (outsideBooks_foldl_lostFor s s ls) : _)

theorem buf_discarded (ls : List (Fin 16)) (s : State) (l : Fin 16) (i : BufId) :
    ((discarded ls s).lane l).buf i = (s.lane l).buf i := by
  rw [lane_discarded]; cases i <;> rfl

theorem FileContext.lose_lose (m n : Nat) (c : FileContext) : (c.lose m).lose n = c.lose (m + n) := by
  simp [FileContext.lose, Nat.sub_sub, Nat.add_assoc]

theorem discarded_nil (s : State) : discarded [] s = s := by
  have hlanes : (Vector.ofFn fun l => (s.lane l).mapContext (FileContext.lose 0)) = s.lanes := by
    refine Vector.ext fun l hl => ?_
    have hlose : FileContext.lose 0 = id := rfl
    simp [Lane.mapContext, hlose, State.lane]
  unfold discarded
  simp only [List.foldl_nil, List.count_nil, hlanes]

theorem mapContext_of_none {l : Fin 16} (f : FileContext → FileContext) (h : (s.lane l).context = none) :
    (s.mapContext l f).lanes = s.lanes := by
  have hsame : (s.lane l).mapContext f = s.lane l := by
    cases hx : s.lane l
    simp_all [Lane.mapContext]
  rw [State.mapContext, hsame]
  exact Vector.set_getElem_self l.isLt

theorem foldl_lostFor_of_none {l : Fin 16} (h : (s.lane l).context = none) (n : Nat) (x : State) :
    (List.replicate n l).foldl (lostFor s) x = x := by
  induction n with
  | zero => rfl
  | succ n ih => rw [List.replicate_succ, List.foldl_cons, show lostFor s x l = x by simp [lostFor, h], ih]

theorem discardRecords_eq (l : Fin 16) (n : Nat) (s : State) :
    discardRecords l n s = { (List.replicate n l).foldl (lostFor s) s with
      lanes := (s.mapContext l (FileContext.lose n)).lanes } := by
  unfold discardRecords
  split
  case h_1 hnone => rw [mapContext_of_none _ hnone, foldl_lostFor_of_none hnone]
  case h_2 c hc =>
    rw [countLost_eq hc]
    exact foldl_lostFor_withLanes s s _ _

theorem lostFor_discarded (ls : List (Fin 16)) (s : State) : lostFor (discarded ls s) = lostFor s := by
  funext x l
  unfold lostFor
  rw [lane_discarded]
  unfold Lane.mapContext
  cases (s.lane l).context with
  | none => rfl
  | some c => rfl

theorem mapContext_discarded (ls : List (Fin 16)) (l : Fin 16) (n : Nat) (s : State) :
    ((discarded ls s).mapContext l (FileContext.lose n)).lanes
      = Vector.ofFn fun m => (s.lane m).mapContext (FileContext.lose ((ls ++ List.replicate n l).count m)) := by
  refine Vector.ext fun m hm => ?_
  have hlane : ((discarded ls s).mapContext l (FileContext.lose n)).lane ⟨m, hm⟩
      = (s.lane ⟨m, hm⟩).mapContext (FileContext.lose ((ls ++ List.replicate n l).count ⟨m, hm⟩)) := by
    unfold State.mapContext
    rw [State.lane_setLane]
    split
    case isTrue heq =>
      subst heq
      simp [lane_discarded, Lane.mapContext, List.count_append, Function.comp_def, FileContext.lose_lose]
    case isFalse hne =>
      rw [lane_discarded, List.count_append, List.count_replicate, if_neg (by simpa using hne), Nat.add_zero]
  simpa [State.lane] using hlane

/-- R37: `n` records more are discarded from a lane. -/
theorem discardRecords_discarded (ls : List (Fin 16)) (l : Fin 16) (n : Nat) (s : State) :
    discardRecords l n (discarded ls s) = discarded (ls ++ List.replicate n l) s := by
  rw [discardRecords_eq, mapContext_discarded, lostFor_discarded, discarded, foldl_lostFor_withLanes, ← List.foldl_append]
  rfl

theorem discardInHand_eq (s : State) : discardInHand s = discarded (waitingInHand s) s := by
  have hone (l : Fin 16) (n : Nat) : discardRecords l n s = discarded (List.replicate n l) s := by
    have h := discardRecords_discarded [] l n s
    rwa [discarded_nil] at h
  unfold discardInHand waitingInHand
  split
  case h_1 h => simp [h, inHand, discarded_nil]
  case h_2 h | h_3 h => rw [h, hone]; rfl

theorem inHand_eq (s : State) (l : Fin 16) (i : BufId) :
    s.inHand l i = true ↔ (inHand s.parser.phase).map (fun h => (h.1, h.2.1)) = some (l, i) := by
  unfold State.inHand
  split <;> rename_i h <;> simp [h, inHand]

theorem discardWaiting_discarded (ls : List (Fin 16)) (l : Fin 16) (i : BufId) (s : State) :
    discardWaiting l (discarded ls s) i = discarded (ls ++ waiting s l i) s := by
  have hinHand : (discarded ls s).inHand l i = s.inHand l i := by simp only [State.inHand, discarded_parser]
  have hfree : ((discarded ls s).lane l).free i = decide (((s.lane l).buf i).owner = .link) := by
    rw [Lane.free, buf_discarded]
  have howner : ((s.lane l).buf i).owner = .parser ↔ ((s.lane l).buf i).owner ≠ .link := by
    cases ((s.lane l).buf i).owner <;> simp
  have hhand := inHand_eq s l i
  unfold discardWaiting waiting
  rw [hinHand, hfree, buf_discarded]
  split
  case isTrue h =>
    simp only [Bool.or_eq_true, decide_eq_true_eq] at h
    rw [if_neg (by tauto), List.append_nil]
  case isFalse h =>
    simp only [Bool.or_eq_true, decide_eq_true_eq] at h
    rw [discardRecords_discarded, if_pos (by tauto)]

/-- R37 steps 1 and 2: what a warm reset discards, in its order. -/
theorem discard_all (s : State) :
    (List.finRange 16).foldl (fun x l => discardWaiting l (discardWaiting l x .a) .b) (discardInHand s)
      = discarded (discards s) s := by
  have hfold (ls : List (Fin 16)) (ms : List (Fin 16)) :
      ms.foldl (fun x l => discardWaiting l (discardWaiting l x .a) .b) (discarded ls s)
        = discarded (ls ++ ms.flatMap fun l => waiting s l .a ++ waiting s l .b) s := by
    induction ms generalizing ls with
    | nil => simp
    | cons m ms ih => simp [discardWaiting_discarded, ih]
  rw [discardInHand_eq, hfold, discards_eq]

/-! ### Every pending record is discarded -/

theorem count_flatMap_of_own {f : Fin 16 → List (Fin 16)} (hown : ∀ m, ∀ x ∈ f m, x = m) {ms : List (Fin 16)}
    (hnodup : ms.Nodup) {l : Fin 16} (hl : l ∈ ms) : (ms.flatMap f).count l = (f l).count l := by
  have hzero {m : Fin 16} (hm : m ≠ l) : (f m).count l = 0 :=
    List.count_eq_zero_of_not_mem fun h => hm (hown m l h).symm
  induction ms with
  | nil => simp at hl
  | cons m ms ih =>
    rw [List.flatMap_cons, List.count_append]
    obtain ⟨hm, hms⟩ := List.nodup_cons.mp hnodup
    by_cases h : m = l
    · subst h
      have hrest : (ms.flatMap f).count m = 0 := List.count_eq_zero_of_not_mem fun hmem => by
        obtain ⟨k, hk, hx⟩ := List.mem_flatMap.mp hmem
        exact hm (hown k m hx ▸ hk)
      rw [hrest, Nat.add_zero]
    · have hmem : l ∈ ms := by
        rcases List.mem_cons.mp hl with heq | hmem
        · exact absurd heq.symm h
        · exact hmem
      rw [hzero h, Nat.zero_add, ih hms hmem]

theorem mem_waiting {l x : Fin 16} {i : BufId} (h : x ∈ waiting s l i) : x = l := by
  unfold waiting at h
  split at h
  · exact List.eq_of_mem_replicate h
  · simp at h

/-- The records of a buffer not yet counted are discarded, in hand or not. -/
theorem count_waiting (l : Fin 16) (i : BufId) (hbuf : BufferSound ((s.lane l).buf i)) :
    (if (inHand s.parser.phase).map (fun h => (h.1, h.2.1)) = some (l, i) then (waitingInHand s).count l else 0)
      + (waiting s l i).count l = uncountedIn s l i := by
  rw [uncountedIn_eq]
  unfold waiting waitingInHand started
  cases hphase : inHand s.parser.phase with
  | none =>
    cases howner : ((s.lane l).buf i).owner with
    | link => simp [hbuf.1 howner]
    | parser => simp
  | some h =>
    obtain ⟨l', i', position⟩ := h
    by_cases heq : l' = l ∧ i' = i
    · obtain ⟨rfl, rfl⟩ := heq
      simp
    · cases howner : ((s.lane l).buf i).owner with
      | link => simp [heq, hbuf.1 howner]
      | parser => simp [heq]

/-- R37: as many records are discarded from a lane as its buffers still hold. -/
theorem count_discards (l : Fin 16) (ha : BufferSound (s.lane l).bufA) (hb : BufferSound (s.lane l).bufB) :
    (discards s).count l = uncountedIn s l .a + uncountedIn s l .b := by
  rw [discards_eq, List.count_append, count_flatMap_of_own (fun m x hx => ?own) (List.nodup_finRange 16)
    (List.mem_finRange l), List.count_append, ← count_waiting l .a ha, ← count_waiting l .b hb]
  case own =>
    rcases List.mem_append.mp hx with hx | hx
    · exact mem_waiting hx
    · exact mem_waiting hx
  cases hphase : inHand s.parser.phase with
  | none => simp [waitingInHand, hphase]
  | some h =>
    obtain ⟨l', i', position⟩ := h
    by_cases heq : l' = l
    · cases i'
      · simp [heq]; omega
      · simp [heq]; omega
    · have hnone : (waitingInHand s).count l = 0 := by
        simp [waitingInHand, hphase, List.count_replicate, heq]
      simp [hnone]

end

end Sys2Proof.Machine

namespace Sys2Proof.Machine

open Sys2Proof.Safety

section
variable {s t : State}

/-! ### The lanes of a warm reset (R37 steps 3 and 4) -/

/-- A lane whose buffers have passed back. -/
def Lane.emptied (x : Lane) : Lane := { x with bufA := {}, bufB := {}, paused := false }

theorem lane_returnLane (l m : Fin 16) (s : State) :
    (returnLane s l).lane m = if l = m then (s.lane l).emptied else s.lane m := by
  unfold returnLane
  dsimp only
  split
  case isTrue => rw [lane_resumeLane]; by_cases h : l = m <;> simp [State.lane_setLane, h, Lane.emptied]
  case isFalse hp =>
    have hp : (s.lane l).paused = false := by simpa using hp
    rw [State.lane_setLane, Lane.emptied, hp]

theorem returnLane_recent (l : Fin 16) (s : State) : (returnLane s l).recent = s.recent := by
  unfold returnLane
  dsimp only
  split
  · rw [resumeLane_frame]; rfl
  · rfl

theorem lane_foldl_returnLane (ls : List (Fin 16)) (s : State) (m : Fin 16) :
    (ls.foldl returnLane s).lane m = if m ∈ ls then (s.lane m).emptied else s.lane m := by
  induction ls generalizing s with
  | nil => simp
  | cons l ls ih =>
    rw [List.foldl_cons, ih, lane_returnLane]
    by_cases h : l = m
    · subst h; simp [Lane.emptied]
    · have h' : m ≠ l := fun x => h x.symm
      simp [h, h']

theorem recent_foldl_returnLane (ls : List (Fin 16)) (s : State) : (ls.foldl returnLane s).recent = s.recent := by
  induction ls generalizing s with
  | nil => rfl
  | cons l ls ih => rw [List.foldl_cons, ih, returnLane_recent]

theorem lanes_unbindFile (b : Fin 4) (s : State) : (unbindFile b s).lanes = s.lanes := by
  have h := congrArg State.lanes (outsideRetire_unbindFile s b)
  exact h

theorem recent_unbindFile (b : Fin 4) (s : State) : (unbindFile b s).recent = s.recent := by
  have h := congrArg State.recent (outsideRetire_unbindFile s b)
  exact h

theorem lane_abortFile (l m : Fin 16) (c : FileContext) (s : State) :
    (abortFile l c s).lane m = if l = m then { s.lane l with state := .idle, context := none } else s.lane m := by
  have h : (abortFile l c s).lane m
      = ((raiseAborted l c (enterRecent { context := c, outcome := .aborted } s)).idleLane l).lane m := by
    simp only [State.lane, abortFile, lanes_unbindFile]
  rw [h, State.idleLane, State.lane_setLane]
  have hraised (k : Fin 16) : (raiseAborted l c (enterRecent { context := c, outcome := .aborted } s)).lane k = s.lane k := by
    simp [State.lane, raiseAborted, enterRecent]
  rw [hraised, hraised]

theorem recent_abortFile (l : Fin 16) (c : FileContext) (s : State) :
    (abortFile l c s).recent = (enterRecent { context := c, outcome := .aborted } s).recent := by
  simp [abortFile, recent_unbindFile, State.idleLane, raiseAborted]

/-! ### Conservation of records over a warm reset (R37, R17) -/

/-- No buffer holds a record, every file has accounted for all of its own, and Recent Files has nothing pending. -/
structure Emptied (s : State) : Prop where
  lane : ∀ l, LaneOk 0 0 (s.lane l)
  drained : ∀ l, (s.lane l).drained = true
  recent : RecentOk s.recent

theorem Emptied.conserved (h : Emptied s) (hidle : s.parser.phase = .idle) : RecordsConserved s := by
  refine recordsConserved_iff.mpr ⟨fun l => ?_, parserAccounts_of_idle hidle, h.recent⟩
  rw [hidle]
  exact h.lane l

theorem emptied_returned (hs : RecordsConserved s) :
    Emptied ((List.finRange 16).foldl returnLane (discarded (discards s) s)) := by
  have hlane (l : Fin 16) : ((List.finRange 16).foldl returnLane (discarded (discards s) s)).lane l
      = ((s.lane l).mapContext (FileContext.lose ((discards s).count l))).emptied := by
    rw [lane_foldl_returnLane, if_pos (List.mem_finRange l), lane_discarded]
  obtain ⟨haccounts, -, hrecent⟩ := hs
  refine ⟨fun l => ?_, fun l => by rw [hlane]; rfl, ?_⟩
  · rw [hlane]
    obtain ⟨ha, hb, hnone, hfile⟩ := haccounts l
    refine ⟨bufferSound_empty, bufferSound_empty, fun h => ⟨?_, rfl⟩, fun c h => ?_⟩
    · exact (hnone (by simpa [Lane.emptied, Lane.mapContext] using h)).1
    · simp only [Lane.emptied, Lane.mapContext, Option.map_eq_some_iff] at h
      obtain ⟨d, hd, rfl⟩ := h
      obtain ⟨hbusy, hannounced, hpending⟩ := hfile d hd
      refine ⟨hbusy, ?_⟩
      rw [count_discards l ha hb, ← hpending]
      refine ⟨?_, by simp [FileContext.lose, Lane.emptied, Lane.mapContext]⟩
      simp only [FileContext.lose, accounted] at *
      omega
  · rw [recent_foldl_returnLane, discarded_recent]
    exact hrecent

theorem emptied_abortLane (l : Fin 16) (h : Emptied s) : Emptied (abortLane s l) := by
  unfold abortLane
  split
  · exact h
  case h_2 c hc =>
    refine ⟨fun m => ?_, fun m => ?_, ?_⟩
    · rw [lane_abortFile]
      split
      · exact ⟨(h.lane l).bufA, (h.lane l).bufB, fun _ => ⟨rfl, h.drained l⟩, by simp⟩
      · exact h.lane m
    · rw [lane_abortFile]
      split
      · exact h.drained l
      · exact h.drained m
    · rw [recent_abortFile]
      intro e he
      rcases mem_enterRecent he with he | rfl
      · exact h.recent e he
      · have hdone : ContextAccounts 0 c := (h.lane l).pending_of_drained (h.drained l) hc
        exact hdone

theorem emptied_foldl_abortLane (ls : List (Fin 16)) (h : Emptied s) : Emptied (ls.foldl abortLane s) := by
  induction ls generalizing s with
  | nil => exact h
  | cons l ls ih => exact ih (emptied_abortLane l h)

theorem keeps_countLost (n switch : Nat) (s : State) : Keeps [] s (countLost n switch s) := by
  induction n generalizing s with
  | zero => exact .refl _ _
  | succ n ih => exact (keeps_addToCurrentDay ..).trans (ih _)

theorem keepsBut_discardRecords (l : Fin 16) (n : Nat) (s : State) : Keeps [.records] s (discardRecords l n s) := by
  unfold discardRecords
  split
  · exact .refl _ _
  · exact (keeps_countLost ..).weaken.after (keepsBut_mapContext ..)

theorem keepsBut_discardInHand (s : State) : Keeps [.records] s (discardInHand s) := by
  unfold discardInHand
  split
  · exact .refl _ _
  iterate 2 exact keepsBut_discardRecords ..

theorem keepsBut_discardWaiting (l : Fin 16) (s : State) (i : BufId) : Keeps [.records] s (discardWaiting l s i) := by
  unfold discardWaiting
  split
  · exact .refl _ _
  · exact keepsBut_discardRecords ..

theorem keepsBut_abortLane (s : State) (l : Fin 16) : Keeps [.records] s (abortLane s l) := by
  unfold abortLane
  split
  · exact .refl _ _
  · exact keepsBut_abortFile ..

theorem keeps_warmLanes (s : State) : Keeps [] s (warmLanes s) := by
  refine .restore (q := .records) ?_ fun hs => ?_
  · have hdiscard := (keepsBut_discardInHand s).trans
      (.foldl (fun x l => (keepsBut_discardWaiting l x .a).trans (keepsBut_discardWaiting l _ .b)) (List.finRange 16) _)
    have hend (x : State) := (Keeps.foldl keepsBut_returnLane (List.finRange 16) x).trans
      (.foldl keepsBut_abortLane (List.finRange 16) _)
    exact (hdiscard.trans (hend _)).trans (keepsBut_setParser ..)
  · unfold warmLanes
    dsimp only
    rw [discard_all]
    obtain ⟨hlane, hdrained, hrecent⟩ := emptied_foldl_abortLane (List.finRange 16) (emptied_returned hs)
    generalize List.foldl abortLane _ _ = ended at *
    exact Emptied.conserved ⟨hlane, hdrained, hrecent⟩ rfl

theorem keeps_setStall (st : StallState) (s : State) : Keeps [] s { s with stall := st } :=
  .of_same fun p _ => by cases p <;> simp [Part.Same]

theorem keeps_shorterControl {control : List QueuedRequest} (h : control.length ≤ s.control.length) :
    Keeps [] s { s with control } := by
  refine .restore (q := .lists) (.of_same fun p hp => by cases p <;> simp_all [Part.Same])
    fun ⟨⟨hcontrol, hrecent, hholds, hopen⟩, hs⟩ => ⟨⟨h.trans hcontrol, hrecent, hholds, hopen⟩, hs⟩

theorem keeps_warmReset (tag : Nat) (s : State) : Keeps [] s (warmReset tag s) := by
  unfold warmReset warmBlocks warmEncoder
  have hstopped := ((keeps_shorterControl (s := s) (control := []) (Nat.zero_le _)).trans (keeps_stopSweep _)).trans
    (keeps_stopVerify _)
  have hended := (hstopped.trans (keeps_warmLanes _)).trans (keeps_sealWhere (fun _ => true) _)
  exact (hended.trans (keeps_setStall ..)).trans (keeps_respond ..)

end

end Sys2Proof.Machine

namespace Sys2Proof.Machine

open Sys2Proof.Safety

section
variable {s t : State}

/-! ### The arbiter's grants (R125 to R127, R137, R140, R165) -/

/-- A walker that runs is not held by ingest. -/
theorem WalkFits.not_paused {paused : Bool} {rest : Option Nat} {cursor : Nat} (h : WalkFits paused .running rest cursor) :
    paused = false := by
  cases paused
  · rfl
  · exact absurd rfl (h.1 rfl).1

theorem keeps_grantTag (g : Fin 8) (o : StoreOperation) (id edition : Nat) (s : State) :
    Keeps [] s (grantTag g o id edition s) := .of_same fun p _ => by cases p <;> simp [Part.Same, grantTag]

theorem keeps_moveEntry {id : Nat} (state : EntryState) (h : (s.entry id).state ≠ .free) :
    Keeps [] s (s.moveEntry id state) := keeps_setEntry_of_notFree _ h

theorem keeps_writeQueue (ids : List Nat) (s : State) : Keeps [] s { s with writeQueue := ids } :=
  .of_same fun p _ => by cases p <;> simp [Part.Same]

theorem keeps_sendWrite (g : Fin 8) (id : Nat) (rest : List Nat) (s : State) : Keeps [] s (sendWrite g id rest s) :=
  ((keeps_writeQueue rest s).trans (keeps_grantTag ..)).trans (keeps_sendStore ..)

theorem keeps_turn (turn : Turn) (s : State) : Keeps [] s { s with turn } :=
  .of_same fun p _ => by cases p <;> simp [Part.Same]

theorem keeps_grantDelete (g : Fin 8) {id : Nat} (hentry : (s.entry id).state ≠ .free)
    (hrun : s.sweeper.phase = .running) : Keeps [] s (grantDelete g id s) := by
  unfold grantDelete
  dsimp only
  have hsent := ((keeps_moveEntry .deleting hentry).trans (keeps_grantTag g .delete id (s.entry id).edition _)).trans
    (keeps_sendStore [.segmentDelete g id (s.entry id).edition] _)
  have hphase : (sendStore [.segmentDelete g id (s.entry id).edition]
      (grantTag g .delete id (s.entry id).edition (s.moveEntry id .deleting))).sweeper.phase = .running := by
    rw [sendStore_sweeper]; exact hrun
  generalize sendStore [.segmentDelete g id (s.entry id).edition] _ = sent at *
  refine hsent.trans (Keeps.trans (t := { sent with turn := .verifier }) (keeps_turn .verifier sent)
    (keeps_setSweeper ?_ fun hs => ?_))
  · split <;> rfl
  · have hs : SweeperFits sent.anyPaused sent.sweeper := hs
    split
    · rw [SweeperFits, hphase] at hs
      exact hs.rest hs.not_paused _
    · exact hs

theorem keeps_raiseSweepDone (s : State) : Keeps [] s (raiseSweepDone s) := keeps_raise ..

theorem raiseSweepDone_sweeper (s : State) : (raiseSweepDone s).sweeper = s.sweeper := by simp [raiseSweepDone]

theorem nextPass_fits {paused : Bool} {w : Sweeper} (h : SweeperFits paused w) (hrun : w.phase = .running ∨ w.phase = .resting) :
    SweeperFits paused (nextPass paused w) := by
  have hpaused : paused = false := by
    cases paused
    · rfl
    · rcases hrun with hrun | hrun
      · exact absurd hrun (h.1 rfl).1
      · exact absurd hrun (h.1 rfl).2
  subst hpaused
  unfold nextPass
  split
  · rw [if_neg (by simp)]
    exact ⟨by simp, h.2.1, h.2.2.1, h.2.2.2⟩
  · exact h.enter (by simp) (by simp) (by simp)

theorem keeps_advanceSweep (hrun : s.sweeper.phase = .running ∨ s.sweeper.phase = .resting) :
    Keeps [] s (advanceSweep s) := by
  unfold advanceSweep
  split
  case isTrue hmore => exact keeps_setSweeper rfl fun h => ⟨h.1, h.2.1, h.2.2.1, hmore⟩
  case isFalse =>
    have hzero : Keeps [] s { s with sweeper := { s.sweeper with cursor := 0 } } :=
      keeps_setSweeper rfl WalkFits.cursor_zero
    refine (hzero.trans (keeps_raiseSweepDone _)).trans (keeps_setSweeper ?_ fun h => ?_)
    · unfold nextPass
      split
      · dsimp only; split <;> rfl
      · rfl
    · refine nextPass_fits h ?_
      rw [raiseSweepDone_sweeper]
      exact hrun

theorem sweepTest_granted {e : CatalogEntry} (h : sweepTest s e = .granted) : e.state = .stored := by
  unfold sweepTest at h
  cases hstate : e.state <;> simp_all

theorem verifyTest_granted {scope : VerifyScope} {e : CatalogEntry} (h : verifyTest scope e = .granted) :
    e.state = .stored := by
  unfold verifyTest at h
  cases hstate : e.state <;> simp_all

theorem keeps_sweepExamine (g : Fin 8) (hrun : s.sweeper.phase = .running) : Keeps [] s (sweepExamine g s) := by
  unfold sweepExamine
  dsimp only
  generalize hcounted : ({ s with sweeper := { s.sweeper with
    counts := s.sweeper.counts.addAnswer (sweepTest s (s.entry s.sweeper.cursor)) } } : State) = counted
  have hcount : Keeps [] s counted := hcounted ▸ keeps_setSweeper rfl id
  have hphase : counted.sweeper.phase = .running := by rw [← hcounted]; exact hrun
  have hentry : counted.entry s.sweeper.cursor = s.entry s.sweeper.cursor := by rw [← hcounted]; rfl
  split
  case isTrue hgranted =>
    have hstored : (counted.entry s.sweeper.cursor).state ≠ .free := by
      rw [hentry, sweepTest_granted hgranted]; simp
    refine (hcount.trans (keeps_grantDelete g hstored hphase)).trans (keeps_advanceSweep ?_)
    unfold grantDelete
    dsimp only
    split
    · exact .inr rfl
    · rw [sendStore_sweeper]
      exact .inl hphase
  case isFalse => exact hcount.trans (keeps_advanceSweep (.inl hphase))

theorem keeps_grantRead (g : Fin 8) {id : Nat} (hentry : (s.entry id).state ≠ .free) : Keeps [] s (grantRead g id s) := by
  unfold grantRead
  dsimp only
  have hsent := ((keeps_moveEntry .verifying hentry).trans (keeps_grantTag g .read id (s.entry id).edition _)).trans
    (keeps_sendStore [.segmentRead g id (s.entry id).edition] _)
  generalize sendStore [.segmentRead g id (s.entry id).edition] _ = sent at *
  exact hsent.trans (Keeps.trans (t := { sent with turn := .sweeper }) (keeps_turn .sweeper sent) (keeps_setVerifier fun h => h))

theorem keeps_advanceVerify (s : State) : Keeps [] s (advanceVerify s) := by
  unfold advanceVerify
  split
  case isTrue hmore => exact keeps_setVerifier fun h => ⟨h.1, h.2.1, h.2.2.1, hmore⟩
  case isFalse =>
    have hzero : Keeps [] s { s with verifier := { s.verifier with cursor := 0 } } :=
      keeps_setVerifier WalkFits.cursor_zero
    have hreported (x : State) : Keeps [] x (raiseVerifyDone x) := keeps_raise ..
    exact (hzero.trans (hreported _)).trans (keeps_setVerifier fun h => h.enter (by simp) (by simp) (by simp))

theorem keeps_verifyExamine (g : Fin 8) (s : State) : Keeps [] s (verifyExamine g s) := by
  unfold verifyExamine
  dsimp only
  split
  case isTrue hgranted =>
    refine ((keeps_mapVerifyCounts ..).trans (keeps_grantRead g ?_)).trans (keeps_advanceVerify _)
    rw [show ∀ f, (s.mapVerifyCounts f).entry s.verifier.cursor = s.entry s.verifier.cursor from fun _ => rfl,
      verifyTest_granted hgranted]
    simp
  case isFalse => exact (keeps_mapVerifyCounts ..).trans (keeps_advanceVerify _)

theorem sweeperWaits_running (h : sweeperWaits s = true) : s.sweeper.phase = .running := by
  simp only [sweeperWaits, Bool.and_eq_true, decide_eq_true_eq] at h
  exact h.1.1

theorem keeps_grantOne (h : grantOne s = some t) : Keeps [] s t := by
  obtain ⟨-, g, -, ⟨id, rest, -, rfl⟩ | ⟨-, hwaits, -, rfl⟩ | ⟨-, -, -, rfl⟩⟩ := grantOne_cases h
  · exact keeps_sendWrite ..
  · exact keeps_sweepExamine g (sweeperWaits_running hwaits)
  · exact keeps_verifyExamine g s

theorem keeps_arbitrate (s : State) : Keeps [] s (arbitrate s) :=
  arbitrate_induction (P := Keeps [] s) (fun _ _ h hg => h.trans (keeps_grantOne hg)) (.refl _ _)

theorem keeps_settle (s : State) : Keeps [] s (settle s) := (keeps_arbitrate s).trans (keeps_flushReports _)

/-! ### Links (R183) -/

theorem keeps_linkComesUp (p : PortId) (s : State) : Keeps [] s (linkComesUp p s) := by
  cases p
  case feed => exact (keeps_sendPauses s).trans (keeps_flushReports _)
  case store => exact keeps_arbitrate s

theorem keeps_receiveGood (p : PortId) (s : State) : Keeps [] s (receiveGood p s) := by
  have hcounted : Keeps [] s (s.setPort p ((s.port p).afterGood s.runTime)) :=
    keeps_setPort fun up locked => ⟨by simp [Port.afterGood, up, locked], locked⟩
  unfold receiveGood
  dsimp only
  split
  · exact hcounted.trans (keeps_linkComesUp ..)
  · exact hcounted

theorem keeps_loseLink (cause : LossCause) (p : PortId) (s : State) : Keeps [] s (loseLink cause p s) := by
  unfold loseLink
  dsimp only
  split
  case isFalse => exact .refl _ _
  case isTrue hup =>
    have hup : (s.port p).up = true := (Bool.and_eq_true_iff.mp hup).1
    have hdown (x : Port) : Keeps [] s (s.setPort p x) := keeps_setPort fun down => absurd (hup.symm.trans down) (by decide)
    cases p
    case feed => exact ((hdown _).trans (keeps_feedLossAtLanes _)).trans (keeps_settle _)
    case store => exact hdown _

theorem keeps_raiseLink (p : PortId) (s : State) : Keeps [] s (raiseLink p s) := by
  unfold raiseLink
  dsimp only
  split
  · exact (keeps_receiveGood ..).trans (keeps_flushReports _)
  · exact .refl _ _

theorem keeps_loseLock (p : PortId) (s : State) : Keeps [] s (loseLock p s) := by
  unfold loseLock
  dsimp only
  split
  · exact keeps_loseLink ..
  · exact keeps_setPort fun up _ => ⟨up, rfl⟩

/-! ### Outcomes on the Store link (R101 to R104, R112 to R114, R128 to R131) -/

theorem keeps_storeFull (b : Bool) (s : State) : Keeps [] s { s with storeFull := b } :=
  .of_same fun p _ => by cases p <;> simp [Part.Same]

theorem keeps_fullWaits (ws : List FullWait) (s : State) : Keeps [] s { s with fullWaits := ws } :=
  .of_same fun p _ => by cases p <;> simp [Part.Same]

theorem keeps_writeStored (id : Nat) (s : State) : Keeps [] s (writeStored id s) := by
  unfold writeStored
  split
  case isFalse => exact .refl _ _
  case isTrue hwriting =>
    have hstored := (keeps_moveEntry (s := s) (id := id) .stored (by simp [hwriting])).trans
      (keeps_updateBufferOf id (fun _ => {}) _)
    exact ((hstored.trans (keeps_storeFull ..)).trans (keeps_refreshStall _)).trans (keeps_takeUpHeld _)

theorem keeps_writeFails (id : Nat) (cause : FailCause) (s : State) : Keeps [] s (writeFails id cause s) := by
  unfold writeFails
  dsimp only
  split
  case h_2 => exact .refl _ _
  case h_1 hwriting _ _ =>
    have hset (e : CatalogEntry) : Keeps [] s (s.setEntry id e) := keeps_setEntry_of_notFree e (by simp [hwriting])
    split
    · exact (hset _).trans (keeps_writeQueue ..)
    · exact ((hset _).trans (keeps_updateBufferOf ..)).trans (keeps_raise ..)

theorem keeps_writeFull (id : Nat) (s : State) : Keeps [] s (writeFull id s) := by
  unfold writeFull
  dsimp only
  split
  · exact keeps_fullWaits ..
  · exact (keeps_raise ..).after (.of_same fun p _ => by cases p <;> simp [Part.Same])

theorem keeps_deleteDone (id : Nat) (s : State) : Keeps [] s (deleteDone id s) := by
  unfold deleteDone
  split
  case isFalse => exact .refl _ _
  case isTrue hdeleting => exact (keeps_freeEntry (by simp [hdeleting])).trans (keeps_takeUpHeld _)

theorem keeps_deleteFails (id : Nat) (cause : DeleteFailure) (s : State) : Keeps [] s (deleteFails id cause s) := by
  unfold deleteFails
  dsimp only
  split
  case h_2 => exact keeps_countDeleteFailure s
  case h_1 hdeleting _ =>
    have hset (e : CatalogEntry) : Keeps [] s (s.setEntry id e) := keeps_setEntry_of_notFree e (by simp [hdeleting])
    split
    · exact (hset _).trans (keeps_countDeleteFailure _)
    · exact ((hset _).trans (keeps_raise ..)).trans (keeps_countDeleteFailure _)

theorem keeps_endVerification (id : Nat) (result : Option VerifyResult) (s : State) :
    Keeps [] s (endVerification id result s) := by
  unfold endVerification
  dsimp only
  split
  case isTrue hverifying => exact keeps_setEntry_of_notFree _ (by simp [hverifying])
  case isFalse => exact .refl _ _

theorem keeps_verificationResult (id : Nat) (c : Checked) (s : State) : Keeps [] s (verificationResult id c s) := by
  unfold verificationResult
  dsimp only
  refine Keeps.trans ?_ (keeps_restVerifier _)
  have hcounted := (keeps_endVerification id (some c.result) s).trans
    (keeps_mapVerifyCounts (fun x => x.addResult c.result) _)
  split
  · exact hcounted.trans (keeps_raise ..)
  iterate 3 exact hcounted

theorem keeps_verificationFails (id : Nat) (cause : FailCause) (s : State) : Keeps [] s (verificationFails id cause s) :=
  (((keeps_endVerification id none s).trans (keeps_mapVerifyCounts ..)).trans (keeps_raise ..)).trans (keeps_restVerifier _)

theorem keeps_verifyImage (id : Nat) (image : List Byte) (overlong : Bool) (s : State) :
    Keeps [] s (verifyImage id image overlong s) := by
  unfold verifyImage
  dsimp only
  split
  · exact keeps_verificationResult ..
  · exact .refl _ _

theorem keeps_ackOutcome (op : Outstanding) (status : AckStatus) (s : State) : Keeps [] s (ackOutcome op status s) := by
  unfold ackOutcome
  split
  · exact keeps_writeStored ..
  · exact keeps_writeFull ..
  iterate 2 exact keeps_writeFails ..
  iterate 2 exact keeps_deleteDone ..
  iterate 2 exact keeps_deleteFails ..
  · exact (keeps_clearReadBuffer s).trans (keeps_verificationResult ..)
  iterate 3 exact (keeps_clearReadBuffer s).trans (keeps_verificationFails ..)

theorem keeps_strayStore (subject : Option Nat) (g : Fin 8) (edition : Option Nat) (cause : StrayCause) (s : State) :
    Keeps [] s (strayStore subject g edition cause s) := by
  unfold strayStore
  refine Keeps.trans (t := { s with strayFrames := satAdd max32 s.strayFrames 1 })
    (.of_same fun p _ => by cases p <;> simp [Part.Same]) (keeps_raise ..)

theorem keeps_ackArrives (g : Fin 8) (id edition : Nat) (status : AckStatus) (s : State) :
    Keeps [] s (ackArrives g id edition status s) := by
  unfold ackArrives
  split
  · exact keeps_strayStore ..
  · split
    · exact (keeps_setTag ..).trans (keeps_ackOutcome ..)
    · exact keeps_strayStore ..

theorem keeps_appendRead (g : Fin 8) (op : Outstanding) (bytes : List Byte) (s : State) :
    Keeps [] s (appendRead g op bytes s) := by
  unfold appendRead
  exact (keeps_setTag ..).trans (keeps_setVerifier id)

theorem keeps_finishRead (g : Fin 8) (s : State) : Keeps [] s (finishRead g s) := by
  unfold finishRead
  split
  · exact .refl _ _
  · exact ((keeps_setTag ..).trans (keeps_clearReadBuffer _)).trans (keeps_verifyImage ..)

theorem keeps_dataArrives (g : Fin 8) (last : Bool) (bytes : List Byte) (s : State) :
    Keeps [] s (dataArrives g last bytes s) := by
  unfold dataArrives
  split
  · exact keeps_strayStore ..
  · split
    · dsimp only
      split
      · exact (keeps_appendRead ..).trans (keeps_finishRead ..)
      · exact keeps_appendRead ..
    iterate 2 exact keeps_strayStore ..

theorem keeps_timeoutOutcome (op : Outstanding) (s : State) : Keeps [] s (timeoutOutcome op s) := by
  unfold timeoutOutcome
  split
  · exact keeps_writeFails ..
  · exact keeps_deleteFails ..
  · exact (keeps_clearReadBuffer s).trans (keeps_verificationFails ..)

theorem keeps_tagExpires (g : Fin 8) (s : State) : Keeps [] s (tagExpires g s) := by
  unfold tagExpires
  split
  · exact .refl _ _
  · split
    · exact (keeps_setTag ..).trans (keeps_timeoutOutcome ..)
    · exact .refl _ _

theorem keeps_fullWaitEnds (id : Nat) (s : State) : Keeps [] s (fullWaitEnds id s) := by
  unfold fullWaitEnds
  split
  · exact .refl _ _
  · split
    · exact .of_same fun p _ => by cases p <;> simp [Part.Same]
    · exact .refl _ _

theorem keeps_sealDeadline (id : Nat) (s : State) : Keeps [] s (sealDeadline id s) := by
  unfold sealDeadline
  split
  · exact .refl _ _
  case h_2 g hg =>
    split
    · exact keeps_sealSegment_of_mem (List.mem_of_find?_eq_some hg)
    · exact .refl _ _

end

end Sys2Proof.Machine

namespace Sys2Proof.Machine

open Sys2Proof.Safety

section
variable {s t : State}

/-! ### The parameters and the Day Clock (R174, R11 to R13) -/

theorem takenValue_bounds (p : Param) (value : Nat) :
    (paramRange p).1 ≤ takenValue p value ∧ takenValue p value ≤ (paramRange p).2 := by
  unfold takenValue
  cases p <;> simp only [paramRange] <;> omega

theorem keepsBut_setParams (ps : Params) (s : State) : Keeps [.params] s { s with params := ps } :=
  .of_same fun p hp => by cases p <;> simp_all [Part.Same]

theorem keepsBut_setClock (c : DayClock) (s : State) : Keeps [.params] s { s with clock := c } :=
  .of_same fun p hp => by cases p <;> simp_all [Part.Same]

/-- R174: a SET takes a value of the parameter's range. -/
theorem keeps_setParam (p : Param) (value : Nat) (s : State) : Keeps [] s (setParam p (takenValue p value) s) := by
  have hbounds := takenValue_bounds p value
  generalize takenValue p value = v at hbounds
  have hset {ps : Params} (h : ParamsInRange s → ParamsInRange { s with params := ps }) : Keeps [] s { s with params := ps } :=
    .restore (keepsBut_setParams ps s) h
  cases p
  case reportHoldoff => exact keeps_restartHoldoff hbounds.2 s
  case lateWindow =>
    refine .restore (keepsBut_setClock _ s) fun ⟨h1, h2, h3, h4, h5, h6, h7, h8, _⟩ => ⟨h1, h2, h3, h4, h5, h6, h7, h8, ?_⟩
    rintro w ⟨⟩
    exact hbounds.2
  case sealTimeout =>
    have hbounds : 10 ≤ v ∧ v ≤ 3600 := hbounds
    exact hset fun ⟨h1, _, h3⟩ => ⟨h1, ⟨by dsimp only; omega, by dsimp only; omega⟩, h3⟩
  case storeTimeout => exact hset fun ⟨h1, h2, _, h4⟩ => ⟨h1, h2, hbounds, h4⟩
  case fullRetry => exact hset fun ⟨h1, h2, h3, _, h5⟩ => ⟨h1, h2, h3, hbounds, h5⟩
  case sweepBurst => exact hset fun ⟨h1, h2, h3, h4, _, h6⟩ => ⟨h1, h2, h3, h4, hbounds, h6⟩
  case sweepRest => exact hset fun ⟨h1, h2, h3, h4, h5, _, h7⟩ => ⟨h1, h2, h3, h4, h5, hbounds, h7⟩
  case autoSweep => exact hset id
  case verifyRest => exact hset fun ⟨h1, h2, h3, h4, h5, h6, _, h8⟩ => ⟨h1, h2, h3, h4, h5, h6, hbounds, h8⟩
  case verifyScope => exact hset id

/-- A pending late window is adopted. -/
theorem keeps_setDay (day : Nat) (s : State) : Keeps [] s { s with clock := s.clock.setDay day } := by
  refine .restore (keepsBut_setClock _ s)
    fun ⟨h1, h2, h3, h4, h5, h6, h7, hlate, hpending⟩ => ⟨h1, h2, h3, h4, h5, h6, h7, ?_, by simp [DayClock.setDay, DayClock.adopt]⟩
  change s.clock.pendingLate.getD s.clock.lateWindow ≤ 7
  cases h : s.clock.pendingLate with
  | none => exact hlate
  | some w => exact hpending w h

theorem keeps_days (ds : List DayRecord) (s : State) : Keeps [] s { s with days := ds } :=
  .of_same fun p _ => by cases p <;> simp [Part.Same]

/-! ### START and CATALOG_LOAD (R118 to R120) -/

theorem keeps_countBanks (s : State) : Keeps [] s (countBanks s) :=
  .foldl (f := fun x i => x.setBank i (countedBank s.catalog i (x.bank i))) (fun _ _ => keeps_setBank rfl) _ s

theorem mem_freeIdList {catalog : NMap CatalogEntry} {id : Nat} (h : id ∈ freeIdList catalog) : id < Config.catalogEntries :=
  List.mem_range.mp (List.mem_filter.mp h).1

theorem keeps_freeIds {ids : List Nat} (h : ∀ id ∈ ids, id < Config.catalogEntries) (s : State) :
    Keeps [] s { s with freeIds := ids } :=
  .restore (q := .catalog) (.of_same fun p hp => by cases p <;> simp_all [Part.Same])
    fun ⟨hcanonical, hbelow, hcounts, _, hopen⟩ => ⟨hcanonical, hbelow, hcounts, h, hopen⟩

theorem foldl_setBank_frame (f : State → Fin 4 → Bank) (bs : List (Fin 4)) (s : State) :
    bs.foldl (fun x i => x.setBank i (f x i)) s
      = { s with banks := (bs.foldl (fun x i => x.setBank i (f x i)) s).banks } := by
  induction bs generalizing s with
  | nil => rfl
  | cons b bs ih => exact ih _

theorem countBanks_frame (s : State) : countBanks s = { s with banks := (countBanks s).banks } :=
  foldl_setBank_frame (fun x i => countedBank s.catalog i (x.bank i)) _ s

theorem keeps_completeStart (day : Nat) (s : State) : Keeps [] s (completeStart day s) := by
  have hcounted : Keeps [] s (countBanks { s with freeIds := freeIdList s.catalog }) :=
    (keeps_freeIds (fun _ => mem_freeIdList) s).trans (keeps_countBanks _)
  have hclock : (countBanks { s with freeIds := freeIdList s.catalog }).clock = s.clock := by rw [countBanks_frame]
  unfold completeStart
  dsimp only
  generalize countBanks { s with freeIds := freeIdList s.catalog } = counted at *
  rw [← hclock]
  refine (hcounted.trans (keeps_setDay day counted)).trans (.of_same fun p _ => ?_)
  cases p <;> simp [Part.Same]

theorem keeps_loadEntries {entries : List LoadEntry} (h : ∀ e ∈ entries, e.segmentId < Config.catalogEntries) (s : State) :
    Keeps [] s (loadEntries entries s) := by
  unfold loadEntries
  induction entries generalizing s with
  | nil => exact .refl _ _
  | cons e es ih =>
    exact (keeps_setEntry _ fun _ => h e (by simp)).trans (ih (fun x hx => h x (by simp [hx])) _)

theorem loadable_of_firstBadEntry {entries : List LoadEntry} (h : firstBadEntry entries = none) :
    ∀ e ∈ entries, e.segmentId < Config.catalogEntries := by
  intro e he
  simp only [firstBadEntry, Option.map_eq_none_iff, List.findIdx?_eq_none_iff] at h
  have hgood := h e he
  simp only [badLoadEntry, Bool.or_eq_false_iff, decide_eq_false_iff_not] at hgood
  omega

theorem keeps_takeCatalogLoad (tag : Nat) (entries : List LoadEntry) (s : State) :
    Keeps [] s (takeCatalogLoad tag entries s) := by
  unfold takeCatalogLoad
  dsimp only
  split
  · exact keeps_respond ..
  case h_2 hgood =>
    split
    · exact keeps_respond ..
    · exact (keeps_loadEntries (loadable_of_firstBadEntry hgood) s).trans (keeps_respond ..)

/-! ### The table banks (R46 to R56) -/

theorem keepsBut_setSelection (sel : Option Selection) (s : State) : Keeps [.banks] s { s with selection := sel } :=
  .of_same fun p hp => by cases p <;> simp_all [Part.Same]

theorem keeps_dropSelection (s : State) : Keeps [] s { s with selection := none } :=
  .restore (keepsBut_setSelection none s) fun h => ⟨h.1, by simp⟩

/-- A bank that is made neither ACTIVE nor other than READY while selected. -/
theorem banksSound_setBank {b : Fin 4} {x : Bank} (hx : x.state ≠ .active)
    (hselected : ∀ sel, s.selection = some sel → sel.bank = b → x.state = .ready) (h : BanksSound s) :
    BanksSound (s.setBank b x) := by
  obtain ⟨hone, hsel⟩ := h
  refine ⟨fun c d hc hd => ?_, fun sel hs => ?_⟩
  · rw [State.bank_setBank] at hc hd
    split at hc
    · exact absurd hc hx
    · split at hd
      · exact absurd hd hx
      · exact hone c d hc hd
  · rw [State.bank_setBank]
    split
    case isTrue heq => exact hselected sel hs heq.symm
    case isFalse => exact hsel sel hs

theorem keeps_finishLoad (b : Fin 4) (supplied : Option Nat) (s : State) : Keeps [] s (finishLoad b supplied s) := by
  unfold finishLoad
  have hready {x : Bank} (hx : x.state = .ready) : Keeps [] s (s.setBank b x) :=
    .restore (keepsBut_setBank b x s) (banksSound_setBank (by simp [hx]) fun _ _ _ => hx)
  have hcounter (n : Nat) (x : State) : Keeps [] x { x with loadCounter := n } :=
    .of_same fun p _ => by cases p <;> simp [Part.Same]
  exact (hready rfl).trans (hcounter _ _)

theorem keeps_completeValidation (tag bank supplied generation : Nat) (s : State) :
    Keeps [] s (completeValidation tag bank supplied generation s) := by
  unfold completeValidation
  dsimp only
  split
  · exact keeps_respond ..
  · exact (keeps_finishLoad ..).trans (keeps_respond ..)

theorem keeps_clearBank (b : Fin 4) (s : State) :
    Keeps [] s ({ s with selection := cancelSelectionOf b s.selection }.setBank b (clearedBank (s.bank b))) := by
  refine .restore (q := .banks) ((keepsBut_setSelection ..).trans (keepsBut_setBank ..)) fun h => ?_
  have hcancelled : ∀ sel, cancelSelectionOf b s.selection = some sel → s.selection = some sel ∧ sel.bank ≠ b := by
    intro sel hsel
    unfold cancelSelectionOf at hsel
    split at hsel
    · cases hsel
    · split at hsel
      · cases hsel
      · cases hsel; exact ⟨‹_›, ‹_›⟩
  refine banksSound_setBank (by simp [clearedBank]) (fun sel hsel heq => absurd heq (hcancelled sel hsel).2) ?_
  exact ⟨h.1, fun sel hsel => h.2 sel (hcancelled sel hsel).1⟩

theorem keeps_takeTableBegin (tag bank force : Nat) (s : State) : Keeps [] s (takeTableBegin tag bank force s) := by
  unfold takeTableBegin
  dsimp only
  split
  · exact keeps_answer ..
  · exact (keeps_clearBank ..).trans (keeps_answer ..)

theorem state_written (b : Bank) (start : Nat) (entries : TableEntries) : (b.written start entries).state = b.state := by
  cases entries <;> rfl

theorem keeps_takeTableWrite (tag bank : Nat) (startIndex : Option Nat) (entries : TableEntries) (s : State) :
    Keeps [] s (takeTableWrite tag bank startIndex entries s) := by
  unfold takeTableWrite
  dsimp only
  split
  · exact keeps_respond ..
  · split
    · exact keeps_respond ..
    · split
      · exact keeps_respond ..
      · exact (keeps_setBank (state_written ..)).trans (keeps_respond ..)

theorem keeps_takeTableSelect (tag bank mode : Nat) (s : State) : Keeps [] s (takeTableSelect tag bank mode s) := by
  unfold takeTableSelect
  dsimp only
  split
  · exact (keeps_dropSelection s).trans (keeps_answer ..)
  iterate 3 exact keeps_answer ..
  case h_5 hready =>
    refine Keeps.trans ?_ (keeps_answer ..)
    split
    · exact keeps_selectBank ..
    · refine .restore (keepsBut_setSelection _ s) fun h => ⟨h.1, ?_⟩
      rintro sel ⟨⟩
      exact hready

theorem keeps_takeTableCancel (tag : Nat) (s : State) : Keeps [] s (takeTableCancel tag s) := by
  unfold takeTableCancel
  split
  · exact keeps_answer ..
  · exact (keeps_dropSelection s).trans (keeps_answer ..)

/-! ### DAY_CLOSE (R13, R160) -/

theorem keeps_closeDay (day : Nat) (s : State) : Keeps [] s (closeDay day s) := by
  unfold closeDay
  split
  · exact .refl _ _
  · exact (keeps_setDayRecord ..).trans (keeps_raise ..)

theorem keeps_retireDays (first : Nat) (s : State) : Keeps [] s (retireDays first s) :=
  (Keeps.foldl (fun _ _ => keeps_raise ..) _ s).trans (keeps_days ..)

theorem keeps_readmitDay (s : State) (day : Nat) : Keeps [] s (readmitDay s day) := by
  unfold readmitDay
  split
  · exact .refl _ _
  · exact keeps_days ..

theorem keeps_closeDayTable (closed : Nat) (s : State) : Keeps [] s (closeDayTable closed s) := by
  unfold closeDayTable
  dsimp only
  split
  · exact .refl _ _
  · exact (((keeps_closeDay closed s).trans (keeps_days ..)).trans (keeps_retireDays ..)).trans
      (.foldl keeps_readmitDay _ _)

theorem keeps_closeParts (closed : Nat) (s : State) : Keeps [] s (closeParts closed s) :=
  ((((keeps_takeSelection ..).trans (keeps_sealWhere ..)).trans (keeps_autoSweep _)).trans (keeps_arbitrate _)).trans
    (keeps_closeDayTable ..)

theorem keeps_takeDayClose (tag : Nat) (s : State) : Keeps [] s (takeDayClose tag s) := by
  unfold takeDayClose
  split
  · exact keeps_answer ..
  · split
    · exact ((keeps_setDay ..).trans (keeps_answer ..)).trans (keeps_closeParts ..)
    · exact keeps_answer ..

/-! ### The other requests -/

theorem keeps_takeHoldAdd (tag switchWord firstDay lastDay classSet : Nat) (s : State) :
    Keeps [] s (takeHoldAdd tag switchWord firstDay lastDay classSet s) := by
  unfold takeHoldAdd
  dsimp only
  split
  · exact keeps_respond ..
  · split
    · exact keeps_respond ..
    · exact ((keeps_setHold ..).trans (keeps_respond ..)).trans (keeps_reportMissed ..)

theorem keeps_takeHoldRelease (tag holdId : Nat) (s : State) : Keeps [] s (takeHoldRelease tag holdId s) := by
  unfold takeHoldRelease
  dsimp only
  split
  · split
    · exact keeps_answer ..
    · exact ((keeps_releaseHold ..).trans (keeps_answer ..)).trans (keeps_arbitrate _)
  · exact keeps_answer ..

theorem keeps_takeSweepStart (tag mode : Nat) (s : State) : Keeps [] s (takeSweepStart tag mode s) := by
  unfold takeSweepStart
  refine (Keeps.trans ?_ (keeps_answer ..)).trans (keeps_arbitrate _)
  split
  · exact keeps_restartSweep s
  · exact keeps_resumeSweep s

theorem keeps_takeVerifyStart (tag mode : Nat) (s : State) : Keeps [] s (takeVerifyStart tag mode s) := by
  unfold takeVerifyStart
  refine (Keeps.trans ?_ (keeps_answer ..)).trans (keeps_arbitrate _)
  split
  · exact keeps_restartVerify s
  · exact keeps_resumeVerify s

theorem findNamed_writeFailed {segmentId edition : Nat} {e : CatalogEntry}
    (h : findNamed segmentId edition s = .writeFailed e) :
    segmentId < Config.catalogEntries ∧ s.entry segmentId = e ∧ e.edition = edition ∧ e.state = .writeFailed := by
  unfold findNamed at h
  dsimp only at h
  split at h
  · cases h
  · split at h
    · cases h
    · split at h <;> cases h
      exact ⟨Nat.lt_of_not_le ‹_›, rfl, not_not.mp ‹_›, ‹_›⟩

theorem findNamed_deleteFailed {segmentId edition : Nat} {e : CatalogEntry}
    (h : findNamed segmentId edition s = .deleteFailed e) :
    segmentId < Config.catalogEntries ∧ s.entry segmentId = e ∧ e.edition = edition ∧ e.state = .deleteFailed := by
  unfold findNamed at h
  dsimp only at h
  split at h
  · cases h
  · split at h
    · cases h
    · split at h <;> cases h
      exact ⟨Nat.lt_of_not_le ‹_›, rfl, not_not.mp ‹_›, ‹_›⟩

theorem keeps_takeSegmentRetry (tag segmentId edition : Nat) (s : State) :
    Keeps [] s (takeSegmentRetry tag segmentId edition s) := by
  unfold takeSegmentRetry
  dsimp only
  split
  iterate 3 exact keeps_answer ..
  case h_4 e he =>
    obtain ⟨hid, -, -, -⟩ := findNamed_writeFailed he
    have hretry : Keeps [] s (retryWrite segmentId e s) :=
      ((keeps_setEntry _ fun _ => hid).trans (keeps_updateBufferOf ..)).trans (keeps_writeQueue ..)
    exact (hretry.trans (keeps_answer ..)).trans (keeps_arbitrate _)
  case h_5 e he =>
    obtain ⟨hid, -, -, -⟩ := findNamed_deleteFailed he
    have hretry : Keeps [] s (retryDelete segmentId e s) := keeps_setEntry _ fun _ => hid
    exact hretry.trans (keeps_answer ..)

theorem entry_updateBufferOf (id k : Nat) (f : SegmentBuffer → SegmentBuffer) (s : State) :
    (s.updateBufferOf id f).entry k = s.entry k := by rw [updateBufferOf_frame]; rfl

theorem keeps_takeSegmentDiscard (tag segmentId edition : Nat) (s : State) :
    Keeps [] s (takeSegmentDiscard tag segmentId edition s) := by
  unfold takeSegmentDiscard
  dsimp only
  split
  iterate 4 exact keeps_answer ..
  case h_5 e he =>
    obtain ⟨-, hentry, -, hstate⟩ := findNamed_writeFailed he
    have hdiscard : Keeps [] s (discardSegment segmentId s) :=
      (keeps_updateBufferOf segmentId (fun _ => {}) s).trans
        (keeps_freeEntry (by rw [entry_updateBufferOf, hentry, hstate]; simp))
    exact ((hdiscard.trans (keeps_answer ..)).trans (keeps_takeUpHeld _)).trans (keeps_arbitrate _)

/-! ### The control queue (R169, R170) -/

theorem keeps_carryOut (tag : Nat) (r : Request) (s : State) : Keeps [] s (carryOut tag r s) := by
  cases r <;> unfold carryOut <;> dsimp only
  case start day =>
    split
    · exact keeps_answer ..
    · exact .refl _ _
  case catalogLoad => exact keeps_takeCatalogLoad ..
  case tableBegin => exact keeps_takeTableBegin ..
  case tableWrite => exact keeps_takeTableWrite ..
  case tableEnd =>
    split
    · exact keeps_answer ..
    · exact .refl _ _
  case tableSelect => exact keeps_takeTableSelect ..
  case tableCancel => exact keeps_takeTableCancel ..
  case dayClose => exact keeps_takeDayClose ..
  case holdAdd => exact keeps_takeHoldAdd ..
  case holdRelease => exact keeps_takeHoldRelease ..
  case sweepStart => exact keeps_takeSweepStart ..
  case sweepStop => exact (keeps_stopSweep s).trans (keeps_answer ..)
  case verifyStart => exact keeps_takeVerifyStart ..
  case verifyStop => exact (keeps_stopVerify s).trans (keeps_answer ..)
  case segmentRetry => exact keeps_takeSegmentRetry ..
  case segmentDiscard => exact keeps_takeSegmentDiscard ..
  case set => exact (keeps_setParam ..).trans (keeps_respond ..)
  case query => exact keeps_respond ..
  case unknown => exact keeps_answer ..

theorem keeps_takeRequest (q : QueuedRequest) (s : State) : Keeps [] s (takeRequest q s) := by
  unfold takeRequest
  split
  · exact keeps_answer ..
  · split
    · exact keeps_answer ..
    · exact keeps_carryOut ..

theorem keeps_runQueue (n : Nat) (s : State) : Keeps [] s (runQueue n s) := by
  induction n generalizing s with
  | zero => exact .refl _ _
  | succ n ih =>
    unfold runQueue
    split
    · exact .refl _ _
    · split
      · exact .refl _ _
      · exact ((keeps_takeRequest ..).trans (keeps_shorterControl (by simp))).trans (ih _)

theorem keeps_controlArrives (q : QueuedRequest) (s : State) : Keeps [] s (controlArrives q s) := by
  unfold controlArrives
  split
  case isFalse => exact keeps_respond ..
  case isTrue hroom =>
    have hqueued : Keeps [] s { s with control := s.control ++ [q] } := by
      refine .restore (q := .lists) (.of_same fun p hp => by cases p <;> simp_all [Part.Same])
        fun ⟨⟨_, hrecent, hholds, hopen⟩, hs⟩ => ⟨⟨?_, hrecent, hholds, hopen⟩, hs⟩
      simpa using hroom
    dsimp only
    split
    · exact hqueued.trans (keeps_runQueue ..)
    · exact hqueued

theorem keeps_controlFrame (tag : Nat) (r : Request) (s : State) : Keeps [] s (controlFrame tag r s) :=
  ((keeps_receiveGood ..).trans (keeps_controlArrives ..)).trans (keeps_flushReports _)

end

end Sys2Proof.Machine

namespace Sys2Proof.Machine

open Sys2Proof.Safety

section
variable {s t : State}

/-! ### Power-on reset meets every invariant (R177) -/

theorem lane_reset (l : Fin 16) : State.reset.lane l = {} := by
  simp [State.lane, State.reset]

theorem bank_reset (b : Fin 4) : State.reset.bank b = {} := by
  simp [State.bank, State.reset]

theorem reportsSound_reset : ReportsSound State.reset := by
  refine ⟨by simp [State.reset], ?_, fun _ => ⟨rfl, rfl⟩⟩
  intro h
  exact absurd h (by simp [State.reset])

theorem paramsInRange_reset : ParamsInRange State.reset := by
  unfold ParamsInRange State.reset
  simp

theorem listsBounded_reset : ListsBounded State.reset := by
  refine ⟨?_, ?_, ?_, ?_⟩ <;> exact Nat.zero_le _

theorem suspendedExactly_reset : SuspendedExactly State.reset := by simp [SuspendedExactly, State.reset]

theorem banksSound_reset : BanksSound State.reset := by
  refine ⟨fun a b ha => ?_, fun sel h => by cases h⟩
  rw [bank_reset] at ha
  cases ha

theorem pausedExactly_reset : PausedExactly State.reset := by
  intro l
  simp [lane_reset]

theorem walkersSound_reset : WalkersSound State.reset := by
  have hidle (paused : Bool) : WalkFits paused .idle none 0 := ⟨by simp, by simp, by simp, by simp⟩
  exact walkersSound_iff.mpr ⟨hidle _, hidle _⟩

theorem catalogSound_reset : CatalogSound State.reset := by
  refine ⟨rfl, rfl, fun st => ?_, fun id h => ?_, fun g h => ?_⟩
  · cases st <;> rfl
  · exact absurd h List.not_mem_nil
  · exact absurd h List.not_mem_nil

theorem recordsConserved_reset : RecordsConserved State.reset := by
  refine recordsConserved_iff.mpr ⟨fun l => ?_, parserAccounts_of_idle rfl, fun e h => absurd h List.not_mem_nil⟩
  rw [lane_reset]
  exact ⟨bufferSound_empty, bufferSound_empty, fun _ => ⟨rfl, rfl⟩, by simp⟩

/-- A reset keeps the commands that wait and what has been sent, and puts every invariant in force. -/
theorem keeps_powerOn (s : State) : Keeps [] s (powerOn s) := by
  refine ⟨fun p _ => ?_⟩
  cases p
  case links => exact ⟨rfl, List.prefix_rfl, List.prefix_rfl, fun _ _ => ⟨rfl, rfl, rfl⟩, fun _ _ => ⟨rfl, rfl, rfl⟩⟩
  case reports => exact fun _ => reportsSound_reset
  case params => exact fun _ => paramsInRange_reset
  case lists => exact fun _ => ⟨listsBounded_reset, suspendedExactly_reset⟩
  case banks => exact fun _ => banksSound_reset
  case walkers => exact fun _ => ⟨pausedExactly_reset, walkersSound_reset⟩
  case catalog => exact fun _ => catalogSound_reset
  case records => exact fun _ => recordsConserved_reset

/-! ### Every command -/

/-- A control request that enters the queue is a CONTROL REQUEST frame. -/
theorem exec_of_requestOf {c : Instr} {tag : Nat} {r : Request} (h : requestOf c = some (tag, r)) (s : State) :
    exec c s = .next (controlFrame tag r s) := by
  cases c
  case unknownControlRequest tag' code arguments =>
    simp only [requestOf] at h
    split at h
    · cases h
    case isFalse hcode =>
      cases h
      exact if_neg hcode
  all_goals cases h
  all_goals rfl

theorem completeValidation_control (tag bank supplied generation : Nat) (s : State) :
    (completeValidation tag bank supplied generation s).control = s.control := by
  unfold completeValidation respond
  dsimp only
  split
  · rw [sendFeed_control]
  · rw [sendFeed_control]; rfl

theorem completeStart_control (day : Nat) (s : State) : (completeStart day s).control = s.control := by
  unfold completeStart
  rw [countBanks_frame]

theorem keeps_validationEnds (s : State) : Keeps [] s (validationEnds s) := by
  unfold validationEnds
  split
  case h_1 => exact .refl _ _
  case h_2 q rest hcontrol =>
    split
    case h_2 => exact .refl _ _
    case h_1 bank supplied generation hq =>
      refine ((keeps_completeValidation ..).trans (keeps_shorterControl ?_)).trans (keeps_runQueue _ _)
      rw [completeValidation_control, hcontrol]
      simp

theorem keeps_startEnds (s : State) : Keeps [] s (startEnds s) := by
  unfold startEnds
  split
  case h_1 => exact .refl _ _
  case h_2 q rest hcontrol =>
    split
    case h_2 => exact .refl _ _
    case h_1 day hq =>
      refine (((keeps_completeStart ..).trans (keeps_answer ..)).trans (keeps_shorterControl ?_)).trans (keeps_runQueue _ _)
      rw [answer, respond, sendFeed_control, completeStart_control, hcontrol]
      simp

theorem restOver_resting {phase : WalkPhase} {expiry : Option Nat} (h : s.restOver phase expiry = true) :
    phase = .resting := by
  unfold State.restOver at h
  split at h
  · cases h
  · exact of_decide_eq_true (Bool.and_eq_true_iff.mp h).1

theorem exec_keeps {c : Instr} (hc : ∀ p, c ≠ .receiverLocked p) (s : State) : ∃ t, exec c s = .next t ∧ Keeps [] s t := by
  by_cases hr : ∃ tag r, requestOf c = some (tag, r)
  · obtain ⟨tag, r, h⟩ := hr
    exact ⟨_, exec_of_requestOf h s, keeps_controlFrame ..⟩
  have hgood (p : PortId) := keeps_receiveGood p s
  cases c
  case powerOnReset => exact ⟨_, rfl, keeps_powerOn s⟩
  case resetWarm tag => exact ⟨_, rfl, ((hgood _).trans (keeps_warmReset ..)).trans (keeps_settle _)⟩
  case resetCold tag => exact ⟨_, rfl, ((hgood _).trans (keeps_respond ..)).trans (keeps_powerOn _)⟩
  case feedLinkLoss cause => exact ⟨_, rfl, keeps_loseLink ..⟩
  case storeLinkLoss cause => exact ⟨_, rfl, keeps_loseLink ..⟩
  case feedLinkUp => exact ⟨_, rfl, keeps_raiseLink ..⟩
  case storeLinkUp => exact ⟨_, rfl, keeps_raiseLink ..⟩
  case linkKeep port => exact ⟨_, rfl, (hgood _).trans (keeps_flushReports _)⟩
  case linkKeepSend port => exact ⟨_, rfl, keeps_keepLink ..⟩
  case fileOpen => exact ⟨_, rfl, ((hgood _).trans (keeps_openFile ..)).trans (keeps_settle _)⟩
  case recordBlock lane blockNumber records =>
    by_cases h : records.length = 0 ∨ Config.blockRecordLimit < records.length
    · exact ⟨_, if_pos h, keeps_countMalformed ..⟩
    · refine ⟨_, if_neg h, ?_⟩
      have hne : records ≠ [] := fun hnil => h (.inl (by simp [hnil]))
      exact (((hgood _).trans (keeps_blockArrives _ _ hne _)).trans (keeps_startBuffer _)).trans (keeps_flushReports _)
  case fileClose => exact ⟨_, rfl, ((hgood _).trans (keeps_fileEnds ..)).trans (keeps_settle _)⟩
  case fileAbort => exact ⟨_, rfl, ((hgood _).trans (keeps_fileEnds ..)).trans (keeps_settle _)⟩
  case storeAck => exact ⟨_, rfl, ((hgood _).trans (keeps_ackArrives ..)).trans (keeps_settle _)⟩
  case readData tag last bytes =>
    by_cases h : Config.partLimit < bytes.length
    · exact ⟨_, if_pos h, keeps_countMalformed ..⟩
    · exact ⟨_, if_neg h, ((hgood _).trans (keeps_dataArrives ..)).trans (keeps_settle _)⟩
  case parseRecord => exact ⟨_, rfl, (keeps_parseNext s).trans (keeps_settle _)⟩
  case sealTimeout => exact ⟨_, rfl, (keeps_sealDeadline ..).trans (keeps_settle _)⟩
  case tagTimeout => exact ⟨_, rfl, (keeps_tagExpires ..).trans (keeps_settle _)⟩
  case fullWaitExpiry => exact ⟨_, rfl, (keeps_fullWaitEnds ..).trans (keeps_settle _)⟩
  case sweepRestExpiry =>
    by_cases h : s.restOver s.sweeper.phase s.sweeper.restExpiry
    · exact ⟨_, if_pos h, (keeps_sweepRestEnds (restOver_resting h)).trans (keeps_settle _)⟩
    · exact ⟨_, if_neg h, .refl _ _⟩
  case verifyRestExpiry =>
    by_cases h : s.restOver s.verifier.phase s.verifier.restExpiry
    · exact ⟨_, if_pos h, (keeps_verifyRestEnds (restOver_resting h)).trans (keeps_settle _)⟩
    · exact ⟨_, if_neg h, .refl _ _⟩
  case holdoffTimerExpiry =>
    by_cases h : s.holdoffOver
    · exact ⟨_, if_pos h, (keeps_holdoffExpires h).trans (keeps_flushReports _)⟩
    · exact ⟨_, if_neg h, .refl _ _⟩
  case validationComplete => exact ⟨_, rfl, (keeps_validationEnds s).trans (keeps_flushReports _)⟩
  case startComputationComplete => exact ⟨_, rfl, (keeps_startEnds s).trans (keeps_flushReports _)⟩
  case unknownControlRequest tag code arguments =>
    by_cases h : code = resetCode
    · exact ⟨_, if_pos h, ((hgood _).trans (keeps_respond ..)).trans (keeps_flushReports _)⟩
    · exact absurd ⟨tag, .unknown code arguments, if_neg h⟩ hr
  case frameCheckFailed => exact ⟨_, rfl, keeps_countCheckFailed ..⟩
  case malformedFrame => exact ⟨_, rfl, keeps_countMalformed ..⟩
  case receiverLocked p => exact absurd rfl (hc p)
  case receiverLockLost => exact ⟨_, rfl, keeps_loseLock ..⟩
  all_goals exact absurd ⟨_, _, rfl⟩ hr

/-- A receiver that locks changes its port alone, and sends nothing. -/
theorem keepsBut_receiverLocked (p : PortId) (s : State) :
    Keeps [.links] s (s.setPort p { s.port p with locked := true }) :=
  .of_same fun q hq => by cases q <;> cases p <;> simp_all [Part.Same, State.setPort]

theorem exec_keepsBut (c : Instr) (s : State) : ∃ t, exec c s = .next t ∧ Keeps [.links] s t := by
  by_cases hc : ∀ p, c ≠ .receiverLocked p
  · obtain ⟨t, ht, hkeeps⟩ := exec_keeps hc s
    exact ⟨t, ht, hkeeps.weaken⟩
  · obtain ⟨p, hp⟩ := not_forall.mp hc
    obtain rfl := not_not.mp hp
    exact ⟨_, rfl, keepsBut_receiverLocked p s⟩

/-- Every step keeps every invariant that reads the state inside the LSI. -/
theorem step_keepsBut (h : step s = .next t) : Keeps [.links] s t := by
  unfold step at h
  split at h
  · cases h
    exact .of_same fun p hp => by cases p <;> simp_all [Part.Same]
  case h_2 c rest _ =>
    have hrest : Keeps [.links] s { s with pending := rest } :=
      .of_same fun p hp => by cases p <;> simp_all [Part.Same]
    obtain ⟨t', ht', hkeeps⟩ := exec_keepsBut c { s with pending := rest }
    cases ht'.symm.trans h
    exact hrest.trans hkeeps

theorem step_part (h : step s = .next t) {p : Part} (hp : p ≠ .links) : p.Kept s t :=
  (step_keepsBut h).kept p (by simpa using hp)

end

/-- Settles O2. -/
theorem everyCommandCompletes : Obligations.EveryCommandCompletes := by
  unfold Obligations.EveryCommandCompletes
  intro c s
  by_cases hc : ∀ p, c ≠ .receiverLocked p
  · obtain ⟨t, ht, hkeeps⟩ := exec_keeps hc s
    obtain ⟨hpending, hfeed, hstore, -, -⟩ : LinksKept s t := hkeeps.part .links
    exact ⟨t, ht, hpending, hfeed, hstore⟩
  · obtain ⟨p, hp⟩ := not_forall.mp hc
    obtain rfl := not_not.mp hp
    cases p <;> exact ⟨_, rfl, rfl, List.prefix_rfl, List.prefix_rfl⟩

/-- Settles O3. -/
theorem nothingSentOnDownLinks : Obligations.NothingSentOnDownLinks := by
  unfold Obligations.NothingSentOnDownLinks
  intro c s t h
  by_cases hc : ∀ p, c ≠ .receiverLocked p
  · obtain ⟨t', ht', hkeeps⟩ := exec_keeps hc s
    cases ht'.symm.trans h
    obtain ⟨-, -, -, hfeed, hstore⟩ : LinksKept s t := hkeeps.part .links
    exact ⟨fun up locked => (hfeed up locked).2.2, fun up locked => (hstore up locked).2.2⟩
  · obtain ⟨p, hp⟩ := not_forall.mp hc
    obtain rfl := not_not.mp hp
    cases h
    cases p <;> exact ⟨fun _ _ => rfl, fun _ _ => rfl⟩

/-- Settles O32. -/
theorem boundsStayKept : Obligations.BoundsStayKept := by
  unfold Obligations.BoundsStayKept
  intro s t h
  exact ⟨step_part h (p := .reports) (by simp), step_part h (p := .params) (by simp),
    fun hlists hsuspended => step_part h (p := .lists) (by simp) ⟨hlists, hsuspended⟩⟩

/-- Settles O33. -/
theorem banksStaySound : Obligations.BanksStaySound := by
  unfold Obligations.BanksStaySound
  exact fun s t hs h => step_part h (p := .banks) (by simp) hs

/-- Settles O34. -/
theorem pausedSetStaysExact : Obligations.PausedSetStaysExact := by
  unfold Obligations.PausedSetStaysExact
  exact fun s t hpaused hwalkers h => step_part h (p := .walkers) (by simp) ⟨hpaused, hwalkers⟩

/-- Settles O35. -/
theorem catalogStaysSound : Obligations.CatalogStaysSound := by
  unfold Obligations.CatalogStaysSound
  exact fun s t hs h => step_part h (p := .catalog) (by simp) hs

/-- Settles O36. -/
theorem recordsStayConserved : Obligations.RecordsStayConserved := by
  unfold Obligations.RecordsStayConserved
  exact fun s t hs h => step_part h (p := .records) (by simp) hs

end Sys2Proof.Machine

namespace Sys2Proof.Machine

open Sys2Proof.Safety

section
variable {s t u : State}

/-! ### The arbiter ends (R125) -/

/-- The number of FREE tags. -/
def freeTags (s : State) : Nat := (Finset.univ.filter fun g : Fin 8 => (s.tag g).isNone = true).card

/-- Examinations that the sweeper can still make without a pause: to the end of its pass, and another pass. -/
def sweepLeft (w : Sweeper) : Nat :=
  if w.phase = .running then max 1 (Config.catalogEntries - w.cursor) + (if w.anotherPass then Config.catalogEntries else 0)
  else 0

/-- Examinations that the verifier can still make without a pause. -/
def verifyLeft (v : Verifier) : Nat := if v.phase = .running then max 1 (Config.catalogEntries - v.cursor) else 0

/-- A bound on the grants that can still be made at one event. -/
def grantsLeft (s : State) : Nat := freeTags s + sweepLeft s.sweeper + verifyLeft s.verifier

theorem grantsLeft_le (s : State) : grantsLeft s ≤ grantBound := by
  have htags : freeTags s ≤ 8 := Finset.card_le_univ _
  have hsweep : sweepLeft s.sweeper ≤ 2 * 262144 := by
    unfold sweepLeft
    split
    · have : max 1 (Config.catalogEntries - s.sweeper.cursor) ≤ 262144 := by
        have : Config.catalogEntries = 262144 := rfl
        omega
      split <;> simp only [Config.catalogEntries] at * <;> omega
    · omega
  have hverify : verifyLeft s.verifier ≤ 262144 := by
    unfold verifyLeft
    have : Config.catalogEntries = 262144 := rfl
    split <;> omega
  have : grantBound = 3 * 262144 + 16 := rfl
  unfold grantsLeft
  omega

theorem freeTag_free {g : Fin 8} (h : s.freeTag = some g) : s.tag g = none := by
  simpa using List.find?_some h

theorem freeTags_of_tags (h : t.tags = s.tags) : freeTags t = freeTags s := by
  have htag (g : Fin 8) : t.tag g = s.tag g := by simp only [State.tag, h]
  simp only [freeTags, htag]

theorem freeTags_grantTag {g : Fin 8} (h : s.tag g = none) (o : StoreOperation) (id edition : Nat)
    (ht : t.tags = (grantTag g o id edition s).tags) : freeTags t < freeTags s := by
  have htag (k : Fin 8) : t.tag k = (grantTag g o id edition s).tag k := by simp only [State.tag, ht]
  have hgranted (k : Fin 8) (hk : (t.tag k).isNone = true) : g ≠ k ∧ t.tag k = s.tag k := by
    have hset : (grantTag g o id edition s).tag k = (s.setTag g (some
      { operation := o, segmentId := id, edition, expiry := s.after s.params.storeTimeout })).tag k := rfl
    rw [htag, hset, State.tag_setTag] at hk ⊢
    by_cases heq : g = k
    · simp [heq] at hk
    · exact ⟨heq, if_neg heq⟩
  unfold freeTags
  refine Finset.card_lt_card ⟨fun k hk => ?_, fun hsub => ?_⟩
  · obtain ⟨-, hfree⟩ := Finset.mem_filter.mp hk
    exact Finset.mem_filter.mpr ⟨Finset.mem_univ k, (hgranted k hfree).2 ▸ hfree⟩
  · obtain ⟨-, hfree⟩ := Finset.mem_filter.mp (hsub (Finset.mem_filter.mpr ⟨Finset.mem_univ g, by rw [h]; rfl⟩))
    exact (hgranted g hfree).1 rfl

theorem sweepLeft_nextPass {w : Sweeper} (hrun : w.phase = .running ∨ w.phase = .resting) (paused : Bool) :
    sweepLeft (nextPass paused { w with cursor := 0 }) < max 1 (Config.catalogEntries - w.cursor)
      + (if w.anotherPass then Config.catalogEntries else 0) := by
  have hpos : 1 ≤ max 1 (Config.catalogEntries - w.cursor) := Nat.le_max_left ..
  have hN : Config.catalogEntries = 262144 := rfl
  unfold nextPass
  dsimp only
  cases hanother : w.anotherPass
  · simp [sweepLeft, Sweeper.enter]
  · cases paused
    · rcases hrun with hrun | hrun
      · simp [sweepLeft, hrun]
      · simp [sweepLeft, hrun]
    · simp [sweepLeft, Sweeper.enter]

/-- R137, R140: an examination brings the sweeper nearer the end of its pass. -/
theorem sweepLeft_advanceSweep {w : Sweeper} (hw : w.phase = .running) (hphase : s.sweeper.phase = .running ∨ s.sweeper.phase = .resting)
    (hcursor : s.sweeper.cursor = w.cursor) (hanother : s.sweeper.anotherPass = w.anotherPass) :
    sweepLeft (advanceSweep s).sweeper < sweepLeft w := by
  have hleft : sweepLeft w = max 1 (Config.catalogEntries - s.sweeper.cursor)
      + (if s.sweeper.anotherPass then Config.catalogEntries else 0) := by
    rw [hcursor, hanother, sweepLeft, if_pos hw]
  rw [hleft]
  unfold advanceSweep
  split
  case isTrue hmore =>
    unfold sweepLeft
    dsimp only
    split <;> omega
  case isFalse => 
    dsimp only
    rw [raiseSweepDone_sweeper]
    exact sweepLeft_nextPass hphase _

theorem verifyLeft_advanceVerify {v : Verifier} (hv : v.phase = .running) (hphase : s.verifier.phase = .running)
    (hcursor : s.verifier.cursor = v.cursor) : verifyLeft (advanceVerify s).verifier < verifyLeft v := by
  have hleft : verifyLeft v = max 1 (Config.catalogEntries - s.verifier.cursor) := by
    rw [hcursor, verifyLeft, if_pos hv]
  rw [hleft]
  unfold advanceVerify
  split
  case isTrue hmore =>
    simp only [verifyLeft, hphase, if_true]
    omega
  case isFalse =>
    dsimp only
    simp [verifyLeft, Verifier.enter]

theorem advanceSweep_tags (s : State) : (advanceSweep s).tags = s.tags := by
  unfold advanceSweep; split <;> simp [raiseSweepDone]

theorem advanceSweep_verifier (s : State) : (advanceSweep s).verifier = s.verifier := by
  unfold advanceSweep; split <;> simp [raiseSweepDone]

theorem advanceVerify_tags (s : State) : (advanceVerify s).tags = s.tags := by
  unfold advanceVerify; split <;> simp [raiseVerifyDone]

theorem advanceVerify_sweeper (s : State) : (advanceVerify s).sweeper = s.sweeper := by
  unfold advanceVerify; split <;> simp [raiseVerifyDone]

theorem verifierWaits_running (h : verifierWaits s = true) : s.verifier.phase = .running := by
  simp only [verifierWaits, Bool.and_eq_true, decide_eq_true_eq] at h
  exact h.1

theorem grantsLeft_sweepExamine {g : Fin 8} (hg : s.tag g = none) (hrun : s.sweeper.phase = .running) :
    grantsLeft (sweepExamine g s) < grantsLeft s := by
  unfold sweepExamine
  dsimp only
  generalize hcounted : ({ s with sweeper := { s.sweeper with
    counts := s.sweeper.counts.addAnswer (sweepTest s (s.entry s.sweeper.cursor)) } } : State) = counted
  have htags : counted.tags = s.tags := by rw [← hcounted]
  have hverifier : counted.verifier = s.verifier := by rw [← hcounted]
  have hphase : counted.sweeper.phase = .running := by rw [← hcounted]; exact hrun
  have hcursor : counted.sweeper.cursor = s.sweeper.cursor := by rw [← hcounted]
  have hanother : counted.sweeper.anotherPass = s.sweeper.anotherPass := by rw [← hcounted]
  have hfree : counted.tag g = none := by rw [State.tag, htags]; exact hg
  split
  case isFalse =>
    have hsweep := sweepLeft_advanceSweep hrun (.inl hphase) hcursor hanother
    have hfreeTags : freeTags (advanceSweep counted) = freeTags s :=
      freeTags_of_tags ((advanceSweep_tags counted).trans htags)
    unfold grantsLeft
    rw [hfreeTags, advanceSweep_verifier, hverifier]
    omega
  case isTrue =>
    have hdeleted : (grantDelete g s.sweeper.cursor counted).sweeper.cursor = counted.sweeper.cursor
        ∧ (grantDelete g s.sweeper.cursor counted).sweeper.anotherPass = counted.sweeper.anotherPass
        ∧ ((grantDelete g s.sweeper.cursor counted).sweeper.phase = .running
          ∨ (grantDelete g s.sweeper.cursor counted).sweeper.phase = .resting) := by
      unfold grantDelete
      dsimp only
      split
      · exact ⟨by rw [Sweeper.rest, sendStore_sweeper]; rfl, by rw [Sweeper.rest, sendStore_sweeper]; rfl, .inr rfl⟩
      · rw [sendStore_sweeper]; exact ⟨rfl, rfl, .inl hphase⟩
    obtain ⟨hcursor', hanother', hphase'⟩ := hdeleted
    have hsweep := sweepLeft_advanceSweep hrun hphase' (hcursor'.trans hcursor) (hanother'.trans hanother)
    have hgrant : (grantDelete g s.sweeper.cursor counted).tags
        = (grantTag g .delete s.sweeper.cursor (counted.entry s.sweeper.cursor).edition counted).tags := by
      unfold grantDelete
      dsimp only
      rw [sendStore_tags]; rfl
    have hfreeTags : freeTags (grantDelete g s.sweeper.cursor counted) < freeTags counted :=
      freeTags_grantTag hfree _ _ _ hgrant
    have hv : (grantDelete g s.sweeper.cursor counted).verifier = counted.verifier := by
      unfold grantDelete
      dsimp only
      rw [sendStore_verifier]; rfl
    unfold grantsLeft
    rw [freeTags_of_tags (advanceSweep_tags _), advanceSweep_verifier, hv, hverifier]
    rw [freeTags_of_tags htags] at hfreeTags
    omega

theorem grantsLeft_verifyExamine {g : Fin 8} (hg : s.tag g = none) (hrun : s.verifier.phase = .running) :
    grantsLeft (verifyExamine g s) < grantsLeft s := by
  unfold verifyExamine
  dsimp only
  generalize hcounted : s.mapVerifyCounts (fun c => c.addAnswer (verifyTest s.params.verifyScope (s.entry s.verifier.cursor)))
    = counted
  have htags : counted.tags = s.tags := by rw [← hcounted]; rfl
  have hsweeper : counted.sweeper = s.sweeper := by rw [← hcounted]; rfl
  have hphase : counted.verifier.phase = .running := by rw [← hcounted]; exact hrun
  have hcursor : counted.verifier.cursor = s.verifier.cursor := by rw [← hcounted]; rfl
  have hfree : counted.tag g = none := by rw [State.tag, htags]; exact hg
  split
  case isFalse =>
    have hverify := verifyLeft_advanceVerify hrun hphase hcursor
    have hfreeTags : freeTags (advanceVerify counted) = freeTags s :=
      freeTags_of_tags ((advanceVerify_tags counted).trans htags)
    unfold grantsLeft
    rw [hfreeTags, advanceVerify_sweeper, hsweeper]
    omega
  case isTrue =>
    have hread : (grantRead g s.verifier.cursor counted).verifier.cursor = counted.verifier.cursor
        ∧ (grantRead g s.verifier.cursor counted).verifier.phase = counted.verifier.phase := by
      unfold grantRead
      dsimp only
      rw [sendStore_verifier]; exact ⟨rfl, rfl⟩
    obtain ⟨hcursor', hphase'⟩ := hread
    have hverify := verifyLeft_advanceVerify hrun (hphase'.trans hphase) (hcursor'.trans hcursor)
    have hgrant : (grantRead g s.verifier.cursor counted).tags
        = (grantTag g .read s.verifier.cursor (counted.entry s.verifier.cursor).edition counted).tags := by
      unfold grantRead
      dsimp only
      rw [sendStore_tags]; rfl
    have hfreeTags : freeTags (grantRead g s.verifier.cursor counted) < freeTags counted :=
      freeTags_grantTag hfree _ _ _ hgrant
    have hw : (grantRead g s.verifier.cursor counted).sweeper = counted.sweeper := by
      unfold grantRead
      dsimp only
      rw [sendStore_sweeper]; rfl
    unfold grantsLeft
    rw [freeTags_of_tags (advanceVerify_tags _), advanceVerify_sweeper, hw, hsweeper]
    rw [freeTags_of_tags htags] at hfreeTags
    omega

theorem grantsLeft_sendWrite {g : Fin 8} (hg : s.tag g = none) (id : Nat) (rest : List Nat) :
    grantsLeft (sendWrite g id rest s) < grantsLeft s := by
  have hfreeTags : freeTags (sendWrite g id rest s) < freeTags s :=
    freeTags_grantTag hg .write id (s.entry id).edition (by unfold sendWrite; dsimp only; rw [sendStore_tags]; rfl)
  have hsweeper : (sendWrite g id rest s).sweeper = s.sweeper := by
    unfold sendWrite; dsimp only; rw [sendStore_sweeper]; rfl
  have hverifier : (sendWrite g id rest s).verifier = s.verifier := by
    unfold sendWrite; dsimp only; rw [sendStore_verifier]; rfl
  unfold grantsLeft
  rw [hsweeper, hverifier]
  omega

/-- Every grant lowers the bound on the grants to come. -/
theorem grantsLeft_grantOne (h : grantOne s = some t) : grantsLeft t < grantsLeft s := by
  obtain ⟨-, g, hg, ⟨id, rest, -, rfl⟩ | ⟨-, hwaits, -, rfl⟩ | ⟨-, hwaits, -, rfl⟩⟩ := grantOne_cases h
  · exact grantsLeft_sendWrite (freeTag_free hg) ..
  · exact grantsLeft_sweepExamine (freeTag_free hg) (sweeperWaits_running hwaits)
  · exact grantsLeft_verifyExamine (freeTag_free hg) (verifierWaits_running hwaits)

theorem grantsTaken_grantMany {n : Nat} (h : grantsLeft s ≤ n) : GrantsTaken (grantMany n s) := by
  induction n generalizing s with
  | zero =>
    cases hone : grantOne s with
    | none => exact hone
    | some t => have := grantsLeft_grantOne hone; omega
  | succ n ih =>
    cases hone : grantOne s with
    | none => rw [grantMany_of_none _ hone]; exact hone
    | some t =>
      have := grantsLeft_grantOne hone
      simp only [grantMany, hone]
      exact ih (by omega)

/-- R125: after the arbiter nothing more can be granted. -/
theorem grantsTaken_arbitrate (s : State) : GrantsTaken (arbitrate s) := grantsTaken_grantMany (grantsLeft_le s)

/-! ### What leaves nothing new to grant -/

/-- Whether a requester waits for a tag, and whether one can be granted. -/
structure AsksNoMore (s t : State) : Prop where
  up : t.store.up = true → s.store.up = true
  tags : t.tags = s.tags
  last : t.lastTag = s.lastTag
  queue : t.writeQueue = s.writeQueue
  sweeper : t.sweeper.phase = .running → t.sweeper.suspended = false →
    s.sweeper.phase = .running ∧ s.sweeper.suspended = false
  verifier : t.verifier.phase = .running → s.verifier.phase = .running

theorem AsksNoMore.trans (h : AsksNoMore s t) (k : AsksNoMore t u) : AsksNoMore s u where
  up hu := h.up (k.up hu)
  tags := k.tags.trans h.tags
  last := k.last.trans h.last
  queue := k.queue.trans h.queue
  sweeper hrun hsus := by
    obtain ⟨hrun', hsus'⟩ := k.sweeper hrun hsus
    exact h.sweeper hrun' hsus'
  verifier hrun := h.verifier (k.verifier hrun)

/-- `AsksNoMore.trans`, the later operation named first. -/
theorem AsksNoMore.after (k : AsksNoMore t u) (h : AsksNoMore s t) : AsksNoMore s u := h.trans k

theorem AsksNoMore.of_same (hstore : t.store.up = s.store.up) (htags : t.tags = s.tags) (hlast : t.lastTag = s.lastTag)
    (hqueue : t.writeQueue = s.writeQueue) (hsweeper : t.sweeper = s.sweeper) (hverifier : t.verifier = s.verifier) :
    AsksNoMore s t :=
  ⟨fun h => hstore ▸ h, htags, hlast, hqueue, fun h h' => ⟨hsweeper ▸ h, hsweeper ▸ h'⟩, fun h => hverifier ▸ h⟩

theorem AsksNoMore.refl (s : State) : AsksNoMore s s := .of_same rfl rfl rfl rfl rfl rfl

/-- What can be granted after, could be granted before. -/
theorem AsksNoMore.taken (h : AsksNoMore s t) (hs : GrantsTaken s) : GrantsTaken t := by
  cases ht : grantOne t with
  | none => exact ht
  | some x =>
    exfalso
    obtain ⟨hup, g, hg, hcases⟩ := grantOne_cases ht
    have hheld (o : StoreOperation) : t.tagsHeld o = s.tagsHeld o := by simp [State.tagsHeld, State.tag, h.tags]
    have hfree : s.freeTag = some g := by
      rw [← hg]; simp [State.freeTag, State.tag, h.tags, h.last]
    have hsweeper (hw : sweeperWaits t = true) : sweeperWaits s = true := by
      simp only [sweeperWaits, Bool.and_eq_true, decide_eq_true_eq, Bool.not_eq_true', hheld] at hw ⊢
      obtain ⟨⟨hrun, hsus⟩, hlt⟩ := hw
      exact ⟨h.sweeper hrun hsus, hlt⟩
    have hverifier (hv : verifierWaits t = true) : verifierWaits s = true := by
      simp only [verifierWaits, Bool.and_eq_true, decide_eq_true_eq, hheld] at hv ⊢
      exact ⟨h.verifier hv.1, hv.2⟩
    unfold GrantsTaken grantOne at hs
    rw [h.up hup, hfree, ← h.queue] at hs
    obtain ⟨id, rest, hq, -⟩ | ⟨hq, hw, -, -⟩ | ⟨hq, hw, -, -⟩ := hcases
    · simp [hq] at hs
    · cases hv : verifierWaits s <;> simp [hq, hsweeper hw, hv] at hs
    · cases hv : sweeperWaits s <;> simp [hq, hverifier hw, hv] at hs

end

end Sys2Proof.Machine

namespace Sys2Proof.Machine

open Sys2Proof.Safety

section
variable {s t : State}

/-! ### Sending, reporting and the ports -/

theorem asksNoMore_sendFeed (f : FeedFrame) (s : State) : AsksNoMore s (sendFeed f s) := by
  refine .of_same ?_ ?_ ?_ ?_ ?_ ?_ <;> simp

theorem asksNoMore_raise (k : ReportKind) (u : Option Nat) (a b c : Nat) (s : State) :
    AsksNoMore s (raise k u a b c s) := by
  refine .of_same ?_ ?_ ?_ ?_ ?_ ?_ <;> simp

theorem asksNoMore_flushReports (s : State) : AsksNoMore s (flushReports s) := by
  refine .of_same ?_ ?_ ?_ ?_ ?_ ?_ <;> simp

theorem asksNoMore_foldl {α : Type} {f : State → α → State} (h : ∀ x a, AsksNoMore x (f x a)) (as : List α) (s : State) :
    AsksNoMore s (as.foldl f s) := by
  induction as generalizing s with
  | nil => exact .refl s
  | cons a as ih => exact (h s a).trans (ih _)

theorem asksNoMore_setPort {p : PortId} {x : Port} (h : x.up = true → (s.port p).up = true) :
    AsksNoMore s (s.setPort p x) := by
  cases p
  case feed => exact .of_same rfl rfl rfl rfl rfl rfl
  case store => exact ⟨h, rfl, rfl, rfl, fun hrun hsus => ⟨hrun, hsus⟩, id⟩

theorem asksNoMore_sendPauses (s : State) : AsksNoMore s (sendPauses s) := by
  refine asksNoMore_foldl (fun x l => ?_) _ s
  unfold sendPauseOf
  split
  · exact asksNoMore_sendFeed ..
  · exact .refl x

/-- A frame on the Feed link asks for nothing more. -/
theorem asksNoMore_receiveFeed (s : State) : AsksNoMore s (receiveGood .feed s) := by
  have hcounted : AsksNoMore s (s.setPort .feed ((s.port .feed).afterGood s.runTime)) := .of_same rfl rfl rfl rfl rfl rfl
  unfold receiveGood
  dsimp only
  split
  · exact (hcounted.trans (asksNoMore_sendPauses _)).trans (asksNoMore_flushReports _)
  · exact hcounted

/-- R125, R132: a frame on the Store link brings it UP with the grants that then can be made. -/
theorem grantsTaken_receiveStore (h : GrantsTaken s) : GrantsTaken (receiveGood .store s) := by
  unfold receiveGood
  dsimp only
  split
  case isTrue => exact grantsTaken_arbitrate _
  case isFalse hno =>
    refine (asksNoMore_setPort fun hup => ?_).taken h
    simp only [Port.afterGood, Bool.or_eq_true] at hup
    rcases hup with hup | hlocked
    · exact hup
    · cases hs : (s.port .store).up
      · exact absurd (by simp [hs, hlocked]) hno
      · rfl

theorem grantsTaken_settle (s : State) : GrantsTaken (settle s) :=
  (asksNoMore_flushReports _).taken (grantsTaken_arbitrate s)

theorem grantsTaken_of_down (h : s.store.up = false) : GrantsTaken s := grantOne_of_down h

theorem grantsTaken_loseLink (cause : LossCause) (p : PortId) (h : GrantsTaken s) : GrantsTaken (loseLink cause p s) := by
  unfold loseLink
  dsimp only
  split
  · cases p
    case feed => exact grantsTaken_settle _
    case store => exact grantsTaken_of_down rfl
  · exact h

theorem grantsTaken_receiveGood (p : PortId) (h : GrantsTaken s) : GrantsTaken (receiveGood p s) := by
  cases p
  case feed => exact (asksNoMore_receiveFeed s).taken h
  case store => exact grantsTaken_receiveStore h

/-! ### Blocks and the parser -/

theorem asksNoMore_setLane (l : Fin 16) (x : Lane) (s : State) : AsksNoMore s (s.setLane l x) := .of_same rfl rfl rfl rfl rfl rfl

theorem asksNoMore_addToCurrentDay (switch : Nat) (a : Accumulator) (n : Nat) (s : State) :
    AsksNoMore s (addToCurrentDay switch a n s) := by
  unfold addToCurrentDay
  split
  · exact .refl s
  · rw [addToDay_frame]; exact .of_same rfl rfl rfl rfl rfl rfl

/-- R139, R168: the walkers that yield to ingest ask for less. -/
theorem asksNoMore_pauseLane (l : Fin 16) (s : State) : AsksNoMore s (pauseLane l s) := by
  have hpaused (x : State) := (asksNoMore_setLane l { x.lane l with paused := true } x).trans
    (asksNoMore_sendFeed (.lanePause l) _)
  unfold pauseLane
  dsimp only
  split
  · refine (hpaused s).trans ⟨id, rfl, rfl, rfl, fun hrun _ => ?_, fun hrun => ?_⟩
    · unfold Sweeper.yieldToIngest at hrun
      split at hrun <;> simp_all
    · unfold Verifier.yieldToIngest at hrun
      split at hrun <;> simp_all
  · exact hpaused s

theorem asksNoMore_strayBlock (l : Fin 16) (blockNumber n : Nat) (s : State) : AsksNoMore s (strayBlock l blockNumber n s) := by
  have hcounted : AsksNoMore s (countStray l s) := asksNoMore_setLane ..
  unfold strayBlock
  dsimp only
  split
  · exact hcounted
  · exact (hcounted.trans (asksNoMore_setLane ..)).trans (asksNoMore_raise ..)

theorem asksNoMore_blockArrives (l : Fin 16) (blockNumber : Nat) (records : List CallRecord) (s : State) :
    AsksNoMore s (blockArrives l blockNumber records s) := by
  unfold blockArrives
  split
  case h_2 => exact asksNoMore_strayBlock ..
  case h_1 =>
    split
    · exact asksNoMore_strayBlock ..
    · unfold takeBlock
      dsimp only
      split
      · unfold fillBuffer
        dsimp only
        split
        · exact asksNoMore_setLane ..
        · exact (asksNoMore_setLane ..).trans (asksNoMore_pauseLane ..)
      · unfold overrunBlock
        dsimp only
        split
        · exact (asksNoMore_setLane ..).trans (asksNoMore_addToCurrentDay ..)
        · exact ((asksNoMore_setLane ..).trans (asksNoMore_addToCurrentDay ..)).trans (asksNoMore_raise ..)

theorem asksNoMore_startBuffer (s : State) : AsksNoMore s (startBuffer s) := by
  unfold startBuffer
  split
  · split
    · exact .refl s
    · split
      · exact .refl s
      · exact .of_same rfl rfl rfl rfl rfl rfl
  iterate 2 exact .refl s

/-! ### Control requests -/

theorem asksNoMore_answer (tag : Nat) (r : Request) (code : ResponseCode) (s : State) : AsksNoMore s (answer tag r code s) :=
  asksNoMore_sendFeed ..

theorem asksNoMore_respond (tag code : Nat) (rc : ResponseCode) (results : Results) (s : State) :
    AsksNoMore s (respond tag code rc results s) := asksNoMore_sendFeed ..

theorem asksNoMore_loadEntries (entries : List LoadEntry) (s : State) : AsksNoMore s (loadEntries entries s) :=
  asksNoMore_foldl (f := fun x (e : LoadEntry) => x.setEntry e.segmentId (loadedEntry e))
    (fun _ _ => .of_same rfl rfl rfl rfl rfl rfl) entries s

theorem asksNoMore_takeCatalogLoad (tag : Nat) (entries : List LoadEntry) (s : State) :
    AsksNoMore s (takeCatalogLoad tag entries s) := by
  unfold takeCatalogLoad
  dsimp only
  split
  · exact asksNoMore_respond ..
  · split
    · exact asksNoMore_respond ..
    · exact (asksNoMore_loadEntries ..).trans (asksNoMore_respond ..)

theorem asksNoMore_takeTableBegin (tag bank force : Nat) (s : State) : AsksNoMore s (takeTableBegin tag bank force s) := by
  unfold takeTableBegin
  dsimp only
  split
  · exact asksNoMore_answer ..
  · exact (asksNoMore_answer ..).after (.of_same rfl rfl rfl rfl rfl rfl)

theorem asksNoMore_takeTableWrite (tag bank : Nat) (startIndex : Option Nat) (entries : TableEntries) (s : State) :
    AsksNoMore s (takeTableWrite tag bank startIndex entries s) := by
  unfold takeTableWrite
  dsimp only
  split
  · exact asksNoMore_respond ..
  · split
    · exact asksNoMore_respond ..
    · split
      · exact asksNoMore_respond ..
      · exact (asksNoMore_respond ..).after (.of_same rfl rfl rfl rfl rfl rfl)

/-- R54: with no bank ACTIVE none is superseded, so nothing is sealed. -/
theorem asksNoMore_selectBank {b : Fin 4} (how : SelectedBy) (h : s.activeBank = none) :
    AsksNoMore s (selectBank b how s) := by
  unfold selectBank
  dsimp only
  rw [h]
  dsimp only
  exact (asksNoMore_raise ..).after (.of_same rfl rfl rfl rfl rfl rfl)

theorem asksNoMore_takeTableSelect (tag bank mode : Nat) (s : State) :
    AsksNoMore s (takeTableSelect tag bank mode s) := by
  unfold takeTableSelect
  dsimp only
  split
  · exact (asksNoMore_answer ..).after (.of_same rfl rfl rfl rfl rfl rfl)
  iterate 3 exact asksNoMore_answer ..
  refine AsksNoMore.trans ?_ (asksNoMore_answer ..)
  split
  case isTrue hnone => exact asksNoMore_selectBank _ (Option.isNone_iff_eq_none.mp hnone)
  case isFalse => exact .of_same rfl rfl rfl rfl rfl rfl

theorem asksNoMore_takeTableCancel (tag : Nat) (s : State) : AsksNoMore s (takeTableCancel tag s) := by
  unfold takeTableCancel
  split
  · exact asksNoMore_answer ..
  · exact (asksNoMore_answer ..).after (.of_same rfl rfl rfl rfl rfl rfl)

theorem asksNoMore_closeDayTable (closed : Nat) (s : State) : AsksNoMore s (closeDayTable closed s) := by
  have hdays (ds : List DayRecord) (x : State) : AsksNoMore x { x with days := ds } := .of_same rfl rfl rfl rfl rfl rfl
  have hclosed : AsksNoMore s (closeDay closed s) := by
    unfold closeDay
    split
    · exact .refl s
    · exact (asksNoMore_raise ..).after (.of_same rfl rfl rfl rfl rfl rfl)
  have hreadmit (x : State) (day : Nat) : AsksNoMore x (readmitDay x day) := by
    unfold readmitDay
    split
    · exact .refl x
    · exact hdays ..
  unfold closeDayTable
  dsimp only
  split
  · exact .refl s
  · have hretired (x : State) (first : Nat) : AsksNoMore x (retireDays first x) :=
      (asksNoMore_foldl (fun _ _ => asksNoMore_raise ..) _ x).trans (hdays ..)
    exact ((hclosed.trans (hdays ..)).trans (hretired ..)).trans (asksNoMore_foldl hreadmit _ _)

theorem grantsTaken_closeParts (closed : Nat) (s : State) : GrantsTaken (closeParts closed s) := by
  unfold closeParts
  dsimp only
  generalize autoSweep _ = swept
  have h := grantsTaken_arbitrate swept
  generalize arbitrate swept = granted at *
  exact (asksNoMore_closeDayTable closed granted).taken h

theorem grantsTaken_takeDayClose (tag : Nat) (h : GrantsTaken s) : GrantsTaken (takeDayClose tag s) := by
  unfold takeDayClose
  split
  · exact (asksNoMore_answer ..).taken h
  · split
    · exact grantsTaken_closeParts _ _
    · exact (asksNoMore_answer ..).taken h

theorem asksNoMore_reportMissed (h : Fin 64) (sel : HoldSelector) (s : State) : AsksNoMore s (reportMissed h sel s) := by
  refine asksNoMore_foldl (fun x g => ?_) _ s
  unfold missOn
  split
  · exact .refl x
  · dsimp only
    split
    · exact asksNoMore_raise ..
    · exact .refl x

theorem asksNoMore_takeHoldAdd (tag switchWord firstDay lastDay classSet : Nat) (s : State) :
    AsksNoMore s (takeHoldAdd tag switchWord firstDay lastDay classSet s) := by
  unfold takeHoldAdd
  dsimp only
  split
  · exact asksNoMore_respond ..
  · split
    · exact asksNoMore_respond ..
    case h_2 h _ =>
      have hset (x : Option Hold) : AsksNoMore s (s.setHold h x) := .of_same rfl rfl rfl rfl rfl rfl
      exact ((hset _).trans (asksNoMore_respond ..)).trans (asksNoMore_reportMissed h _ _)

theorem asksNoMore_stopSweep (s : State) : AsksNoMore s (stopSweep s) := by
  unfold stopSweep
  split
  · exact ⟨id, rfl, rfl, rfl, fun hrun => by simp at hrun, id⟩
  · exact .refl s

theorem asksNoMore_stopVerify (s : State) : AsksNoMore s (stopVerify s) := by
  unfold stopVerify
  split
  · exact ⟨id, rfl, rfl, rfl, fun hrun hsus => ⟨hrun, hsus⟩, fun hrun => by simp at hrun⟩
  · exact .refl s

theorem asksNoMore_setParam (p : Param) (v : Nat) (s : State) : AsksNoMore s (setParam p v s) := by
  cases p <;> exact .of_same rfl rfl rfl rfl rfl rfl

/-- R170: a request carried out leaves no grant unmade. -/
theorem grantsTaken_carryOut (tag : Nat) (r : Request) (h : GrantsTaken s) : GrantsTaken (carryOut tag r s) := by
  have hanswer (code : ResponseCode) : GrantsTaken (answer tag r code s) := (asksNoMore_answer ..).taken h
  cases r <;> unfold carryOut <;> dsimp only
  case start day =>
    split
    · exact hanswer _
    · exact h
  case catalogLoad => exact (asksNoMore_takeCatalogLoad ..).taken h
  case tableBegin => exact (asksNoMore_takeTableBegin ..).taken h
  case tableWrite => exact (asksNoMore_takeTableWrite ..).taken h
  case tableEnd =>
    split
    · exact hanswer _
    · exact h
  case tableSelect => exact (asksNoMore_takeTableSelect ..).taken h
  case tableCancel => exact (asksNoMore_takeTableCancel ..).taken h
  case dayClose => exact grantsTaken_takeDayClose tag h
  case holdAdd => exact (asksNoMore_takeHoldAdd ..).taken h
  case holdRelease holdId =>
    unfold takeHoldRelease
    dsimp only
    split
    · split
      · exact hanswer _
      · exact grantsTaken_arbitrate _
    · exact hanswer _
  case sweepStart => exact grantsTaken_arbitrate _
  case sweepStop => exact ((asksNoMore_stopSweep s).trans (asksNoMore_answer ..)).taken h
  case verifyStart => exact grantsTaken_arbitrate _
  case verifyStop => exact ((asksNoMore_stopVerify s).trans (asksNoMore_answer ..)).taken h
  case segmentRetry segmentId edition =>
    unfold takeSegmentRetry
    dsimp only
    split
    iterate 3 exact hanswer _
    · exact grantsTaken_arbitrate _
    · exact AsksNoMore.taken (s := s) ((asksNoMore_answer ..).after (.of_same rfl rfl rfl rfl rfl rfl)) h
  case segmentDiscard segmentId edition =>
    unfold takeSegmentDiscard
    dsimp only
    split
    iterate 4 exact hanswer _
    · exact grantsTaken_arbitrate _
  case set => exact ((asksNoMore_setParam ..).trans (asksNoMore_respond ..)).taken h
  case query => exact (asksNoMore_respond ..).taken h
  case unknown => exact hanswer _

theorem grantsTaken_takeRequest (q : QueuedRequest) (h : GrantsTaken s) : GrantsTaken (takeRequest q s) := by
  unfold takeRequest
  split
  · exact (asksNoMore_answer ..).taken h
  · split
    · exact (asksNoMore_answer ..).taken h
    · exact grantsTaken_carryOut _ _ h

theorem asksNoMore_control (control : List QueuedRequest) (s : State) : AsksNoMore s { s with control } := .of_same rfl rfl rfl rfl rfl rfl

theorem grantsTaken_runQueue (n : Nat) (h : GrantsTaken s) : GrantsTaken (runQueue n s) := by
  induction n generalizing s with
  | zero => exact h
  | succ n ih =>
    unfold runQueue
    split
    · exact h
    · split
      · exact h
      · exact ih ((asksNoMore_control ..).taken (grantsTaken_takeRequest _ h))

theorem grantsTaken_controlFrame (tag : Nat) (r : Request) (h : GrantsTaken s) : GrantsTaken (controlFrame tag r s) := by
  refine (asksNoMore_flushReports _).taken ?_
  have hgood := (asksNoMore_receiveFeed s).taken h
  generalize receiveGood .feed s = heard at hgood
  unfold controlArrives
  split
  · dsimp only
    split
    · exact grantsTaken_runQueue _ ((asksNoMore_control ..).taken hgood)
    · exact (asksNoMore_control ..).taken hgood
  · exact (asksNoMore_respond ..).taken hgood

theorem asksNoMore_completeStart (day : Nat) (s : State) : AsksNoMore s (completeStart day s) := by
  unfold completeStart
  rw [countBanks_frame]
  exact .of_same rfl rfl rfl rfl rfl rfl

theorem asksNoMore_completeValidation (tag bank supplied generation : Nat) (s : State) :
    AsksNoMore s (completeValidation tag bank supplied generation s) := by
  unfold completeValidation
  dsimp only
  split
  · exact asksNoMore_respond ..
  · exact (asksNoMore_respond ..).after (.of_same rfl rfl rfl rfl rfl rfl)

theorem grantsTaken_validationEnds (h : GrantsTaken s) : GrantsTaken (validationEnds s) := by
  unfold validationEnds
  split
  · exact h
  · split
    · exact grantsTaken_runQueue _ (((asksNoMore_completeValidation ..).trans (asksNoMore_control ..)).taken h)
    · exact h

theorem grantsTaken_startEnds (h : GrantsTaken s) : GrantsTaken (startEnds s) := by
  unfold startEnds
  split
  · exact h
  · split
    · exact grantsTaken_runQueue _
        ((((asksNoMore_completeStart ..).trans (asksNoMore_answer ..)).trans (asksNoMore_control ..)).taken h)
    · exact h

/-! ### Every command -/

theorem exec_grantsTaken {c : Instr} (hexec : exec c s = .next t) (h : GrantsTaken s) : GrantsTaken t := by
  by_cases hr : ∃ tag r, requestOf c = some (tag, r)
  · obtain ⟨tag, r, hc⟩ := hr
    cases (exec_of_requestOf hc s).symm.trans hexec
    exact grantsTaken_controlFrame tag r h
  have hflush {x : State} (hx : GrantsTaken x) : GrantsTaken (flushReports x) := (asksNoMore_flushReports x).taken hx
  have hmalformed (p : PortId) : GrantsTaken (countMalformed p s) := by
    refine (asksNoMore_setPort ?_).taken h
    exact id
  cases c
  case powerOnReset => cases hexec; exact grantsTaken_of_down rfl
  case resetWarm tag =>
    have ht : settle (warmReset tag (receiveGood .feed s)) = t := Host.Outcome.next.inj hexec
    exact ht ▸ grantsTaken_settle _
  case resetCold tag => cases hexec; exact grantsTaken_of_down rfl
  case feedLinkLoss cause => cases hexec; exact grantsTaken_loseLink _ _ h
  case storeLinkLoss cause => cases hexec; exact grantsTaken_loseLink _ _ h
  case feedLinkUp | storeLinkUp =>
    cases hexec
    unfold raiseLink
    dsimp only
    split
    · exact hflush (grantsTaken_receiveGood _ h)
    · exact h
  case linkKeep port => cases hexec; exact hflush (grantsTaken_receiveGood _ h)
  case linkKeepSend port =>
    cases hexec
    unfold keepLink
    split
    · cases port
      · exact AsksNoMore.taken (s := s) (.of_same rfl rfl rfl rfl rfl rfl) h
      · exact AsksNoMore.taken (s := s) (.of_same rfl rfl rfl rfl rfl rfl) h
    · exact h
  case fileOpen => cases hexec; exact grantsTaken_settle _
  case recordBlock lane blockNumber records =>
    by_cases hbad : records.length = 0 ∨ Config.blockRecordLimit < records.length
    · cases (if_pos hbad).symm.trans hexec
      exact hmalformed .feed
    · cases (if_neg hbad).symm.trans hexec
      exact hflush ((((asksNoMore_receiveFeed s).trans (asksNoMore_blockArrives ..)).trans (asksNoMore_startBuffer _)).taken h)
  case fileClose => cases hexec; exact grantsTaken_settle _
  case fileAbort => cases hexec; exact grantsTaken_settle _
  case storeAck => cases hexec; exact grantsTaken_settle _
  case readData tag last bytes =>
    by_cases hbad : Config.partLimit < bytes.length
    · cases (if_pos hbad).symm.trans hexec
      exact hmalformed .store
    · cases (if_neg hbad).symm.trans hexec
      exact grantsTaken_settle _
  case parseRecord | sealTimeout | tagTimeout | fullWaitExpiry => cases hexec; exact grantsTaken_settle _
  case sweepRestExpiry =>
    by_cases hover : s.restOver s.sweeper.phase s.sweeper.restExpiry
    · cases (if_pos hover).symm.trans hexec; exact grantsTaken_settle _
    · cases (if_neg hover).symm.trans hexec; exact h
  case verifyRestExpiry =>
    by_cases hover : s.restOver s.verifier.phase s.verifier.restExpiry
    · cases (if_pos hover).symm.trans hexec; exact grantsTaken_settle _
    · cases (if_neg hover).symm.trans hexec; exact h
  case holdoffTimerExpiry =>
    by_cases hover : s.holdoffOver
    · cases (if_pos hover).symm.trans hexec
      exact hflush (AsksNoMore.taken (s := s) (.of_same rfl rfl rfl rfl rfl rfl) h)
    · cases (if_neg hover).symm.trans hexec; exact h
  case validationComplete => cases hexec; exact hflush (grantsTaken_validationEnds h)
  case startComputationComplete => cases hexec; exact hflush (grantsTaken_startEnds h)
  case unknownControlRequest tag code arguments =>
    by_cases hreset : code = resetCode
    · cases (if_pos hreset).symm.trans hexec
      exact hflush (((asksNoMore_receiveFeed s).trans (asksNoMore_respond ..)).taken h)
    · exact absurd ⟨tag, .unknown code arguments, if_neg hreset⟩ hr
  case frameCheckFailed p => 
    cases hexec
    refine (asksNoMore_setPort ?_).taken h
    exact id
  case malformedFrame p => cases hexec; exact hmalformed p
  case receiverLocked p => 
    cases hexec
    refine (asksNoMore_setPort ?_).taken h
    exact id
  case receiverLockLost p =>
    cases hexec
    unfold loseLock
    dsimp only
    split
    · exact grantsTaken_loseLink _ _ h
    · refine (asksNoMore_setPort ?_).taken h
      exact id
  all_goals exact absurd ⟨_, _, rfl⟩ hr

end

/-- Settles O37. -/
theorem grantsStayTaken : Obligations.GrantsStayTaken := by
  unfold Obligations.GrantsStayTaken
  intro s t hs h
  unfold step at h
  split at h
  · cases h
    exact AsksNoMore.taken (s := s) (.of_same rfl rfl rfl rfl rfl rfl) hs
  case h_2 c rest _ =>
    exact exec_grantsTaken h (AsksNoMore.taken (s := s) (.of_same rfl rfl rfl rfl rfl rfl) hs)

end Sys2Proof.Machine

namespace Sys2Proof.Machine

open Sys2Proof.Safety

/-! ### What never reads the control queue

`f (s.queueing cs) = (f s).queueing cs`: the operation neither reads nor changes the control queue. A request taken at
its arrival therefore does what it does on the queue that it leaves. -/

section
variable (s : State) (cs : List QueuedRequest)

@[simp] theorem State.queueing_pending : (s.queueing cs).pending = s.pending := rfl
@[simp] theorem State.queueing_feedTx : (s.queueing cs).feedTx = s.feedTx := rfl
@[simp] theorem State.queueing_storeTx : (s.queueing cs).storeTx = s.storeTx := rfl
@[simp] theorem State.queueing_device : (s.queueing cs).device = s.device := rfl
@[simp] theorem State.queueing_runTime : (s.queueing cs).runTime = s.runTime := rfl
@[simp] theorem State.queueing_params : (s.queueing cs).params = s.params := rfl
@[simp] theorem State.queueing_reports : (s.queueing cs).reports = s.reports := rfl
@[simp] theorem State.queueing_feed : (s.queueing cs).feed = s.feed := rfl
@[simp] theorem State.queueing_store : (s.queueing cs).store = s.store := rfl
@[simp] theorem State.queueing_clock : (s.queueing cs).clock = s.clock := rfl
@[simp] theorem State.queueing_lanes : (s.queueing cs).lanes = s.lanes := rfl
@[simp] theorem State.queueing_recent : (s.queueing cs).recent = s.recent := rfl
@[simp] theorem State.queueing_parser : (s.queueing cs).parser = s.parser := rfl
@[simp] theorem State.queueing_banks : (s.queueing cs).banks = s.banks := rfl
@[simp] theorem State.queueing_selection : (s.queueing cs).selection = s.selection := rfl
@[simp] theorem State.queueing_loadCounter : (s.queueing cs).loadCounter = s.loadCounter := rfl
@[simp] theorem State.queueing_filter : (s.queueing cs).filter = s.filter := rfl
@[simp] theorem State.queueing_openSegments : (s.queueing cs).openSegments = s.openSegments := rfl
@[simp] theorem State.queueing_buffers : (s.queueing cs).buffers = s.buffers := rfl
@[simp] theorem State.queueing_stall : (s.queueing cs).stall = s.stall := rfl
@[simp] theorem State.queueing_catalogFull : (s.queueing cs).catalogFull = s.catalogFull := rfl
@[simp] theorem State.queueing_storeFull : (s.queueing cs).storeFull = s.storeFull := rfl
@[simp] theorem State.queueing_writeQueue : (s.queueing cs).writeQueue = s.writeQueue := rfl
@[simp] theorem State.queueing_fullWaits : (s.queueing cs).fullWaits = s.fullWaits := rfl
@[simp] theorem State.queueing_catalog : (s.queueing cs).catalog = s.catalog := rfl
@[simp] theorem State.queueing_stateCounts : (s.queueing cs).stateCounts = s.stateCounts := rfl
@[simp] theorem State.queueing_freeIds : (s.queueing cs).freeIds = s.freeIds := rfl
@[simp] theorem State.queueing_tags : (s.queueing cs).tags = s.tags := rfl
@[simp] theorem State.queueing_lastTag : (s.queueing cs).lastTag = s.lastTag := rfl
@[simp] theorem State.queueing_turn : (s.queueing cs).turn = s.turn := rfl
@[simp] theorem State.queueing_strayFrames : (s.queueing cs).strayFrames = s.strayFrames := rfl
@[simp] theorem State.queueing_holds : (s.queueing cs).holds = s.holds := rfl
@[simp] theorem State.queueing_pendingHolds : (s.queueing cs).pendingHolds = s.pendingHolds := rfl
@[simp] theorem State.queueing_sweeper : (s.queueing cs).sweeper = s.sweeper := rfl
@[simp] theorem State.queueing_verifier : (s.queueing cs).verifier = s.verifier := rfl
@[simp] theorem State.queueing_days : (s.queueing cs).days = s.days := rfl
@[simp] theorem State.queueing_unplaced : (s.queueing cs).unplaced = s.unplaced := rfl
@[simp] theorem State.queueing_lane (l : Fin 16) : (s.queueing cs).lane l = s.lane l := rfl
@[simp] theorem State.queueing_bank (b : Fin 4) : (s.queueing cs).bank b = s.bank b := rfl
@[simp] theorem State.queueing_buffer (i : Fin 32) : (s.queueing cs).buffer i = s.buffer i := rfl
@[simp] theorem State.queueing_tag (g : Fin 8) : (s.queueing cs).tag g = s.tag g := rfl
@[simp] theorem State.queueing_hold (h : Fin 64) : (s.queueing cs).hold h = s.hold h := rfl
@[simp] theorem State.queueing_port (p : PortId) : (s.queueing cs).port p = s.port p := by cases p <;> rfl
@[simp] theorem State.queueing_entry (id : Nat) : (s.queueing cs).entry id = s.entry id := rfl
@[simp] theorem State.queueing_activeBank  : (s.queueing cs).activeBank = s.activeBank := rfl
@[simp] theorem State.queueing_anyPaused  : (s.queueing cs).anyPaused = s.anyPaused := rfl
@[simp] theorem State.queueing_freeBuffer  : (s.queueing cs).freeBuffer = s.freeBuffer := rfl
@[simp] theorem State.queueing_bufferCount (st : BufferState) : (s.queueing cs).bufferCount st = s.bufferCount st := rfl
@[simp] theorem State.queueing_bufferOf (id : Nat) : (s.queueing cs).bufferOf id = s.bufferOf id := rfl
@[simp] theorem State.queueing_stallNow  : (s.queueing cs).stallNow = s.stallNow := rfl
@[simp] theorem State.queueing_openSegment (k : SegmentKey) : (s.queueing cs).openSegment k = s.openSegment k := rfl
@[simp] theorem State.queueing_dayRecord (day : Nat) : (s.queueing cs).dayRecord day = s.dayRecord day := rfl
@[simp] theorem State.queueing_after (ms : Nat) : (s.queueing cs).after ms = s.after ms := rfl
@[simp] theorem State.queueing_reached (x : Nat) : (s.queueing cs).reached x = s.reached x := rfl
@[simp] theorem State.queueing_freeTag  : (s.queueing cs).freeTag = s.freeTag := rfl
@[simp] theorem State.queueing_tagsHeld (o : StoreOperation) : (s.queueing cs).tagsHeld o = s.tagsHeld o := rfl
@[simp] theorem State.queueing_isHeld (e : CatalogEntry) : (s.queueing cs).isHeld e = s.isHeld e := rfl
@[simp] theorem State.queueing_freeHold  : (s.queueing cs).freeHold = s.freeHold := rfl
@[simp] theorem State.queueing_imageOf (id : Nat) : (s.queueing cs).imageOf id = s.imageOf id := rfl
@[simp] theorem State.queueing_setLane (l : Fin 16) (x : Lane) :
    (s.queueing cs).setLane l x = (s.setLane l x).queueing cs := rfl
@[simp] theorem State.queueing_setBank (b : Fin 4) (x : Bank) :
    (s.queueing cs).setBank b x = (s.setBank b x).queueing cs := rfl
@[simp] theorem State.queueing_setBuffer (i : Fin 32) (x : SegmentBuffer) :
    (s.queueing cs).setBuffer i x = (s.setBuffer i x).queueing cs := rfl
@[simp] theorem State.queueing_setTag (g : Fin 8) (x : Option Outstanding) :
    (s.queueing cs).setTag g x = (s.setTag g x).queueing cs := rfl
@[simp] theorem State.queueing_setHold (h : Fin 64) (x : Option Hold) :
    (s.queueing cs).setHold h x = (s.setHold h x).queueing cs := rfl
@[simp] theorem State.queueing_setEntry (id : Nat) (e : CatalogEntry) :
    (s.queueing cs).setEntry id e = (s.setEntry id e).queueing cs := rfl
@[simp] theorem State.queueing_moveEntry (id : Nat) (st : EntryState) :
    (s.queueing cs).moveEntry id st = (s.moveEntry id st).queueing cs := rfl
@[simp] theorem State.queueing_setDayRecord (d : DayRecord) :
    (s.queueing cs).setDayRecord d = (s.setDayRecord d).queueing cs := rfl
@[simp] theorem State.queueing_mapContext (l : Fin 16) (f : FileContext → FileContext) :
    (s.queueing cs).mapContext l f = (s.mapContext l f).queueing cs := rfl
@[simp] theorem State.queueing_mapVerifyCounts (f : VerifyCounts → VerifyCounts) :
    (s.queueing cs).mapVerifyCounts f = (s.mapVerifyCounts f).queueing cs := rfl
@[simp] theorem State.queueing_idleLane (l : Fin 16) :
    (s.queueing cs).idleLane l = (s.idleLane l).queueing cs := rfl
end

/-! ### Sending and reporting -/

theorem sendFeed_queueing (f : FeedFrame) (cs : List QueuedRequest) (s : State) :
    sendFeed f (s.queueing cs) = (sendFeed f s).queueing cs := by
  unfold sendFeed State.queueing
  dsimp only
  split <;> rfl

theorem sendStore_queueing (fs : List StoreFrame) (cs : List QueuedRequest) (s : State) :
    sendStore fs (s.queueing cs) = (sendStore fs s).queueing cs := by
  unfold sendStore State.queueing
  dsimp only
  split <;> rfl

theorem raiseOn_queueing (d : Option Nat) (k : ReportKind) (u : Option Nat) (a b c : Nat) (cs : List QueuedRequest)
    (s : State) : raiseOn d k u a b c (s.queueing cs) = (raiseOn d k u a b c s).queueing cs := by
  unfold raiseOn State.queueing
  dsimp only
  split <;> rfl

theorem raise_queueing (k : ReportKind) (u : Option Nat) (a b c : Nat) (cs : List QueuedRequest) (s : State) :
    raise k u a b c (s.queueing cs) = (raise k u a b c s).queueing cs := raiseOn_queueing _ k u a b c cs s

theorem foldl_queueing {α : Type} {f : State → α → State} (h : ∀ cs x a, f (x.queueing cs) a = (f x a).queueing cs)
    (as : List α) (cs : List QueuedRequest) (s : State) :
    as.foldl f (s.queueing cs) = (as.foldl f s).queueing cs := by
  induction as generalizing s with
  | nil => rfl
  | cons a as ih => rw [List.foldl_cons, h, ih, List.foldl_cons]

/-! ### The arbiter -/

theorem sendWrite_queueing (g : Fin 8) (id : Nat) (rest : List Nat) (cs : List QueuedRequest) (s : State) :
    sendWrite g id rest (s.queueing cs) = (sendWrite g id rest s).queueing cs :=
  sendStore_queueing _ cs (grantTag g .write id (s.entry id).edition { s with writeQueue := rest })

theorem grantDelete_queueing (g : Fin 8) (id : Nat) (cs : List QueuedRequest) (s : State) :
    grantDelete g id (s.queueing cs) = (grantDelete g id s).queueing cs := by
  have hsent := sendStore_queueing [.segmentDelete g id (s.entry id).edition] cs
    (grantTag g .delete id (s.entry id).edition (s.moveEntry id .deleting))
  unfold grantDelete
  dsimp only
  rw [show grantTag g .delete id ((s.queueing cs).entry id).edition ((s.queueing cs).moveEntry id .deleting)
    = (grantTag g .delete id (s.entry id).edition (s.moveEntry id .deleting)).queueing cs from rfl,
    State.queueing_entry, hsent]
  rfl

theorem advanceSweep_queueing (cs : List QueuedRequest) (s : State) :
    advanceSweep (s.queueing cs) = (advanceSweep s).queueing cs := by
  have hdone : raiseSweepDone ({ s.queueing cs with sweeper := { s.sweeper with cursor := 0 } })
      = (raiseSweepDone { s with sweeper := { s.sweeper with cursor := 0 } }).queueing cs :=
    raise_queueing _ _ _ _ _ cs { s with sweeper := { s.sweeper with cursor := 0 } }
  unfold advanceSweep
  rw [State.queueing_sweeper]
  split
  · rfl
  · dsimp only
    rw [hdone]
    rfl

theorem sweepExamine_queueing (g : Fin 8) (cs : List QueuedRequest) (s : State) :
    sweepExamine g (s.queueing cs) = (sweepExamine g s).queueing cs := by
  have hanswer : sweepTest (s.queueing cs) ((s.queueing cs).entry (s.queueing cs).sweeper.cursor)
      = sweepTest s (s.entry s.sweeper.cursor) := rfl
  unfold sweepExamine
  dsimp only
  rw [hanswer, ← advanceSweep_queueing]
  split
  · exact congrArg advanceSweep (grantDelete_queueing g s.sweeper.cursor cs { s with sweeper := { s.sweeper with
      counts := s.sweeper.counts.addAnswer (sweepTest s (s.entry s.sweeper.cursor)) } })
  · rfl

theorem grantRead_queueing (g : Fin 8) (id : Nat) (cs : List QueuedRequest) (s : State) :
    grantRead g id (s.queueing cs) = (grantRead g id s).queueing cs := by
  have hsent := sendStore_queueing [.segmentRead g id (s.entry id).edition] cs
    (grantTag g .read id (s.entry id).edition (s.moveEntry id .verifying))
  unfold grantRead
  dsimp only
  rw [show grantTag g .read id ((s.queueing cs).entry id).edition ((s.queueing cs).moveEntry id .verifying)
    = (grantTag g .read id (s.entry id).edition (s.moveEntry id .verifying)).queueing cs from rfl,
    State.queueing_entry, hsent]
  rfl

theorem advanceVerify_queueing (cs : List QueuedRequest) (s : State) :
    advanceVerify (s.queueing cs) = (advanceVerify s).queueing cs := by
  have hdone : raiseVerifyDone ({ s.queueing cs with verifier := { s.verifier with cursor := 0 } })
      = (raiseVerifyDone { s with verifier := { s.verifier with cursor := 0 } }).queueing cs :=
    raise_queueing _ _ _ _ _ cs { s with verifier := { s.verifier with cursor := 0 } }
  unfold advanceVerify
  rw [State.queueing_verifier]
  split
  · rfl
  · dsimp only
    rw [hdone]
    rfl

theorem verifyExamine_queueing (g : Fin 8) (cs : List QueuedRequest) (s : State) :
    verifyExamine g (s.queueing cs) = (verifyExamine g s).queueing cs := by
  unfold verifyExamine
  by_cases hgranted : verifyTest s.params.verifyScope (s.entry s.verifier.cursor) = .granted
  · simp [hgranted, grantRead_queueing, advanceVerify_queueing]
  · simp [hgranted, advanceVerify_queueing]

theorem grantOne_queueing (cs : List QueuedRequest) (s : State) :
    grantOne (s.queueing cs) = (grantOne s).map (State.queueing cs) := by
  have hsweeper : sweeperWaits (s.queueing cs) = sweeperWaits s := rfl
  have hverifier : verifierWaits (s.queueing cs) = verifierWaits s := rfl
  unfold grantOne
  rw [hsweeper, hverifier, State.queueing_store, State.queueing_freeTag, State.queueing_writeQueue, State.queueing_turn]
  split
  · rfl
  · split
    · rfl
    · split
      · rw [sendWrite_queueing]; rfl
      · split
        · split
          · rw [sweepExamine_queueing]; rfl
          · rw [verifyExamine_queueing]; rfl
        · rw [sweepExamine_queueing]; rfl
        · rw [verifyExamine_queueing]; rfl
        · rfl

theorem grantMany_queueing (n : Nat) (cs : List QueuedRequest) (s : State) :
    grantMany n (s.queueing cs) = (grantMany n s).queueing cs := by
  induction n generalizing s with
  | zero => rfl
  | succ n ih =>
    unfold grantMany
    rw [grantOne_queueing]
    cases grantOne s with
    | none => rfl
    | some x => exact ih x

theorem arbitrate_queueing (cs : List QueuedRequest) (s : State) :
    arbitrate (s.queueing cs) = (arbitrate s).queueing cs := grantMany_queueing _ cs s

/-! ### The walkers and the holds -/

theorem restartSweep_queueing (cs : List QueuedRequest) (s : State) :
    restartSweep (s.queueing cs) = (restartSweep s).queueing cs := by
  unfold restartSweep
  rw [State.queueing_sweeper]
  dsimp only
  split <;> rfl

theorem resumeSweep_queueing (cs : List QueuedRequest) (s : State) :
    resumeSweep (s.queueing cs) = (resumeSweep s).queueing cs := by
  unfold resumeSweep
  rw [State.queueing_sweeper]
  dsimp only
  split <;> rfl

theorem autoSweep_queueing (cs : List QueuedRequest) (s : State) :
    autoSweep (s.queueing cs) = (autoSweep s).queueing cs := by
  unfold autoSweep
  rw [State.queueing_sweeper, State.queueing_params]
  dsimp only
  split
  · rfl
  · split
    · exact restartSweep_queueing cs s
    iterate 4 rfl

theorem stopSweep_queueing (cs : List QueuedRequest) (s : State) :
    stopSweep (s.queueing cs) = (stopSweep s).queueing cs := by
  unfold stopSweep
  rw [State.queueing_sweeper]
  split <;> rfl

theorem restartVerify_queueing (cs : List QueuedRequest) (s : State) :
    restartVerify (s.queueing cs) = (restartVerify s).queueing cs := by
  unfold restartVerify
  rw [State.queueing_verifier]
  dsimp only
  split <;> rfl

theorem resumeVerify_queueing (cs : List QueuedRequest) (s : State) :
    resumeVerify (s.queueing cs) = (resumeVerify s).queueing cs := by
  unfold resumeVerify
  rw [State.queueing_verifier]
  dsimp only
  split <;> rfl

theorem stopVerify_queueing (cs : List QueuedRequest) (s : State) :
    stopVerify (s.queueing cs) = (stopVerify s).queueing cs := by
  unfold stopVerify
  rw [State.queueing_verifier]
  split <;> rfl

theorem reportMissed_queueing (h : Fin 64) (sel : HoldSelector) (cs : List QueuedRequest) (s : State) :
    reportMissed h sel (s.queueing cs) = (reportMissed h sel s).queueing cs := by
  refine foldl_queueing (fun cs x g => ?_) _ cs s
  unfold missOn
  rw [State.queueing_tag]
  split
  · rfl
  · rw [State.queueing_entry]
    dsimp only
    split
    · exact raise_queueing ..
    · rfl

theorem placeAudit_queueing (h : Fin 64) (sel : HoldSelector) (cs : List QueuedRequest) (s : State) :
    placeAudit h sel (s.queueing cs) = (placeAudit h sel s).queueing cs :=
  raise_queueing _ _ _ _ _ cs (s.setHold h (some { kind := .audit, selector := sel }))

theorem unsuspendSweep_queueing (cs : List QueuedRequest) (s : State) :
    unsuspendSweep (s.queueing cs) = (unsuspendSweep s).queueing cs := rfl

theorem suspendSweep_queueing (cs : List QueuedRequest) (s : State) :
    suspendSweep (s.queueing cs) = (suspendSweep s).queueing cs :=
  raise_queueing _ _ _ _ _ cs { s with sweeper := { s.sweeper with suspended := true } }

theorem waitAudit_queueing (r : HoldSelector) (cs : List QueuedRequest) (s : State) :
    waitAudit r (s.queueing cs) = (waitAudit r s).queueing cs := by
  have hraise (holds : List HoldSelector) (k : ReportKind) (u : Option Nat) (a b c : Nat) :
      raise k u a b c { s.queueing cs with pendingHolds := holds } = (raise k u a b c { s with pendingHolds := holds }).queueing cs :=
    raise_queueing k u a b c cs { s with pendingHolds := holds }
  unfold waitAudit
  dsimp only
  rw [hraise, State.queueing_pendingHolds]
  by_cases hempty : s.pendingHolds.isEmpty = true
  · rw [if_pos hempty, if_pos hempty, suspendSweep_queueing]
  · rw [if_neg hempty, if_neg hempty]

theorem requestAudit_queueing (r : HoldSelector) (cs : List QueuedRequest) (s : State) :
    requestAudit r (s.queueing cs) = (requestAudit r s).queueing cs := by
  unfold requestAudit
  rw [State.queueing_freeHold]
  split
  · exact placeAudit_queueing ..
  · exact waitAudit_queueing ..

theorem releaseHold_queueing (h : Fin 64) (cs : List QueuedRequest) (s : State) :
    releaseHold h (s.queueing cs) = (releaseHold h s).queueing cs := by
  unfold releaseHold
  simp only [State.queueing_setHold, State.queueing_pendingHolds]
  split
  · rfl
  case h_2 p rest _ =>
    rw [show ({ (s.setHold h none).queueing cs with pendingHolds := rest } : State)
      = ({ s.setHold h none with pendingHolds := rest } : State).queueing cs from rfl, placeAudit_queueing]
    split
    · exact unsuspendSweep_queueing ..
    · rfl

/-! ### The banks -/

theorem sealSegment_queueing (g : OpenSegment) (cs : List QueuedRequest) (s : State) :
    sealSegment g (s.queueing cs) = (sealSegment g s).queueing cs := rfl

theorem sealWhere_queueing (which : OpenSegment → Bool) (cs : List QueuedRequest) (s : State) :
    sealWhere which (s.queueing cs) = (sealWhere which s).queueing cs :=
  foldl_queueing (f := fun x g => sealSegment g x) (fun _ _ _ => rfl) (s.openSegments.filter which) cs s

theorem retireBank_queueing (b : Fin 4) (cs : List QueuedRequest) (s : State) :
    retireBank b (s.queueing cs) = (retireBank b s).queueing cs := by
  unfold retireBank
  simp only [State.queueing_bank, sealWhere_queueing, State.queueing_setBank, raise_queueing]
  rfl

theorem supersede_queueing (b : Fin 4) (cs : List QueuedRequest) (s : State) :
    supersede b (s.queueing cs) = (supersede b s).queueing cs := by
  unfold supersede
  rw [State.queueing_bank]
  split
  · rfl
  · exact retireBank_queueing ..

theorem selectBank_queueing (b : Fin 4) (how : SelectedBy) (cs : List QueuedRequest) (s : State) :
    selectBank b how (s.queueing cs) = (selectBank b how s).queueing cs := by
  unfold selectBank
  simp only [State.queueing_activeBank, State.queueing_bank]
  rw [show ({ s.queueing cs with selection := none } : State) = ({ s with selection := none } : State).queueing cs from rfl]
  rw [State.queueing_setBank, raise_queueing]
  split
  · rfl
  · exact supersede_queueing ..

theorem takeSelection_queueing (mode : SelectMode) (how : SelectedBy) (cs : List QueuedRequest) (s : State) :
    takeSelection mode how (s.queueing cs) = (takeSelection mode how s).queueing cs := by
  unfold takeSelection
  rw [State.queueing_selection]
  split
  · rfl
  · split
    · exact selectBank_queueing ..
    · rfl

theorem unbindFile_queueing (b : Fin 4) (cs : List QueuedRequest) (s : State) :
    unbindFile b (s.queueing cs) = (unbindFile b s).queueing cs := by
  unfold unbindFile
  simp only [State.queueing_bank, State.queueing_setBank, retireBank_queueing, apply_ite (State.queueing cs)]

/-! ### The Day Table -/

theorem addToDay_queueing (day switch : Nat) (a : Accumulator) (n : Nat) (cs : List QueuedRequest) (s : State) :
    addToDay day switch a n (s.queueing cs) = (addToDay day switch a n s).queueing cs := by
  unfold addToDay
  rw [State.queueing_dayRecord]
  split
  · rfl
  · simp only [State.queueing_setDayRecord, raise_queueing, apply_ite (State.queueing cs)]

theorem closeDay_queueing (day : Nat) (cs : List QueuedRequest) (s : State) :
    closeDay day (s.queueing cs) = (closeDay day s).queueing cs := by
  unfold closeDay
  rw [State.queueing_dayRecord]
  split
  · rfl
  · rw [State.queueing_setDayRecord]; exact raise_queueing ..

theorem retireDays_queueing (first : Nat) (cs : List QueuedRequest) (s : State) :
    retireDays first (s.queueing cs) = (retireDays first s).queueing cs := by
  unfold retireDays
  dsimp only
  rw [foldl_queueing (fun _ _ _ => raise_queueing ..)]
  rfl

theorem readmitDay_queueing (day : Nat) (cs : List QueuedRequest) (s : State) :
    readmitDay (s.queueing cs) day = (readmitDay s day).queueing cs := by
  unfold readmitDay
  rw [State.queueing_dayRecord]
  split <;> rfl

theorem closeDayTable_queueing (closed : Nat) (cs : List QueuedRequest) (s : State) :
    closeDayTable closed (s.queueing cs) = (closeDayTable closed s).queueing cs := by
  unfold closeDayTable
  rw [State.queueing_clock]
  dsimp only
  split
  · rfl
  · rw [closeDay_queueing, ← foldl_queueing (fun cs x day => readmitDay_queueing day cs x), ← retireDays_queueing]
    rfl

theorem closeParts_queueing (closed : Nat) (cs : List QueuedRequest) (s : State) :
    closeParts closed (s.queueing cs) = (closeParts closed s).queueing cs := by
  unfold closeParts
  dsimp only
  rw [takeSelection_queueing, sealWhere_queueing, autoSweep_queueing, arbitrate_queueing, closeDayTable_queueing]

end Sys2Proof.Machine

namespace Sys2Proof.Machine

open Sys2Proof.Safety

section
variable {s : State}

/-! ### Bundles: how many, and what one does (R180, R181) -/

theorem sendFeed_of_up (hup : s.feed.up = true) (f : FeedFrame) : sendFeed f s = sentFeed [f] s := sendFeed_up s f hup

/-- The REPORTS_LOST entry of `n` reports (R180). -/
def lostReport (n : Nat) (s : State) : Report :=
  { kind := .reportsLost, stamp := s.runTime, archiveDay := s.clock.currentDay, subject := none,
    value1 := n, value2 := 0, value3 := 0 }

/-- The entries left after a bundle. -/
def leftEntries (s : State) : List Report :=
  s.reports.entries.drop 8 ++ (if 0 < s.reports.lost then [lostReport s.reports.lost s] else [])

/-- A bound on the bundles still to come: the entries, and the one that a lost count brings. -/
def bundlesLeft (s : State) : Nat := s.reports.entries.length + if 0 < s.reports.lost then 1 else 0

theorem bundleDue_iff : bundleDue s = true ↔ s.feed.up = true ∧ s.reports.entries ≠ [] ∧ sendCondition s = true := by
  simp [bundleDue, and_assoc]

theorem quietIfEmpty_entries : (quietIfEmpty s).reports.entries = s.reports.entries := by
  unfold quietIfEmpty; split <;> rfl

theorem quietIfEmpty_lost : (quietIfEmpty s).reports.lost = s.reports.lost := by unfold quietIfEmpty; split <;> rfl

theorem quietIfEmpty_frame : quietIfEmpty s = { s with reports := (quietIfEmpty s).reports } := by
  unfold quietIfEmpty; split <;> rfl

theorem enterLost_frame : enterLost s = { s with reports := (enterLost s).reports } := by
  unfold enterLost; split <;> rfl

theorem sendBundle_lost : (sendBundle s).reports.lost = 0 := quietIfEmpty_lost.trans (enterLost_lost _)

theorem sendBundle_entries : (sendBundle s).reports.entries = leftEntries s := by
  rw [sendBundle, quietIfEmpty_entries]
  unfold enterLost enterReport leftEntries lostReport
  by_cases hlost : 0 < s.reports.lost <;> simp [hlost, Config.bundleLimit]

theorem bundlesLeft_sendBundle (h : s.reports.entries ≠ []) : bundlesLeft (sendBundle s) < bundlesLeft s := by
  have hpos := List.length_pos_iff.mpr h
  simp only [bundlesLeft, sendBundle_lost, sendBundle_entries, leftEntries, List.length_append, List.length_drop]
  split <;> simp <;> omega

theorem sendBundles_of_not_due (h : bundleDue s = false) (n : Nat) : sendBundles n s = s := by
  cases n <;> simp [sendBundles, h]

/-- Enough fuel is enough: the bundles are the same for any two bounds above `bundlesLeft`. -/
theorem sendBundles_of_enough {n m : Nat} (hn : bundlesLeft s < n) (hm : bundlesLeft s < m) :
    sendBundles n s = sendBundles m s := by
  induction n generalizing s m with
  | zero => omega
  | succ n ih =>
    cases m with
    | zero => omega
    | succ m =>
      by_cases hdue : bundleDue s = true
      · have hless := bundlesLeft_sendBundle (bundleDue_iff.mp hdue).2.1
        simp only [sendBundles, hdue, if_true]
        exact ih (by omega) (by omega)
      · simp [sendBundles, hdue]

theorem bundlesLeft_lt : bundlesLeft s < s.reports.entries.length + 2 := by unfold bundlesLeft; split <;> omega

theorem flushReports_eq_sendBundles {n : Nat} (h : bundlesLeft s < n) : flushReports s = sendBundles n s :=
  sendBundles_of_enough bundlesLeft_lt h

theorem flushReports_of_not_due (h : bundleDue s = false) : flushReports s = s := sendBundles_of_not_due h _

theorem flushReports_of_due (h : bundleDue s = true) : flushReports s = flushReports (sendBundle s) := by
  have hless := bundlesLeft_sendBundle (bundleDue_iff.mp h).2.1
  have hleft : bundlesLeft (sendBundle s) < s.reports.entries.length + 1 := by
    have := bundlesLeft_lt (s := s); omega
  rw [flushReports_eq_sendBundles hleft, flushReports, sendBundles, if_pos h]

/-- What holds where nothing is due, and is carried back over a bundle, holds of every state and what its bundles leave. -/
theorem flushReports_induction {P : State → State → Prop} (still : ∀ x, bundleDue x = false → P x x)
    (sent : ∀ x y, bundleDue x = true → P (sendBundle x) y → P x y) (s : State) : P s (flushReports s) := by
  induction hn : bundlesLeft s using Nat.strong_induction_on generalizing s with
  | _ n ih =>
    by_cases hdue : bundleDue s = true
    · rw [flushReports_of_due hdue]
      exact sent s _ hdue (ih _ (hn ▸ bundlesLeft_sendBundle (bundleDue_iff.mp hdue).2.1) _ rfl)
    · rw [flushReports_of_not_due (by simpa using hdue)]
      exact still s (by simpa using hdue)

/-- R181: after the bundles no send condition holds. -/
theorem bundleDue_flushReports (s : State) : bundleDue (flushReports s) = false :=
  flushReports_induction (P := fun _ t => bundleDue t = false) (fun _ h => h) (fun _ _ _ h => h) s

@[simp] theorem flushReports_flushReports (s : State) : flushReports (flushReports s) = flushReports s :=
  flushReports_of_not_due (bundleDue_flushReports s)

/-- The fields that the bundles leave. -/
theorem sendBundle_frame (s : State) :
    sendBundle s = { s with feedTx := (sendBundle s).feedTx, reports := (sendBundle s).reports
                            feed := { s.feed with lastSent := (sendBundle s).feed.lastSent } } := by
  have hsent : sendFeed (.bundle (s.reports.entries.take Config.bundleLimit)) s = { s with
      feedTx := (sendFeed (.bundle (s.reports.entries.take Config.bundleLimit)) s).feedTx
      feed := { s.feed with lastSent := (sendFeed (.bundle (s.reports.entries.take Config.bundleLimit)) s).feed.lastSent } } := by
    unfold sendFeed; split <;> rfl
  rw [sendBundle, quietIfEmpty_frame, enterLost_frame, hsent]

theorem flushReports_frame (s : State) :
    flushReports s = { s with feedTx := (flushReports s).feedTx, reports := (flushReports s).reports
                              feed := { s.feed with lastSent := (flushReports s).feed.lastSent } } := by
  refine flushReports_induction (P := fun s t => t = { s with
    feedTx := t.feedTx, reports := t.reports, feed := { s.feed with lastSent := t.feed.lastSent } }) (fun _ _ => rfl)
    (fun x y _ h => ?_) s
  rw [sendBundle_frame x] at h
  exact h

theorem flushReports_feed_up (s : State) : (flushReports s).feed.up = s.feed.up :=
  congrArg (fun x => x.feed.up) (flushReports_frame s)

/-- The lists of reports that the bundles of a flush carry: nothing is lost, nothing reordered, and the lost count enters
once as REPORTS_LOST (R180, R181). -/
def BundlesSent (s t : State) (bundles : List (List Report)) : Prop :=
  t.feedTx = s.feedTx ++ bundles.map .bundle
    ∧ (bundles ≠ [] ↔ bundleDue s = true)
    ∧ (∀ b ∈ bundles, 1 ≤ b.length ∧ b.length ≤ 8)
    ∧ bundles.flatten ++ t.reports.entries = s.reports.entries
        ++ (if bundles ≠ [] ∧ 0 < s.reports.lost then [lostReport s.reports.lost s] else [])
    ∧ t.reports.lost = (if bundles = [] then s.reports.lost else 0)

theorem sendBundle_feedTx (hup : s.feed.up = true) :
    (sendBundle s).feedTx = s.feedTx ++ [.bundle (s.reports.entries.take 8)] := by
  rw [sendBundle, quietIfEmpty_frame, enterLost_frame, sendFeed_of_up hup]
  rfl

theorem exists_bundles (s : State) : ∃ bundles, BundlesSent s (flushReports s) bundles := by
  refine flushReports_induction (P := fun s t => ∃ bundles, BundlesSent s t bundles) ?still ?sent s
  case still => exact fun x h => ⟨[], by simp [BundlesSent, h]⟩
  case sent =>
    rintro x y hdue ⟨bundles, htx, -, hsize, hall, hlost⟩
    obtain ⟨hup, hsome, -⟩ := bundleDue_iff.mp hdue
    have hpos := List.length_pos_iff.mpr hsome
    refine ⟨x.reports.entries.take 8 :: bundles, ?_, by simp [hdue], ?_, ?_, ?_⟩
    · rw [htx, sendBundle_feedTx hup]; simp
    · simp only [List.mem_cons, forall_eq_or_imp, List.length_take]
      exact ⟨by omega, hsize⟩
    · rw [sendBundle_lost, sendBundle_entries] at hall
      have hentries : x.reports.entries.take 8 ++ leftEntries x
          = x.reports.entries ++ (if 0 < x.reports.lost then [lostReport x.reports.lost x] else []) := by
        rw [leftEntries, ← List.append_assoc, List.take_append_drop]
      simpa [List.append_assoc, hall] using hentries
    · rw [hlost, sendBundle_lost]; simp

/-- R181: an entry starts a stopped timer where the holdoff is 2 or more and due is clear. -/
theorem enterReport_eq (r : Report) (s : State) : enterReport r s = { s with reports := { s.reports with
    entries := s.reports.entries ++ [r]
    timer := if 2 ≤ s.params.reportHoldoff ∧ s.reports.timer = none ∧ s.reports.due = false
      then some ((s.runTime + s.params.reportHoldoff) % 4294967296) else s.reports.timer } } := by
  have hstarts : (decide (2 ≤ s.params.reportHoldoff) && s.reports.timer.isNone && !s.reports.due) = true
      ↔ 2 ≤ s.params.reportHoldoff ∧ s.reports.timer = none ∧ s.reports.due = false := by simp [and_assoc]
  simp only [enterReport, hstarts]
  rfl

/-- One bundle in full (R180, R181). -/
theorem sendBundle_eq (hup : s.feed.up = true) :
    sendBundle s = sentFeed [.bundle (s.reports.entries.take 8)] { s with reports := {
      entries := leftEntries s
      lost := 0
      timer := if leftEntries s = [] then none
        else if 0 < s.reports.lost ∧ 2 ≤ s.params.reportHoldoff ∧ s.reports.timer = none ∧ s.reports.due = false
          then some ((s.runTime + s.params.reportHoldoff) % 4294967296) else s.reports.timer
      due := if leftEntries s = [] then false else s.reports.due } } := by
  unfold sendBundle
  rw [sendFeed_of_up hup]
  by_cases hlost : 0 < s.reports.lost
  · simp [enterLost, enterReport_eq, quietIfEmpty, sentFeed, leftEntries, lostReport, hlost, Config.bundleLimit]
  · have hzero : s.reports.lost = 0 := by omega
    by_cases hleft : s.reports.entries.drop 8 = []
    · simp [enterLost, quietIfEmpty, sentFeed, leftEntries, hzero, hleft, Config.bundleLimit]
    · simp [enterLost, quietIfEmpty, sentFeed, leftEntries, hzero, hleft, Config.bundleLimit]

/-- The ten urgent kinds (R179). -/
theorem urgent_iff (k : ReportKind) : k.urgent = true ↔ k ∈ ([.fileRefused, .laneOverrun, .segWriteFailed, .storeFull,
    .reportsLost, .segDamaged, .sweepSuspended, .holdMissed, .holdNotPlaced, .catalogFull] : List ReportKind) := by
  cases k <;> simp [ReportKind.urgent]

/-- R181's send conditions. -/
theorem sendCondition_iff : sendCondition s = true ↔ (∃ r ∈ s.reports.entries, r.kind.urgent = true)
    ∨ 48 ≤ s.reports.entries.length ∨ s.params.reportHoldoff = 1
    ∨ (2 ≤ s.params.reportHoldoff ∧ s.reports.due = true) := by
  simp [sendCondition, Config.reportThreshold, or_assoc]

theorem raiseOn_of_queueRoom (h : s.reports.entries.length < 64) (d : Option Nat) (k : ReportKind) (u : Option Nat)
    (a b c : Nat) : raiseOn d k u a b c s
      = enterReport { kind := k, stamp := s.runTime, archiveDay := d, subject := u, value1 := a, value2 := b, value3 := c } s :=
  if_pos h

end

/-- Settles O31: a bundle in full, `flushReports` as bundle after bundle until none is due, and a report raised with room
and without. -/
theorem flushSendsOldestFirst : Obligations.FlushSendsOldestFirst := by
  refine ⟨fun s => ?_, fun s day kind subject v1 v2 v3 => ⟨fun hroom => ?_, fun hfull => raiseOn_of_full s _ _ _ _ _ _ hfull, rfl⟩⟩
  · intro t urgent due q left starts bundled
    have hdue (x : State) : due x ↔ bundleDue x = true := by
      simp only [bundleDue_iff, sendCondition_iff, urgent_iff]; rfl
    have hbundled (h : due s) : sendBundle s = bundled := sendBundle_eq h.1
    refine ⟨fun h => ?_, fun h => ?_, ?_, flushReports_frame s, ?_⟩
    · exact flushReports_of_not_due (by simpa [hdue] using h)
    · rw [← hbundled h]; exact flushReports_of_due ((hdue s).mp h)
    · rw [hdue, Bool.not_eq_true]; exact bundleDue_flushReports s
    · obtain ⟨bundles, htx, hsome, hrest⟩ := exists_bundles s
      exact ⟨bundles, htx, hsome.trans (hdue s).symm, hrest⟩
  · rw [raiseOn_of_queueRoom hroom, enterReport_eq]

end Sys2Proof.Machine

namespace Sys2Proof.Machine

open Sys2Proof.Safety

section
variable {s : State}

/-! ### Frames put on the Feed link one after another -/

theorem sentFeedAll_append (fs gs : List FeedFrame) (s : State) :
    sentFeedAll (fs ++ gs) s = sentFeedAll gs (sentFeedAll fs s) := by
  cases fs with
  | nil => rfl
  | cons f fs =>
    cases gs with
    | nil => simp [sentFeedAll]
    | cons g gs => simp [sentFeedAll, sentFeed]

theorem sentFeedAll_feed_up (fs : List FeedFrame) (s : State) : (sentFeedAll fs s).feed.up = s.feed.up := by
  unfold sentFeedAll; split <;> rfl

theorem sendFeed_eq_sentIfUp (f : FeedFrame) (s : State) : sendFeed f s = sentIfUp [f] s := rfl

theorem sentIfUp_append (fs gs : List FeedFrame) (s : State) : sentIfUp (fs ++ gs) s = sentIfUp gs (sentIfUp fs s) := by
  by_cases hup : s.feed.up = true
  · simp [sentIfUp, hup, sentFeedAll_append, sentFeedAll_feed_up]
  · simp [sentIfUp, hup]

theorem sentIfUp_nil (s : State) : sentIfUp [] s = s := by unfold sentIfUp; split <;> rfl

theorem sentIfUp_lanes (fs : List FeedFrame) (s : State) : (sentIfUp fs s).lanes = s.lanes := by
  unfold sentIfUp sentFeedAll; split
  · split <;> rfl
  · rfl

theorem foldl_sendPauseOf (ls : List (Fin 16)) (s : State) :
    ls.foldl sendPauseOf s = sentIfUp ((ls.filter fun l => (s.lane l).paused).map .lanePause) s := by
  induction ls generalizing s with
  | nil => exact (sentIfUp_nil s).symm
  | cons l ls ih =>
    rw [List.foldl_cons, ih]
    by_cases hp : (s.lane l).paused = true
    · have hsent : sendPauseOf s l = sentIfUp [.lanePause l] s := if_pos hp
      have hlane (m : Fin 16) : (sendPauseOf s l).lane m = s.lane m := by
        rw [hsent]; simp only [State.lane, sentIfUp_lanes]
      have hcons : (l :: ls).filter (fun m => (s.lane m).paused) = l :: ls.filter fun m => (s.lane m).paused :=
        List.filter_cons_of_pos (p := fun m => (s.lane m).paused) hp
      simp only [hlane, hcons]
      rw [hsent, ← sentIfUp_append]
      rfl
    · have hkept : sendPauseOf s l = s := if_neg hp
      rw [hkept, List.filter_cons_of_neg (p := fun m => (s.lane m).paused) hp]

/-- R27: LANE PAUSE for each paused lane, in ascending lane number. -/
theorem sendPauses_eq (s : State) : sendPauses s = sentIfUp ((pausedLanes s).map .lanePause) s := foldl_sendPauseOf _ s

/-! ### A good frame in each link state (R182, R183) -/

theorem receiveGood_feed_of_raised (hdown : s.feed.up = false) (hlocked : s.feed.locked = true) :
    receiveGood .feed s = flushReports (sentFeedAll ((pausedLanes s).map .lanePause) (feedRaised s)) := by
  have hraised : s.setPort .feed ((s.port .feed).afterGood s.runTime) = feedRaised s := by
    simp [State.setPort, State.port, Port.afterGood, feedRaised, satAdd, hlocked]
  have hup : (feedRaised s).feed.up = true := rfl
  simp only [receiveGood, hraised, linkComesUp, sendPauses_eq]
  simp [State.port, hdown, hlocked, sentIfUp, hup]
  rfl

theorem receiveGood_feed_of_unlocked (hdown : s.feed.up = false) (hunlocked : s.feed.locked = false) :
    receiveGood .feed s = heardFeed s := by
  simp [receiveGood, heardFeed, State.port, State.setPort, Port.afterGood, satAdd, hdown, hunlocked]

/-- A good frame on the Feed port, whatever its link state. -/
theorem receiveGood_feed (s : State) : receiveGood .feed s = heardAnyway s := by
  unfold heardAnyway
  split
  case isTrue h => exact receiveGood_feed_of_raised h.1 h.2
  case isFalse h =>
    by_cases hup : s.feed.up = true
    · exact receiveGood_feed_of_up hup
    · exact receiveGood_feed_of_unlocked (by simpa using hup) (by simpa [hup] using h)

theorem receiveGood_store_of_up (hup : s.store.up = true) : receiveGood .store s = heardStore s := by
  simp [receiveGood, heardStore, State.port, State.setPort, Port.afterGood, satAdd, hup]

theorem receiveGood_store_of_raised (hdown : s.store.up = false) (hlocked : s.store.locked = true) :
    receiveGood .store s = arbitrate (storeRaised s) := by
  have hraised : s.setPort .store ((s.port .store).afterGood s.runTime) = storeRaised s := by
    simp [State.setPort, State.port, Port.afterGood, storeRaised, satAdd, hlocked]
  simp only [receiveGood, hraised, linkComesUp]
  simp [State.port, hdown, hlocked]

theorem receiveGood_store_of_unlocked (hdown : s.store.up = false) (hunlocked : s.store.locked = false) :
    receiveGood .store s = heardStore s := by
  simp [receiveGood, heardStore, State.port, State.setPort, Port.afterGood, satAdd, hdown, hunlocked]

theorem raiseLink_of_raised {p : PortId} (h : (s.port p).up = false ∧ (s.port p).locked = true) :
    raiseLink p s = flushReports (receiveGood p s) := by simp [raiseLink, h]

theorem raiseLink_of_not_raised {p : PortId} (h : (s.port p).up = true ∨ (s.port p).locked = false) :
    raiseLink p s = s := by
  obtain h | h := h <;> simp [raiseLink, h]

/-! ### What the arbiter leaves (R125) -/

/-- A port with the time of its last frame blanked out. -/
def Port.unsent (x : Port) : Port := { x with lastSent := 0 }

theorem sendStore_unsent (fs : List StoreFrame) (s : State) : (sendStore fs s).store.unsent = s.store.unsent := by
  unfold sendStore; split <;> rfl

theorem advanceSweep_store (s : State) : (advanceSweep s).store = s.store := by
  unfold advanceSweep raiseSweepDone
  split
  · rfl
  · exact raise_store ..

theorem advanceVerify_store (s : State) : (advanceVerify s).store = s.store := by
  unfold advanceVerify raiseVerifyDone
  split
  · rfl
  · exact raise_store ..

theorem grantDelete_unsent (g : Fin 8) (id : Nat) (s : State) : (grantDelete g id s).store.unsent = s.store.unsent := by
  unfold grantDelete
  dsimp only
  rw [sendStore_unsent]
  rfl

theorem grantRead_unsent (g : Fin 8) (id : Nat) (s : State) : (grantRead g id s).store.unsent = s.store.unsent := by
  unfold grantRead
  dsimp only
  rw [sendStore_unsent]
  rfl

theorem grantOne_unsent {s t : State} (h : grantOne s = some t) : t.store.unsent = s.store.unsent := by
  obtain ⟨-, g, -, ⟨id, rest, -, rfl⟩ | ⟨-, -, -, rfl⟩ | ⟨-, -, -, rfl⟩⟩ := grantOne_cases h
  · exact sendStore_unsent _ _
  · rw [sweepExamine, advanceSweep_store]
    split
    · exact grantDelete_unsent ..
    · rfl
  · rw [verifyExamine, advanceVerify_store]
    split
    · exact grantRead_unsent ..
    · rfl

/-- `s` with what a grant can change taken from `t`: the Store link's frames and tags, the turn, the write queue, the
walkers, the catalog's entries and the Report Queue. -/
def State.grantedAs (s t : State) (port : Port) : State :=
  { s with
    storeTx := t.storeTx, store := port, tags := t.tags, lastTag := t.lastTag
    turn := t.turn, writeQueue := t.writeQueue, sweeper := t.sweeper, verifier := t.verifier, catalog := t.catalog
    stateCounts := t.stateCounts, reports := t.reports }

theorem eq_grantedAs {s t : State} (h : outsideGrants t = outsideGrants s) (hstore : t.store.unsent = s.store.unsent) :
    t = s.grantedAs t { s.store with lastSent := t.store.lastSent } := by
  have hport : t.store = { s.store with lastSent := t.store.lastSent } :=
    congrArg (fun x : Port => { x with lastSent := t.store.lastSent }) hstore
  have hrest := congrArg (fun x : State => x.grantedAs t t.store) h
  have hrest : t = s.grantedAs t t.store := hrest
  exact hrest.trans (congrArg (s.grantedAs t) hport)

theorem arbitrate_frame (s : State) :
    arbitrate s = s.grantedAs (arbitrate s) { s.store with lastSent := (arbitrate s).store.lastSent } := by
  refine eq_grantedAs
    (arbitrate_induction (P := fun x => outsideGrants x = outsideGrants s)
      (fun _ _ hx h => (outsideGrants_grantOne h).trans hx) rfl) ?_
  exact arbitrate_induction (P := fun x => x.store.unsent = s.store.unsent)
    (fun _ _ hx h => (grantOne_unsent h).trans hx) rfl

end

section

/-! ### The front command -/

/-- Settles O1. -/
theorem stepTakesFrontCommand : Obligations.StepTakesFrontCommand := by
  intro s
  refine ⟨fun c rest h => ?_, fun h => ?_⟩
  · simp only [step, h]
  · have hpending : ({ s with pending := [] } : State) = s := by rw [← h]
    simp only [step, h, State.tick, Config.timeModulus]

/-! ### Resets -/

/-- Settles O4. -/
theorem resetHoldsPowerOnValues : Obligations.ResetHoldsPowerOnValues := by
  unfold Obligations.ResetHoldsPowerOnValues
  intro s
  have hlane (l : Fin 16) : s.lane l = {} := lane_reset l
  have hbank (b : Fin 4) : s.bank b = {} := bank_reset b
  have hbuffer (i : Fin 32) : s.buffer i = {} := by simp [s, State.buffer, State.reset]
  have htag (g : Fin 8) : s.tag g = none := by simp [s, State.tag, State.reset]
  have hhold (h : Fin 64) : s.hold h = none := by simp [s, State.hold, State.reset]
  refine ⟨⟨rfl, rfl, rfl, rfl, rfl⟩, fun p => ?ports, rfl, rfl, rfl, fun l => ?lanes, rfl, rfl, fun b => ?banks, rfl, rfl,
    fun _ _ => rfl, rfl, fun i => ?buffers, rfl, rfl, rfl, rfl, rfl, fun _ => rfl, rfl, rfl, htag, rfl, rfl, rfl, hhold,
    rfl, rfl, rfl, rfl, rfl, reportsSound_reset, listsBounded_reset, suspendedExactly_reset, banksSound_reset,
    pausedExactly_reset, walkersSound_reset, paramsInRange_reset, catalogSound_reset, recordsConserved_reset,
    grantOne_of_down rfl⟩
  case ports => cases p <;> exact ⟨rfl, rfl, rfl, rfl, rfl⟩
  case lanes => rw [hlane]; exact ⟨rfl, rfl, rfl, rfl, rfl, rfl, rfl, rfl⟩
  case banks => rw [hbank]; exact ⟨rfl, rfl, rfl, rfl, rfl, rfl⟩
  case buffers => rw [hbuffer]

/-- What a reset leaves depends on the commands that wait and on the frames sent alone. -/
theorem powerOn_congr {s t : State} (hpending : t.pending = s.pending) (hfeed : t.feedTx = s.feedTx)
    (hstore : t.storeTx = s.storeTx) : powerOn t = powerOn s := by
  simp only [powerOn, hpending, hfeed, hstore]

/-- Settles O5: the reset overwrites all but the waiting commands and the two logs, so that only what is sent before it
counts: the response where the Feed link is UP, and where the frame brings it UP also what that hands on. -/
theorem powerOnAndColdReset : Obligations.PowerOnAndColdReset := by
  intro s fresh
  have hfresh (sent : List FeedFrame) : fresh sent = powerOn { s with feedTx := s.feedTx ++ sent } := rfl
  have hnil : fresh [] = powerOn s := by rw [hfresh, List.append_nil]
  refine ⟨by rw [hnil]; rfl, fun tag => ⟨fun hup => ?_, fun hdown hunlocked => ?_, fun hdown hlocked => ?_⟩⟩
  · have h : coldReset tag (receiveGood .feed s) = fresh [.response tag 0x7F .done .none] := by
      rw [receiveGood_feed_of_up hup, coldReset, respond_of_up (s := heardFeed s) hup]
      rfl
    exact congrArg Host.Outcome.next h
  · have h : coldReset tag (receiveGood .feed s) = fresh [] := by
      rw [receiveGood_feed_of_unlocked hdown hunlocked, coldReset, respond, sendFeed_down (heardFeed s) _ hdown, hnil]
      rfl
    exact congrArg Host.Outcome.next h
  · let raised := sentFeedAll ((pausedLanes s).map .lanePause) (feedRaised s)
    have hraised : raised.feed.up = true := sentFeedAll_feed_up ..
    have hpauses : raised.feedTx = s.feedTx ++ (pausedLanes s).map .lanePause := by
      unfold raised sentFeedAll
      split
      case isTrue hnone => rw [hnone, List.append_nil]; rfl
      case isFalse => rfl
    have hrest : raised.pending = s.pending ∧ raised.storeTx = s.storeTx := by
      unfold raised sentFeedAll; split <;> exact ⟨rfl, rfl⟩
    obtain ⟨bundles, hbundles, -⟩ := exists_bundles raised
    refine ⟨(pausedLanes s).map .lanePause ++ bundles.map .bundle, ?_⟩
    have hup : (flushReports raised).feed.up = true := (flushReports_feed_up raised).trans hraised
    have h : coldReset tag (receiveGood .feed s) = fresh (((pausedLanes s).map .lanePause ++ bundles.map .bundle)
        ++ [.response tag 0x7F .done .none]) := by
      rw [receiveGood_feed_of_raised hdown hlocked, coldReset, respond_of_up hup, hfresh]
      refine powerOn_congr ?_ ?_ ?_
      · exact (flushReports_pending raised).trans hrest.1
      · have htx := hbundles.trans (congrArg (· ++ bundles.map FeedFrame.bundle) hpauses)
        simp [replied, sentFeed, htx, resetCode]
      · exact (flushReports_storeTx raised).trans hrest.2
    exact congrArg Host.Outcome.next h

/-! ### Ports and links -/

/-- Settles O7. -/
theorem portsCountFrames : Obligations.PortsCountFrames := by
  intro s p
  refine ⟨rfl, rfl, rfl, fun hdown => ?_, fun hup => ?_, fun hlocked hsilent => ?_, fun hkeeps => ?_⟩
  · have h : loseLock p s = s.setPort p { s.port p with locked := false } := by simp [loseLock, hdown]
    exact congrArg Host.Outcome.next h
  · have h : loseLock p s = loseLink .lockLost p s := by simp [loseLock, hup]
    cases p <;> exact congrArg Host.Outcome.next h
  · have h : keepLink p s = sendKeep p s := by simp [keepLink, Config.linkKeepInterval, hlocked, hsilent]
    cases p <;> exact congrArg Host.Outcome.next h
  · have h : keepLink p s = s := by
      obtain h | h := hkeeps
      · simp [keepLink, h]
      · simp [keepLink, Config.linkKeepInterval, Nat.not_le.mpr h]
    exact congrArg Host.Outcome.next h

/-- Settles O8: the three link states of each port. -/
theorem linksComeUp : Obligations.LinksComeUp := by
  intro s
  have hfeed : exec (.linkKeep .feed) s = .next (flushReports (receiveGood .feed s)) := rfl
  have hstore : exec (.linkKeep .store) s = .next (flushReports (receiveGood .store s)) := rfl
  have hfeedUp : exec .feedLinkUp s = .next (raiseLink .feed s) := rfl
  have hstoreUp : exec .storeLinkUp s = .next (raiseLink .store s) := rfl
  rw [hfeed, hstore, hfeedUp, hstoreUp]
  refine ⟨fun hup => ?_, fun hdown hlocked => ?_, fun hdown hunlocked => ?_, fun hup => ?_, fun hdown hlocked => ?_,
    fun hdown hunlocked => ?_, ?_, ?_⟩
  · rw [receiveGood_feed_of_up hup, raiseLink_of_not_raised (p := .feed) (.inl hup)]
    exact ⟨rfl, rfl⟩
  · rw [raiseLink_of_raised (p := .feed) ⟨hdown, hlocked⟩, receiveGood_feed_of_raised hdown hlocked, flushReports_flushReports]
    exact ⟨rfl, rfl⟩
  · rw [receiveGood_feed_of_unlocked hdown hunlocked, raiseLink_of_not_raised (p := .feed) (.inr hunlocked),
      flushReports_of_down (heardFeed s) hdown]
    exact ⟨rfl, rfl⟩
  · rw [receiveGood_store_of_up hup, raiseLink_of_not_raised (p := .store) (.inl hup)]
    exact ⟨rfl, rfl⟩
  · rw [raiseLink_of_raised (p := .store) ⟨hdown, hlocked⟩, receiveGood_store_of_raised hdown hlocked]
    exact ⟨rfl, rfl⟩
  · rw [receiveGood_store_of_unlocked hdown hunlocked, raiseLink_of_not_raised (p := .store) (.inr hunlocked)]
    exact ⟨rfl, rfl⟩
  · intro t ht
    obtain rfl := Host.Outcome.next.inj ht
    rw [State.linkFd, flushReports_feed_up, receiveGood_feed]
    unfold heardAnyway
    split
    case isTrue h =>
      rw [flushReports_feed_up, sentFeedAll_feed_up]
      simp [feedRaised, h]
    case isFalse h =>
      have hkept : (heardFeed s).feed.up = s.feed.up := rfl
      rw [hkept]
      cases hup : s.feed.up <;> simp_all
  · intro t ht
    obtain rfl := Host.Outcome.next.inj ht
    rw [State.linkSt, flushReports_store]
    by_cases hup : s.store.up = true
    · rw [receiveGood_store_of_up hup]
      simp [heardStore, hup]
    · have hdown : s.store.up = false := by simpa using hup
      by_cases hlocked : s.store.locked = true
      · rw [receiveGood_store_of_raised hdown hlocked]
        have hkept : (arbitrate (storeRaised s)).store.up = true :=
          congrArg (fun x => x.store.up) (arbitrate_frame (storeRaised s))
        simp [hkept, hlocked]
      · have hunlocked : s.store.locked = false := by simpa using hlocked
        rw [receiveGood_store_of_unlocked hdown hunlocked]
        simp [heardStore, hdown, hunlocked]

end

end Sys2Proof.Machine

namespace Sys2Proof.Machine

open Sys2Proof.Safety

section
variable {s : State}

/-! ### Leaving a bank (R57, R58) -/

/-- The fields that change when a bank retires. -/
theorem sealWhere_frame (which : OpenSegment → Bool) (s : State) :
    sealWhere which s = { s with
      buffers := (sealWhere which s).buffers, openSegments := (sealWhere which s).openSegments
      catalog := (sealWhere which s).catalog, stateCounts := (sealWhere which s).stateCounts
      writeQueue := (sealWhere which s).writeQueue } := by
  unfold sealWhere
  generalize s.openSegments.filter which = gs
  induction gs generalizing s with
  | nil => rfl
  | cons g gs ih => rw [List.foldl_cons, ih]; rfl

/-- A bank's retirement in full (R58), where sealing has left the banks as they were. -/
theorem retireBank_eq (b : Fin 4) (s : State) :
    retireBank b s = raise .bankRetired (some b.val) ((s.bank b).generation.getD 0) (s.bank b).references
      (leftCode (s.bank b).state)
      ((sealWhere (fun g => decide (g.key.bank = b) && decide (some g.key.generation = (s.bank b).generation)) s).setBank b
        { s.bank b with state := .ready }) := by
  unfold retireBank
  simp only [State.bank_setBank_self, bank_of_banks (sealWhere_banks ..)]

theorem unbindFile_of_bound {b : Fin 4} (h : (s.bank b).state ≠ .draining ∨ 1 < (s.bank b).boundFiles) :
    unbindFile b s = s.setBank b { s.bank b with boundFiles := (s.bank b).boundFiles - 1 } := by
  refine if_neg ?_
  rw [State.bank_setBank_self]
  rintro ⟨hstate, hzero⟩
  obtain h | h := h
  · exact h hstate
  · have hzero : (s.bank b).boundFiles - 1 = 0 := hzero
    omega

theorem unbindFile_of_last {b : Fin 4} (hstate : (s.bank b).state = .draining) (hlast : (s.bank b).boundFiles ≤ 1) :
    unbindFile b s = retireBank b (s.setBank b { s.bank b with boundFiles := (s.bank b).boundFiles - 1 }) := by
  refine if_pos ⟨hstate, ?_⟩
  rw [State.bank_setBank_self]
  exact Nat.sub_eq_zero_of_le hlast

/-! ### Audit holds (R147 to R149) -/

theorem freeHold_eq_some {h : Fin 64} (hfree : s.hold h = none) (hlow : ∀ x < h, s.hold x ≠ none) : s.freeHold = some h := by
  refine List.find?_eq_some_iff_getElem.mpr ⟨by simp [hfree], h.val, by simp, by simp, fun j hj => ?_⟩
  have hne := hlow ⟨j, by omega⟩ hj
  simpa using Option.isSome_iff_ne_none.mpr hne

theorem freeHold_eq_none (h : ∀ x, s.hold x ≠ none) : s.freeHold = none := by
  refine List.find?_eq_none.mpr fun x _ => ?_
  simpa using h x

theorem widenNewest_append (r p : HoldSelector) (older : List HoldSelector) :
    widenNewest r (older ++ [p]) = older ++ [p.widen r] := by
  induction older with
  | nil => rfl
  | cons x older ih =>
    cases older with
    | nil => rfl
    | cons y older => exact congrArg (x :: ·) ih

theorem countP_holds_of_full (h : ∀ x, s.hold x ≠ none) : (List.finRange 64).countP (fun x => (s.hold x).isSome) = 64 := by
  rw [List.countP_eq_length.mpr fun x _ => Option.isSome_iff_ne_none.mpr (h x), List.length_finRange]

/-! ### The day record amended (R159) -/

theorem dayRecord_day {day : Nat} {d : DayRecord} (h : s.dayRecord day = some d) : d.day = day := by
  simpa using List.find?_some h

/-! ### Reconciliation (R152) -/

theorem reconciles_iff (c : FileContext) (t : Trailer) : reconciles c t = true ↔
    c.stored + c.rejected + c.duplicates = t.recordCount ∧ c.lost = 0 ∧ c.durationSum = t.durationSum
      ∧ c.chargeSum = t.chargeSum := by
  simp [reconciles, and_assoc]

theorem reconcile_lanes (l : Fin 16) (c : FileContext) (t : Trailer) (outcome : FileOutcome) (s : State) :
    (reconcile l c t outcome s).lanes = s.lanes := by
  have h := congrArg State.lanes (outsideBooks_reconcile s l c t outcome)
  exact h

theorem reconcile_recent (l : Fin 16) (c : FileContext) (t : Trailer) (outcome : FileOutcome) (s : State) :
    (reconcile l c t outcome s).recent = s.recent := by
  have h := congrArg State.recent (outsideBooks_reconcile s l c t outcome)
  exact h

/-- A file that has left lane `l` of `s` with an outcome, `x` being the state after its counts and reports (R34). -/
def fileLeft (s : State) (l : Fin 16) (c : FileContext) (outcome : FileOutcome) (x : State) : State :=
  unbindFile c.bank { x with
    recent := (if 64 ≤ s.recent.length then s.recent.drop 1 else s.recent) ++ [{ context := c, outcome }]
    lanes := s.lanes.set l { s.lane l with state := .idle, context := none } }

theorem raise_enterRecent (k : ReportKind) (u : Option Nat) (a b c : Nat) (e : RecentEntry) (s : State) :
    raise k u a b c (enterRecent e s) = enterRecent e (raise k u a b c s) := by
  unfold raise raiseOn
  by_cases h : s.reports.entries.length < Config.reportQueueLimit
  · rw [if_pos h, if_pos (show (enterRecent e s).reports.entries.length < Config.reportQueueLimit from h)]; rfl
  · rw [if_neg h, if_neg (show ¬ (enterRecent e s).reports.entries.length < Config.reportQueueLimit from h)]; rfl

theorem abortFile_eq (l : Fin 16) (c : FileContext) (s : State) :
    abortFile l c s = fileLeft s l c .aborted (raise .fileAborted (some l.val) c.switch c.fileNumber c.lost s) := by
  have hraise (e : RecentEntry) : raise .fileAborted (some l.val) c.switch c.fileNumber c.lost (enterRecent e s)
      = enterRecent e (raise .fileAborted (some l.val) c.switch c.fileNumber c.lost s) := raise_enterRecent ..
  unfold abortFile fileLeft raiseAborted
  rw [hraise]
  simp [State.idleLane, State.setLane, State.lane, enterRecent, Config.recentFilesLimit]

theorem closeFile_eq {l : Fin 16} {c : FileContext} {t : Trailer} {outcome : FileOutcome}
    (h : (if reconciles c t then FileOutcome.reconciled else .unreconciled) = outcome) (s : State) :
    closeFile l c t s = fileLeft s l c outcome (reconcile l c t outcome s) := by
  unfold closeFile fileLeft
  rw [h]
  simp [State.idleLane, State.setLane, State.lane, enterRecent, reconcile_recent, reconcile_lanes, Config.recentFilesLimit]

/-! ### Drain completion (R34) -/

theorem drainLane_of_not_drained {l : Fin 16}
    (h : (s.lane l).state ≠ .draining ∨ (s.lane l).bufA.owner = .parser ∨ (s.lane l).bufB.owner = .parser) :
    drainLane l s = s := by
  refine if_neg ?_
  rw [Lane.drained_iff]
  rintro ⟨hstate, ha, hb⟩
  obtain h | h | h := h
  · exact h hstate
  · rw [ha] at h; cases h
  · rw [hb] at h; cases h

section
variable {l : Fin 16} {c : FileContext} (hstate : (s.lane l).state = .draining) (hc : (s.lane l).context = some c)
  (ha : (s.lane l).bufA.owner = .link) (hb : (s.lane l).bufB.owner = .link)
include hstate hc ha hb

theorem drainLane_of_no_trailer (ht : c.trailer = none) : drainLane l s = abortFile l c s := by
  simp [drainLane, Lane.drained_iff, hstate, hc, ha, hb, ht]

theorem drainLane_of_trailer {t : Trailer} (ht : c.trailer = some t) : drainLane l s = closeFile l c t s := by
  simp [drainLane, Lane.drained_iff, hstate, hc, ha, hb, ht]

end

end

section

/-- Settles O16: `fileLeft` says what the lane, Recent Files and the bank become, and the counts and reports before it follow
the outcome. -/
theorem drainCompletionEndsFile : Obligations.DrainCompletionEndsFile := by
  refine ⟨?drains, fun s l h => drainLane_of_not_drained h, ?amends, ?audits, ?leaves⟩
  case drains =>
    intro s l c hstate hc ha hb left
    have hleft (outcome : FileOutcome) (x : State) : left outcome x = fileLeft s l c outcome x := rfl
    refine ⟨fun ht => ?_, fun t ht => ?_⟩
    · rw [hleft, drainLane_of_no_trailer hstate hc ha hb ht, abortFile_eq]
    · intro day whole difference closed reported
      rw [drainLane_of_trailer hstate hc ha hb ht]
      have hreconciles : (whole = t.recordCount ∧ c.lost = 0 ∧ c.durationSum = t.durationSum ∧ c.chargeSum = t.chargeSum)
          ↔ reconciles c t = true := (reconciles_iff c t).symm
      rw [hreconciles]
      refine ⟨fun h => ?_, fun h => ?_⟩
      · rw [closeFile_eq (if_pos h)]
        rfl
      · rw [closeFile_eq (if_neg h)]
        refine ⟨fun hzero => congrArg (fileLeft s l c .unreconciled) ?_, fun first last hpos hfirst hlast =>
          congrArg (fileLeft s l c .unreconciled) ?_⟩
        · unfold reconcile auditFile
          split
          · rw [if_neg (by omega)]; rfl
          · rfl
        · unfold reconcile auditFile
          rw [hfirst, hlast]
          dsimp only
          rw [if_pos hpos]
          rfl
  case amends =>
    intro s day switchId code outcome hcode
    have hcode : outcome.code = code := by
      obtain ⟨rfl, rfl⟩ | ⟨rfl, rfl⟩ := hcode <;> rfl
    subst hcode
    refine ⟨fun hnone => by rw [amendDay, hnone]; rfl, fun d hd => ⟨fun hopen => ?_, fun hclosed => ?_⟩⟩
    · simp only [amendDay, hd, hopen]
    · simp only [amendDay, hd, hclosed, State.setDayRecord, dayRecord_day hd]
      rfl
  case audits =>
    intro s r switchValue
    refine ⟨fun h hfree hlow => by rw [requestAudit, freeHold_eq_some hfree hlow]; rfl, fun hfull => ?_⟩
    intro waits phase
    have hwaits (h : s.pendingHolds ≠ []) : requestAudit r s = waits (if s.pendingHolds.length < 8 then 0 else 1)
        (if s.pendingHolds.length < 8 then s.pendingHolds ++ [r] else widenNewest r s.pendingHolds) := by
      simp [requestAudit, freeHold_eq_none hfull, waitAudit, h, Config.pendingHoldLimit]
      rfl
    refine ⟨fun hempty => ?_, fun hsome hroom => ?_, fun older p hp hfullList => ?_⟩
    · have hphase : phase = s.sweeper.phase.code := by
        change (match s.sweeper.phase with | .idle => 0 | .running => 1 | .resting => 2 | .extendedRest => 3 | .stopped => 4)
          = _
        cases s.sweeper.phase <;> rfl
      have hrequest : requestAudit r s = suspendSweep (waits 0 [r]) := by
        simp [requestAudit, freeHold_eq_none hfull, waitAudit, hempty, Config.pendingHoldLimit]
        rfl
      have hcount : (List.finRange 64).countP (fun h => ((waits 0 [r]).hold h).isSome) = 64 := by
        refine countP_holds_of_full fun x => ?_
        simpa [waits, State.hold] using hfull x
      rw [hrequest, suspendSweep, hcount, hphase]
      simp [waits]
    · rw [hwaits hsome, if_pos hroom, if_pos hroom]
    · have hsome : s.pendingHolds ≠ [] := by rw [hp]; simp
      rw [hwaits hsome, if_neg (Nat.not_lt.mpr hfullList), if_neg (Nat.not_lt.mpr hfullList), hp, widenNewest_append]
      rfl
  case leaves =>
    intro s b lowered
    refine ⟨unbindFile_of_bound, fun hstate hlast => ?_⟩
    intro sealed
    have hzero : (s.bank b).boundFiles - 1 = 0 := Nat.sub_eq_zero_of_le hlast
    rw [unbindFile_of_last hstate hlast, retireBank_eq, State.bank_setBank_self, hzero]
    have hsealed : sealWhere (fun g => decide (g.key.bank = b) && decide (some g.key.generation = (s.bank b).generation))
        (s.setBank b { s.bank b with boundFiles := 0 }) = sealed := by
      rw [← hzero]; rfl
    have hbanks : sealed.banks = lowered.banks := by rw [← hsealed, sealWhere_banks, hzero.symm]; rfl
    dsimp only
    rw [hsealed, hstate]
    unfold State.setBank
    rw [hbanks]
    simp [lowered, leftCode]

end

end Sys2Proof.Machine

namespace Sys2Proof.Machine

open Sys2Proof.Safety

section
variable {s : State}

theorem setLane_setLane (s : State) (l : Fin 16) (x y : Lane) : (s.setLane l x).setLane l y = s.setLane l y := by
  simp [State.setLane]

/-! ### FILE_CLOSE and FILE_ABORT (R33, R35, R25) -/

theorem fileEnds_of_open {l : Fin 16} {c : FileContext} (hopen : (s.lane l).state = .opened)
    (hc : (s.lane l).context = some c) (trailer : Option Trailer) :
    fileEnds l trailer s
      = drainLane l (s.setLane l { s.lane l with state := .draining, context := some { c with trailer } }) := by
  simp [fileEnds, endDelivery, Lane.mapContext, hopen, hc]

theorem fileEnds_of_not_open {l : Fin 16} (h : (s.lane l).state ≠ .opened) (trailer : Option Trailer) :
    fileEnds l trailer s = countStray l s := if_neg h

/-- A lane that ends its delivery with a buffer still at the parser drains no further. -/
theorem drainLane_setLane_of_not_drained {l : Fin 16} {x : Lane} (h : ¬ (x.bufA.owner = .link ∧ x.bufB.owner = .link)) :
    drainLane l (s.setLane l x) = s.setLane l x := by
  refine if_neg ?_
  rw [State.lane_setLane_self, Lane.drained_iff]
  exact fun hdrained => h hdrained.2

/-! ### RECORD_BLOCK (R22 to R26) -/

theorem blockArrives_of_stray {l : Fin 16} {n : Nat} {records : List CallRecord}
    (h : (s.lane l).state ≠ .opened
      ∨ (s.lane l).state = .opened ∧ ∃ c, (s.lane l).context = some c ∧ 4294967295 < c.announced + records.length) :
    blockArrives l n records s = strayBlock l n records.length s := by
  unfold blockArrives
  obtain hother | ⟨hopen, c, hc, hover⟩ := h
  · split
    case h_1 hopen _ => exact absurd hopen hother
    case h_2 => rfl
  · rw [hopen, hc]
    exact if_pos hover

theorem blockArrives_of_open {l : Fin 16} {n : Nat} {records : List CallRecord} {c : FileContext}
    (hopen : (s.lane l).state = .opened) (hc : (s.lane l).context = some c)
    (hroom : c.announced + records.length ≤ 4294967295) :
    blockArrives l n records s = takeBlock l c n records s := by
  unfold blockArrives
  rw [hopen, hc]
  exact if_neg (Nat.not_lt.mpr hroom)

theorem strayBlock_eq (l : Fin 16) (n count : Nat) (s : State) :
    strayBlock l n count s = if (s.lane l).strayReport then countStray l s
      else raise .strayBlock (some l.val) n count (s.lane l).state.code
        (s.setLane l { s.lane l with strayFrames := min max32 ((s.lane l).strayFrames + 1), strayReport := true }) := by
  simp [strayBlock, countStray, setLane_setLane, satAdd]

theorem Lane.free_iff {x : Lane} {i : BufId} : x.free i = true ↔ (x.buf i).owner = .link := by simp [Lane.free]

/-- R22: the buffer that a block fills. -/
theorem Lane.target_eq {x : Lane} (h : x.bufA.owner = .link ∨ x.bufB.owner = .link) :
    x.target = some (if (x.buf x.lastFilled.other).owner = .link then x.lastFilled.other else x.lastFilled) := by
  unfold Lane.target
  simp only [Lane.free_iff]
  split
  case isTrue => rfl
  case isFalse hother =>
    have hlast : (x.buf x.lastFilled).owner = .link := by
      cases hl : x.lastFilled <;> simp_all [BufId.other, Lane.buf]
    rw [if_pos hlast]

theorem Lane.target_of_full {x : Lane} (ha : x.bufA.owner = .parser) (hb : x.bufB.owner = .parser) : x.target = none := by
  have hfull (i : BufId) : x.free i = false := by cases i <;> simp [Lane.free, Lane.buf, ha, hb]
  simp [Lane.target, hfull]

theorem Lane.setBuf_paused (x : Lane) (i : BufId) (y : LaneBuffer) : (x.setBuf i y).paused = x.paused := by
  cases i <;> rfl

theorem anyPaused_congr {t : State} (h : ∀ l, (t.lane l).paused = (s.lane l).paused) : t.anyPaused = s.anyPaused := by
  simp only [State.anyPaused, h]

/-- R26, R139, R168: a lane joins the paused set while the Feed link is UP. -/
theorem pauseLane_of_up (hup : s.feed.up = true) (l : Fin 16) :
    pauseLane l s = sentFeed [.lanePause l] { s.setLane l { s.lane l with paused := true } with
      sweeper := if s.anyPaused then s.sweeper else s.sweeper.yieldToIngest
      verifier := if s.anyPaused then s.verifier else s.verifier.yieldToIngest } := by
  unfold pauseLane
  dsimp only
  rw [sendFeed_of_up (s := s.setLane l { s.lane l with paused := true }) hup]
  cases s.anyPaused <;> rfl

theorem fillBuffer_of_free {l : Fin 16} {i : BufId} (hfree : ((s.lane l).buf i.other).owner = .link) (c : FileContext)
    (records : List CallRecord) :
    fillBuffer l i c records s = s.setLane l { (s.lane l).setBuf i { owner := .parser, records } with
      lastFilled := i
      context := some { c with announced := c.announced + records.length, pending := c.pending + records.length } } :=
  if_pos (Lane.free_iff.mpr hfree)

theorem fillBuffer_of_full {l : Fin 16} {i : BufId} (hfull : ((s.lane l).buf i.other).owner = .parser) (c : FileContext)
    (records : List CallRecord) :
    fillBuffer l i c records s = pauseLane l (s.setLane l { (s.lane l).setBuf i { owner := .parser, records } with
      lastFilled := i
      context := some { c with announced := c.announced + records.length, pending := c.pending + records.length } }) := by
  refine if_neg ?_
  rw [Lane.free_iff, hfull]
  simp

theorem execRecordBlock_of_up (hup : s.feed.up = true) {records : List CallRecord} (hsome : 1 ≤ records.length)
    (hmany : records.length ≤ 170) (l : Fin 16) (n : Nat) :
    exec (.recordBlock l n records) s = .next (flushReports (startBuffer (blockArrives l n records (heardFeed s)))) := by
  have hgood : ¬ (records.length = 0 ∨ Config.blockRecordLimit < records.length) := by
    simp only [Config.blockRecordLimit]; omega
  have h : exec (.recordBlock l n records) s
      = .next (flushReports (startBuffer (blockArrives l n records (receiveGood .feed s)))) := if_neg hgood
  rw [h, receiveGood_feed_of_up hup]

/-! ### The parser's next buffer (R28) -/

theorem Lane.toParse_eq_none {x : Lane} (ha : x.bufA.owner = .link) (hb : x.bufB.owner = .link) : x.toParse = none := by
  have hfree (i : BufId) : x.free i = true := by cases i <;> simp [Lane.free, Lane.buf, ha, hb]
  simp [Lane.toParse, hfree]

/-- R22, R28: of the parser's buffers the one filled earlier. -/
theorem Lane.toParse_eq_some {x : Lane} {i : BufId} (howner : (x.buf i).owner = .parser)
    (hearlier : (x.buf i.other).owner = .parser → x.lastFilled = i.other) : x.toParse = some i := by
  have hfree : x.free i = false := by simp [Lane.free, howner]
  by_cases hother : (x.buf i.other).owner = .parser
  · have hback : i.other.other = i := by cases i <;> rfl
    simp [Lane.toParse, hearlier hother, hback, hfree]
  · have hlink : x.free i.other = true := Lane.free_iff.mpr (by cases h : (x.buf i.other).owner <;> simp_all)
    cases hl : x.lastFilled <;> cases i <;> simp_all [Lane.toParse, BufId.other]

theorem startBuffer_of_busy (h : s.parser.phase ≠ .idle) : startBuffer s = s := by
  unfold startBuffer
  split
  case h_1 hidle => exact absurd hidle h
  all_goals rfl

theorem startBuffer_of_none (hnone : ∀ l, (s.lane l).toParse = none) : startBuffer s = s := by
  have hfound : (laneOrder s.parser.lastLane).find? (fun l => (s.lane l).toParse.isSome) = none :=
    List.find?_eq_none.mpr fun l _ => by simp [hnone l]
  unfold startBuffer
  split
  · rw [hfound]
  all_goals rfl

theorem startBuffer_of_first {l : Fin 16} {i : BufId} (hidle : s.parser.phase = .idle)
    (hfound : (laneOrder s.parser.lastLane).find? (fun l => (s.lane l).toParse.isSome) = some l)
    (htaken : (s.lane l).toParse = some i) :
    startBuffer s = { s with parser := { phase := .parsing l i 0, lastLane := l } } := by
  simp only [startBuffer, hidle, hfound, htaken]

theorem find?_laneOrder {last k : Fin 16} {p : Fin 16 → Bool} (hk : p (last + 1 + k) = true)
    (hbefore : ∀ j < k, p (last + 1 + j) = false) : (laneOrder last).find? p = some (last + 1 + k) := by
  refine List.find?_eq_some_iff_getElem.mpr ⟨hk, k.val, by simp [laneOrder], by simp [laneOrder], fun j hj => ?_⟩
  have hj16 : j < 16 := hj.trans k.isLt
  simpa [laneOrder] using hbefore ⟨j, hj16⟩ hj

end

section

/-- Settles O17. -/
theorem parserTakesNextLane : Obligations.ParserTakesNextLane := by
  intro s
  refine ⟨startBuffer_of_busy, fun _ hlinks => ?_, fun k i hidle hbefore howner hearlier => ?_⟩
  · exact startBuffer_of_none fun l => Lane.toParse_eq_none (hlinks l).1 (hlinks l).2
  · have htaken := Lane.toParse_eq_some howner hearlier
    have hfound : (laneOrder s.parser.lastLane).find? (fun l => (s.lane l).toParse.isSome)
        = some (s.parser.lastLane + 1 + k) := by
      refine find?_laneOrder (by rw [htaken]; rfl) fun j hj => ?_
      obtain ⟨ha, hb⟩ := hbefore j hj
      rw [Lane.toParse_eq_none ha hb]
      rfl
    exact startBuffer_of_first hidle hfound htaken

/-- Settles O15. -/
theorem fileEndsDelivery : Obligations.FileEndsDelivery := by
  intro s l c hup hopen hc ended drained
  have hclose (a b d : Nat) : exec (.fileClose l a b d) s
      = .next (settle (drainLane l (ended (some { recordCount := a, durationSum := b, chargeSum := d })))) := by
    have h := fileEnds_of_open (s := heardFeed s) hopen hc (some { recordCount := a, durationSum := b, chargeSum := d })
    change Host.Outcome.next (settle (fileEnds l _ (receiveGood .feed s))) = _
    rw [receiveGood_feed_of_up hup, h]
    rfl
  have habort : exec (.fileAbort l) s = .next (settle (drainLane l (ended none))) := by
    change Host.Outcome.next (settle (fileEnds l none (receiveGood .feed s))) = _
    rw [receiveGood_feed_of_up hup, fileEnds_of_open (s := heardFeed s) hopen hc]
    rfl
  have hwaits (h : ¬ drained) (trailer : Option Trailer) : drainLane l (ended trailer) = ended trailer :=
    drainLane_setLane_of_not_drained h
  refine ⟨?_, fun _ => habort, fun h => ?_⟩
  · intro a b d t
    exact ⟨fun _ => hclose a b d, fun h => by rw [hclose, hwaits h]⟩
  · rw [habort, hwaits h]

/-- Settles O14. -/
theorem strayLaneFrames : Obligations.StrayLaneFrames := by
  intro s l hup counted strayed
  have hstrayed : countStray l (heardFeed s) = strayed := rfl
  refine ⟨fun hother => ⟨fun a b c => ?_, ?_⟩, fun n records => ⟨fun hsome hmany hstray => ?_, fun hbad => ?_⟩⟩
  · change Host.Outcome.next (settle (fileEnds l _ (receiveGood .feed s))) = _
    rw [receiveGood_feed_of_up hup, fileEnds_of_not_open (s := heardFeed s) hother, hstrayed]
  · change Host.Outcome.next (settle (fileEnds l _ (receiveGood .feed s))) = _
    rw [receiveGood_feed_of_up hup, fileEnds_of_not_open (s := heardFeed s) hother, hstrayed]
  · rw [execRecordBlock_of_up hup hsome hmany, blockArrives_of_stray (s := heardFeed s) hstray, strayBlock_eq, hstrayed]
    rfl
  · exact if_pos (hbad.imp id id)

/-- Settles O12. -/
theorem recordBlockFillsBuffer : Obligations.RecordBlockFillsBuffer := by
  intro s l n records c hup hsome hmany hopen hc hroom hfree x i context filled heard
  have htarget : (heard.lane l).target = some i := Lane.target_eq hfree
  have htaken : takeBlock l c n records heard = fillBuffer l i (c.countBlock n) records heard := by
    simp only [takeBlock, htarget]
  rw [execRecordBlock_of_up hup hsome hmany, blockArrives_of_open (s := heard) hopen hc hroom, htaken]
  refine ⟨fun hother => ?_, fun hother => ?_⟩
  · rw [fillBuffer_of_free (s := heard) hother]
    rfl
  · have hpaused : (heard.setLane l filled).anyPaused = s.anyPaused := by
      refine anyPaused_congr fun m => ?_
      rw [State.lane_setLane]
      split
      case isTrue h => subst h; exact Lane.setBuf_paused ..
      case isFalse => rfl
    have hlane : (heard.setLane l filled).lane l = filled := State.lane_setLane_self ..
    rw [fillBuffer_of_full (s := heard) hother]
    change Host.Outcome.next (flushReports (startBuffer (pauseLane l (heard.setLane l filled)))) = _
    rw [pauseLane_of_up (s := heard.setLane l filled) hup, hpaused, hlane, setLane_setLane]
    rfl

/-- Settles O13. -/
theorem recordBlockOverruns : Obligations.RecordBlockOverruns := by
  intro s l n records c hup hsome hmany hopen hc hroom ha hb count context added
  have hnone : ((heardFeed s).lane l).target = none := Lane.target_of_full ha hb
  have htaken : takeBlock l c n records (heardFeed s)
      = overrunBlock l (c.countBlock n) n records.length (heardFeed s) := by simp only [takeBlock, hnone]
  rw [execRecordBlock_of_up hup hsome hmany, blockArrives_of_open (s := heardFeed s) hopen hc hroom, htaken]
  rfl

end

end Sys2Proof.Machine

namespace Sys2Proof.Machine

open Sys2Proof.Safety

section
variable {s : State}

/-! ### The bank that a file binds (R18, R19, R54) -/

theorem activeBank_of_active (hs : BanksSound s) {b : Fin 4} (h : (s.bank b).state = .active) : s.activeBank = some b := by
  cases hfound : s.activeBank with
  | none => exact absurd h (activeBank_eq_none hfound b)
  | some a => rw [hs.1 a b (activeBank_eq_some hfound) h]

theorem activeBank_of_none (h : ∀ b, (s.bank b).state ≠ .active) : s.activeBank = none := by
  cases hfound : s.activeBank with
  | none => rfl
  | some a => exact absurd (activeBank_eq_some hfound) (h a)

theorem bankToBind_eq (s : State) (active : Fin 4) : s.bankToBind active = bindsTo s active := by
  unfold State.bankToBind bindsTo
  cases s.selection with
  | none => rfl
  | some sel =>
    obtain ⟨bank, mode⟩ := sel
    cases mode <;> rfl

/-- The bank selected, where it is not the bank superseded. -/
theorem bank_selectBank_self {b : Fin 4} (hb : (s.bank b).state ≠ .active) (how : SelectedBy) :
    (selectBank b how s).bank b = { s.bank b with state := .active } := by
  unfold selectBank
  dsimp only
  split
  case h_1 => rw [bank_raise, State.bank_setBank_self]
  case h_2 old hold =>
    have hne : old ≠ b := by
      rintro rfl
      exact hb (activeBank_eq_some hold)
    rw [bank_supersede, if_neg hne, bank_raise, State.bank_setBank_self]

theorem selectBank_lanes (b : Fin 4) (how : SelectedBy) (s : State) : (selectBank b how s).lanes = s.lanes := by
  have h := congrArg State.lanes (outsideRetire_selectBank s b how)
  exact h

theorem selectBank_recent (b : Fin 4) (how : SelectedBy) (s : State) : (selectBank b how s).recent = s.recent := by
  have h := congrArg State.recent (outsideRetire_selectBank s b how)
  exact h

/-! ### Recent Files (R18, R20, R21) -/

theorem isAborted_iff {switch fileNumber : Nat} {e : RecentEntry} :
    e.isAborted switch fileNumber = true ↔ AbortedFor switch fileNumber e := by
  simp only [RecentEntry.isAborted, RecentEntry.isFor, AbortedFor, Bool.and_eq_true, decide_eq_true_eq]
  exact and_comm

theorem newestAborted_eq_none {recent : List RecentEntry} {switch fileNumber : Nat}
    (h : ∀ e ∈ recent, ¬ AbortedFor switch fileNumber e) : newestAborted recent switch fileNumber = none :=
  List.find?_eq_none.mpr fun e he => by rw [isAborted_iff]; exact h e (List.mem_reverse.mp he)

section
variable {older newer : List RecentEntry} {e : RecentEntry} {switch fileNumber : Nat}
  (he : AbortedFor switch fileNumber e) (hnewer : ∀ x ∈ newer, ¬ AbortedFor switch fileNumber x)
include he hnewer

theorem newestAborted_append : newestAborted (older ++ e :: newer) switch fileNumber = some e := by
  have hnone : newer.reverse.find? (RecentEntry.isAborted switch fileNumber) = none := newestAborted_eq_none hnewer
  simp [newestAborted, List.find?_append, hnone, isAborted_iff.mpr he]

theorem withoutAborted_append : withoutAborted (older ++ e :: newer) switch fileNumber = older ++ newer := by
  have hkept (x : RecentEntry) (hx : x ∈ newer.reverse) : ¬ RecentEntry.isAborted switch fileNumber x = true := by
    rw [isAborted_iff]
    exact hnewer x (List.mem_reverse.mp hx)
  simp [withoutAborted, List.eraseP_append_right _ hkept, isAborted_iff.mpr he]

end

theorem closedBefore_eq (recent : List RecentEntry) (switch fileNumber : Nat) :
    closedBefore recent switch fileNumber = recent.any fun e => e.context.switch == switch
      && e.context.fileNumber == fileNumber && e.outcome != .aborted := by
  unfold closedBefore
  congr 1
  funext e
  simp [RecentEntry.isFor, Bool.beq_eq_decide_eq, bne]

/-! ### FILE_OPEN (R18 to R21) -/

theorem openElsewhere_iff {l : Fin 16} {switch fileNumber : Nat} :
    openElsewhere s l switch fileNumber = true ↔ HeldByOther s l switch fileNumber := by
  unfold openElsewhere HeldByOther
  simp only [List.any_eq_true, List.mem_finRange, true_and, Bool.and_eq_true, decide_eq_true_eq, and_assoc]
  refine exists_congr fun o => and_congr_right fun _ => and_congr_right fun _ => ?_
  cases (s.lane o).context <;> simp

theorem refusalOf_of_starting (h : s.device = .starting) (l : Fin 16) (cf : Bool) (switch fileNumber : Nat) :
    refusalOf l cf switch fileNumber s = some .notRunning := if_pos h

theorem refusalOf_of_no_bank (h : s.device = .running) (hnone : s.activeBank = none) (l : Fin 16) (cf : Bool)
    (switch fileNumber : Nat) : refusalOf l cf switch fileNumber s = some .noTables := by
  simp [refusalOf, h, hnone]

theorem refusalOf_of_bank (h : s.device = .running) {active : Fin 4} (hactive : s.activeBank = some active) (l : Fin 16)
    (cf : Bool) (switch fileNumber : Nat) :
    refusalOf l cf switch fileNumber s
      = if (s.lane l).state ≠ .idle then some .laneBusy
        else if !((s.bank (bindsTo s active)).switchOf switch).enabled then some .switchUnknown
        else if openElsewhere s l switch fileNumber then some .alreadyOpen
        else if cf && (newestAborted s.recent switch fileNumber).isNone then some .continueNotFound
        else none := by
  have hrunning : ¬ s.device = .starting := by rw [h]; exact nofun
  rw [refusalOf, if_neg hrunning, hactive]
  dsimp only
  rw [bankToBind_eq]

/-- The file context and the place of an accepted file (R19 steps 2 to 4). -/
theorem bindFile_eq (l : Fin 16) (cf : Bool) (switch fileNumber : Nat) (b : Fin 4) (s : State) :
    bindFile l cf switch fileNumber b s
      = { s.setBank b { s.bank b with boundFiles := (s.bank b).boundFiles + 1 } with
          recent := if cf then withoutAborted s.recent switch fileNumber else s.recent
          lanes := s.lanes.set l { s.lane l with
            state := .opened
            context := some (contextFor s cf switch fileNumber b ((s.bank b).generation.getD 0)), strayReport := false } } := by
  cases cf <;> rfl

theorem acceptFile_of_active {l : Fin 16} {b : Fin 4} (cf : Bool) (switch fileNumber : Nat)
    (h : (takeSelection .nextFile .nextFile s).activeBank = some b) :
    acceptFile l cf switch fileNumber s = bindFile l cf switch fileNumber b (takeSelection .nextFile .nextFile s) := by
  simp only [acceptFile, h]

/-- R19 step 1: a pending NEXT_FILE selection takes effect. -/
theorem takeSelection_nextFile (hs : BanksSound s) {active : Fin 4} (hactive : (s.bank active).state = .active) :
    takeSelection .nextFile .nextFile s
      = if bindsTo s active = active then s else selectBank (bindsTo s active) .nextFile s := by
  unfold takeSelection bindsTo
  cases hsel : s.selection with
  | none => simp
  | some sel =>
    obtain ⟨bank, mode⟩ := sel
    cases mode with
    | dayClose => simp
    | nextFile =>
      have hready : (s.bank bank).state = .ready := hs.2 _ hsel
      have hne : bank ≠ active := by
        rintro rfl
        rw [hactive] at hready
        cases hready
      simp [hne]

theorem bindsTo_ne_active (hs : BanksSound s) {active : Fin 4} (hne : bindsTo s active ≠ active) :
    (s.bank (bindsTo s active)).state ≠ .active := by
  unfold bindsTo at hne ⊢
  split
  case h_1 bank hsel => rw [hs.2 _ hsel]; exact nofun
  case h_2 hother =>
    split at hne
    case h_1 bank hsel => exact absurd hsel (hother bank)
    case h_2 => exact absurd rfl hne

end

section

/-- Settles O10: the tests of `refusalOf` in their order. -/
theorem fileOpenRefused : Obligations.FileOpenRefused := by
  intro s l cf switch fileNumber hup hs refused
  have hrefused {reason : RefusalReason} (h : refusalOf l cf switch fileNumber s = some reason) : refused reason.code := by
    change Host.Outcome.next (settle (openFile l cf switch fileNumber (receiveGood .feed s))) = _
    have hheard : refusalOf l cf switch fileNumber (heardFeed s) = some reason := h
    rw [receiveGood_feed_of_up hup, openFile, hheard]
  refine ⟨fun hstarting => hrefused (reason := .notRunning) (refusalOf_of_starting hstarting ..), fun hrunning hnone => ?_,
    fun active hrunning hactive => ?_⟩
  · exact hrefused (reason := .noTables) (refusalOf_of_no_bank hrunning (activeBank_of_none hnone) ..)
  · have hcases := refusalOf_of_bank hrunning (activeBank_of_active hs hactive) l cf switch fileNumber
    refine ⟨fun hbusy => hrefused (reason := .laneBusy) (by rw [hcases, if_pos hbusy]), fun hidle => ?_⟩
    rw [if_neg (not_not.mpr hidle)] at hcases
    refine ⟨fun hunknown => hrefused (reason := .switchUnknown) (by rw [hcases, hunknown]; rfl), fun henabled => ?_⟩
    rw [henabled, if_neg (by simp)] at hcases
    refine ⟨fun hheld => hrefused (reason := .alreadyOpen) (by rw [hcases, if_pos (openElsewhere_iff.mpr hheld)]),
      fun hheld hcontinue hmissing => hrefused (reason := .continueNotFound) ?_⟩
    rw [hcases, if_neg (mt openElsewhere_iff.mp hheld), hcontinue, newestAborted_eq_none hmissing]
    rfl

/-- Settles O11: no test of R18 applies, the selection leaves the bank that the file binds ACTIVE, and the context is new or
that of the newest ABORTED entry. -/
theorem fileOpenAccepted : Obligations.FileOpenAccepted := by
  intro s l switch fileNumber active g hup hs hrunning hactive hidle henabled hheld hgeneration bank heard selected opened
  have hselected : takeSelection .nextFile .nextFile heard = selected := takeSelection_nextFile (s := heard) hs hactive
  have hsound : BanksSound selected := hselected ▸ (keeps_takeSelection .nextFile .nextFile heard).part .banks hs
  obtain ⟨hbank, hlanes, hrecent⟩ : selected.bank bank = { s.bank bank with state := .active }
      ∧ selected.lanes = s.lanes ∧ selected.recent = s.recent := by
    by_cases hsame : bank = active
    · have h : selected = heard := if_pos hsame
      rw [h, hsame, ← hactive]
      exact ⟨rfl, rfl, rfl⟩
    · have h : selected = selectBank bank .nextFile heard := if_neg hsame
      rw [h]
      exact ⟨bank_selectBank_self (s := heard) (bindsTo_ne_active hs hsame) .nextFile, selectBank_lanes .., selectBank_recent ..⟩
  have hfound : selected.activeBank = some bank := activeBank_of_active hsound (by rw [hbank])
  have hgiven : (selected.bank bank).generation.getD 0 = g := by
    rw [hbank]
    simp [bank, hgeneration]
  have haccepted {cf : Bool} (h : refusalOf l cf switch fileNumber s = none) :
      exec (.fileOpen l cf switch fileNumber) s = .next (opened (contextFor selected cf switch fileNumber bank g)
        (if cf then withoutAborted s.recent switch fileNumber else s.recent)) := by
    change Host.Outcome.next (settle (openFile l cf switch fileNumber (receiveGood .feed s))) = _
    have hheard : refusalOf l cf switch fileNumber heard = none := h
    have hopen : openFile l cf switch fileNumber heard = acceptFile l cf switch fileNumber heard := by
      simp only [openFile, hheard]
    rw [receiveGood_feed_of_up hup, hopen, acceptFile_of_active cf switch fileNumber (by rw [hselected]; exact hfound),
      hselected, bindFile_eq, hgiven, hrecent]
    simp only [opened, State.lane, hlanes]
  have hcases (cf : Bool) := refusalOf_of_bank hrunning (activeBank_of_active hs hactive) l cf switch fileNumber
  have hnotHeld : ¬ openElsewhere s l switch fileNumber = true := mt openElsewhere_iff.mp hheld
  refine ⟨?_, fun older e newer hlist he hnewer => ?_⟩
  · have h := haccepted (cf := false) (by rw [hcases]; simp [hidle, henabled, hnotHeld])
    rw [h]
    simp only [contextFor, closedBefore_eq, hrecent]
    rfl
  · have hnewest : newestAborted s.recent switch fileNumber = some e := hlist ▸ newestAborted_append he hnewer
    have h := haccepted (cf := true) (by rw [hcases]; simp [hidle, henabled, hnotHeld, hnewest])
    rw [h]
    have hleft : withoutAborted s.recent switch fileNumber = older ++ newer := hlist ▸ withoutAborted_append he hnewer
    simp only [contextFor, hrecent, hnewest, if_true, hleft]

end

end Sys2Proof.Machine

namespace Sys2Proof.Machine

open Sys2Proof.Safety

section
variable {s : State}

/-! ### What drain completions leave (R34) -/

/-- The state with the fields that a drain completion can change blanked out: the lanes, Recent Files, the banks, the segments
that a retirement seals, and the books. The selection is left in. -/
def outsideDrain (s : State) : State :=
  { outsideBooks (outsideRetire s) with lanes := Vector.replicate 16 {}, recent := [], selection := s.selection }

theorem outsideDrain_of_retire {t : State} (h : outsideRetire t = outsideRetire s) (hsel : t.selection = s.selection) :
    outsideDrain t = outsideDrain s := by
  unfold outsideDrain
  rw [h, hsel]

theorem outsideDrain_of_books {t : State} (h : outsideBooks t = outsideBooks s) : outsideDrain t = outsideDrain s := by
  have h' := congrArg (fun x : State => outsideDrain x) h
  exact h'

theorem unbindFile_selection (b : Fin 4) (s : State) : (unbindFile b s).selection = s.selection := by
  unfold unbindFile
  dsimp only
  split
  · exact retireBank_selection ..
  · rfl

theorem outsideDrain_fileLeft (s : State) (l : Fin 16) (c : FileContext) (outcome : FileOutcome) (x : State) :
    outsideDrain (fileLeft s l c outcome x) = outsideDrain x :=
  (outsideDrain_of_retire (outsideRetire_unbindFile ..) (unbindFile_selection ..)).trans rfl

theorem outsideDrain_drainLane (l : Fin 16) (s : State) : outsideDrain (drainLane l s) = outsideDrain s := by
  unfold drainLane
  dsimp only
  split
  case isFalse => rfl
  case isTrue =>
    split
    · rfl
    · split
      · rw [abortFile_eq, outsideDrain_fileLeft]
        exact outsideDrain_of_books (outsideBooks_raiseOn ..)
      · rw [closeFile_eq rfl, outsideDrain_fileLeft]
        exact outsideDrain_of_books (outsideBooks_reconcile ..)

theorem outsideDrain_foldl_drainLane (ls : List (Fin 16)) (s : State) :
    outsideDrain (ls.foldl (fun x l => drainLane l x) s) = outsideDrain s := by
  induction ls generalizing s with
  | nil => rfl
  | cons l ls ih => rw [List.foldl_cons, ih, outsideDrain_drainLane]

/-- A lane after its drain completion, where that is due (R34). -/
def Lane.afterDrain (x : Lane) : Lane :=
  if x.state = .draining ∧ x.drained = true ∧ x.context ≠ none then { x with state := .idle, context := none } else x

theorem Lane.afterDrain_afterDrain (x : Lane) : x.afterDrain.afterDrain = x.afterDrain := by
  have hidle : ({ x with state := .idle, context := none } : Lane).afterDrain = { x with state := .idle, context := none } :=
    if_neg (by simp)
  by_cases h : x.state = .draining ∧ x.drained = true ∧ x.context ≠ none
  · have hx : x.afterDrain = { x with state := .idle, context := none } := if_pos h
    rw [hx, hidle]
  · have hx : x.afterDrain = x := if_neg h
    rw [hx, hx]

theorem fileLeft_lane (s : State) (l m : Fin 16) (c : FileContext) (outcome : FileOutcome) (x : State) :
    (fileLeft s l c outcome x).lane m
      = if m = l then { s.lane l with state := .idle, context := none } else s.lane m := by
  unfold fileLeft
  simp only [State.lane, lanes_unbindFile]
  have h := State.lane_setLane s l m { s.lane l with state := .idle, context := none }
  simp only [eq_comm (a := m)]
  exact h

theorem lane_drainLane (l m : Fin 16) (s : State) :
    (drainLane l s).lane m = if m = l then (s.lane l).afterDrain else s.lane m := by
  unfold drainLane Lane.afterDrain
  dsimp only
  by_cases hdue : (s.lane l).state = .draining ∧ (s.lane l).drained = true
  · rw [if_pos hdue]
    obtain ⟨hstate, hdrained⟩ := hdue
    cases hc : (s.lane l).context with
    | none => split <;> simp_all
    | some c =>
      have hafter : (s.lane l).state = .draining ∧ (s.lane l).drained = true ∧ some c ≠ none := ⟨hstate, hdrained, nofun⟩
      rw [if_pos hafter]
      dsimp only
      split
      · rw [abortFile_eq, fileLeft_lane]
      · rw [closeFile_eq rfl, fileLeft_lane]
  · have hafter : ¬ ((s.lane l).state = .draining ∧ (s.lane l).drained = true ∧ (s.lane l).context ≠ none) :=
      fun h => hdue ⟨h.1, h.2.1⟩
    rw [if_neg hdue, if_neg hafter]
    split <;> simp_all

theorem lane_foldl_drainLane (ls : List (Fin 16)) (s : State) (m : Fin 16) :
    (ls.foldl (fun x l => drainLane l x) s).lane m = if m ∈ ls then (s.lane m).afterDrain else s.lane m := by
  induction ls generalizing s with
  | nil => simp
  | cons l ls ih =>
    rw [List.foldl_cons, ih, lane_drainLane]
    by_cases h : m = l
    · subst h
      simp [Lane.afterDrain_afterDrain]
    · simp [h]

/-! ### Feed link loss (R36) -/

/-- An OPEN lane that drains with its trailer absent (R36). -/
def Lane.lossDrains (x : Lane) : Lane := if x.state = .opened
  then { x with state := .draining, context := x.context.map fun c => { c with trailer := none } } else x

theorem setLane_lane (s : State) (l : Fin 16) : s.setLane l (s.lane l) = s := by
  simp [State.setLane, State.lane]

theorem endOpenLane_eq (s : State) (l : Fin 16) : endOpenLane s l = s.setLane l (s.lane l).lossDrains := by
  unfold endOpenLane Lane.lossDrains
  split
  · rfl
  · exact (setLane_lane s l).symm

/-- One operation on every lane in turn is the operation on the vector of lanes. -/
theorem foldl_setLane_all (f : Lane → Lane) (s : State) :
    (List.finRange 16).foldl (fun x l => x.setLane l (f (x.lane l))) s = { s with lanes := s.lanes.map f } := by
  have hframe (ls : List (Fin 16)) (x : State) : ls.foldl (fun x l => x.setLane l (f (x.lane l))) x
      = { x with lanes := (ls.foldl (fun x l => x.setLane l (f (x.lane l))) x).lanes } := by
    induction ls generalizing x with
    | nil => rfl
    | cons l ls ih => rw [List.foldl_cons, ih]; rfl
  have hlane (ls : List (Fin 16)) (hls : ls.Nodup) (x : State) (m : Fin 16) :
      (ls.foldl (fun x l => x.setLane l (f (x.lane l))) x).lane m = if m ∈ ls then f (x.lane m) else x.lane m := by
    induction ls generalizing x with
    | nil => simp
    | cons l ls ih =>
      obtain ⟨hl, hls⟩ := List.nodup_cons.mp hls
      rw [List.foldl_cons, ih hls, State.lane_setLane]
      by_cases h : l = m
      · subst h; simp [hl]
      · have h' : m ≠ l := fun e => h e.symm
        simp [h, h']
  rw [hframe]
  congr 1
  ext i hi : 1
  have h := hlane (List.finRange 16) (List.nodup_finRange 16) s ⟨i, hi⟩
  simpa [State.lane] using h

theorem feedLossAtLanes_eq (s : State) :
    feedLossAtLanes s
      = (List.finRange 16).foldl (fun x l => drainLane l x) { s with lanes := s.lanes.map Lane.lossDrains } := by
  have h : (List.finRange 16).foldl endOpenLane s = { s with lanes := s.lanes.map Lane.lossDrains } := by
    rw [← foldl_setLane_all]
    congr 1
    funext x l
    exact endOpenLane_eq x l
  rw [feedLossAtLanes, h]

theorem afterDrain_lossDrains {x : Lane} (h : x.context = none → x.state = .idle) :
    x.lossDrains.afterDrain = laneAfterLoss x := by
  unfold laneAfterLoss
  cases hstate : x.state with
  | idle => simp [Lane.lossDrains, Lane.afterDrain, hstate]
  | opened =>
    have hc : x.context ≠ none := fun hnone => by simp [h hnone] at hstate
    simp [Lane.lossDrains, Lane.afterDrain, hstate, hc, Lane.drained, Lane.free, Lane.buf]
  | draining =>
    have hc : x.context ≠ none := fun hnone => by simp [h hnone] at hstate
    simp [Lane.lossDrains, Lane.afterDrain, hstate, hc, Lane.drained, Lane.free, Lane.buf]

/-! ### The loss of a link (R183) -/

/-- An UP link whose receiver loses lock, or that has been silent for 50 ms (R183). -/
def LossDue (s : State) (cause : LossCause) (x : Port) : Prop := x.up = true ∧ (cause = .lockLost ∨ 50 ≤ s.since x.lastGood)

/-- A port whose link is lost (R183). -/
def Port.lost (cause : LossCause) (x : Port) : Port :=
  { x with up := false, locked := if cause = .lockLost then false else x.locked }

theorem lossDue_iff (cause : LossCause) (p : PortId) :
    ((s.port p).up && lossIsDue cause s p) = true ↔ LossDue s cause (s.port p) := by
  cases cause <;> simp [LossDue, lossIsDue, Config.linkSilenceLimit]

theorem loseLink_of_due {cause : LossCause} {p : PortId} (h : LossDue s cause (s.port p)) :
    loseLink cause p s = linkGoesDown p (s.setPort p ((s.port p).lost cause)) := by
  have hlocked : lockedAfter cause (s.port p).locked = if cause = .lockLost then false else (s.port p).locked := by
    cases cause <;> rfl
  have hlost : loseLink cause p s = linkGoesDown p
      (s.setPort p { s.port p with up := false, locked := lockedAfter cause (s.port p).locked }) :=
    if_pos ((lossDue_iff cause p).mpr h)
  rw [hlost, hlocked]
  rfl

theorem loseLink_of_not_due {cause : LossCause} {p : PortId} (h : ¬ LossDue s cause (s.port p)) : loseLink cause p s = s :=
  if_neg (mt (lossDue_iff cause p).mp h)

theorem settle_of_down (h : s.feed.up = false) : settle s = arbitrate s := by
  refine flushReports_of_down _ ?_
  have hkept := congrArg State.feed (arbitrate_frame s)
  have hkept : (arbitrate s).feed = s.feed := hkept
  rw [hkept, h]

end

section

/-- Settles O9: the lanes by `lossDrains` and then `afterDrain`, the rest by what drain completions and grants leave. -/
theorem linkLossDrainsLanes : Obligations.LinkLossDrainsLanes := by
  intro s cause due down
  refine ⟨fun h => ?_, fun h => ?_, ?_, fun h => ?_⟩
  · exact congrArg Host.Outcome.next (loseLink_of_due (p := .store) h)
  · exact congrArg Host.Outcome.next (loseLink_of_not_due (p := .store) h)
  · intro h t
    let lost : State := { s with feed := s.feed.lost cause, lanes := s.lanes.map Lane.lossDrains }
    obtain ⟨drained, hdrained⟩ : ∃ d, d = (List.finRange 16).foldl (fun x l => drainLane l x) lost := ⟨_, rfl⟩
    have ht : t = settle drained := congrArg settle hdrained.symm
    have hlane (l : Fin 16) : drained.lane l = (lost.lane l).afterDrain := by
      rw [hdrained, lane_foldl_drainLane, if_pos (List.mem_finRange l)]
    have houtside : outsideDrain drained = outsideDrain lost := hdrained ▸ outsideDrain_foldl_drainLane ..
    have hfeed : drained.feed = s.feed.lost cause := by
      have h := congrArg State.feed houtside
      exact h
    have hgranted : t = drained.grantedAs (arbitrate drained)
        { drained.store with lastSent := (arbitrate drained).store.lastSent } := by
      have hdown : drained.feed.up = false := by rw [hfeed]; rfl
      rw [ht, settle_of_down hdown]
      exact arbitrate_frame drained
    have hexec : exec (.feedLinkLoss cause) s = .next t := by
      have hlanes : feedLossAtLanes { s with feed := s.feed.lost cause } = drained :=
        (feedLossAtLanes_eq { s with feed := s.feed.lost cause }).trans hdrained.symm
      change Host.Outcome.next (loseLink cause .feed s) = _
      rw [loseLink_of_due (p := .feed) h]
      change Host.Outcome.next (settle (feedLossAtLanes { s with feed := s.feed.lost cause })) = _
      rw [hlanes, ht]
    have hgrant {α : Type} (f : State → α) (hf : ∀ x y p, f (x.grantedAs y p) = f x) : f t = f drained :=
      (congrArg f hgranted).trans (hf ..)
    have hkept {α : Type} (f : State → α) (hf : ∀ x y p, f (x.grantedAs y p) = f x) (hblank : ∀ x, f (outsideDrain x) = f x)
        (hlost : f lost = f s) : f t = f s := by
      rw [hgrant f hf, ← hblank drained, houtside, hblank, hlost]
    refine ⟨hexec, ?_, ?_, fun haccounts l => ?_, ?_, ?_, ?_, ?_, ?_, ?_, ?_, ?_, ?_, ?_, ?_, ?_⟩
    · exact (hgrant State.feed fun _ _ _ => rfl).trans hfeed
    · exact hkept State.feedTx (fun _ _ _ => rfl) (fun _ => rfl) rfl
    · have hgranted : t.lane l = drained.lane l := hgrant (fun x => x.lane l) fun _ _ _ => rfl
      have hmapped : lost.lane l = (s.lane l).lossDrains := by simp [lost, State.lane]
      rw [hgranted, hlane, hmapped]
      obtain ⟨-, -, hidle, -⟩ := haccounts l
      exact afterDrain_lossDrains fun hnone => (hidle hnone).1
    · exact hkept State.parser (fun _ _ _ => rfl) (fun _ => rfl) rfl
    · exact hkept State.control (fun _ _ _ => rfl) (fun _ => rfl) rfl
    · exact hkept State.device (fun _ _ _ => rfl) (fun _ => rfl) rfl
    · exact hkept State.runTime (fun _ _ _ => rfl) (fun _ => rfl) rfl
    · exact hkept State.params (fun _ _ _ => rfl) (fun _ => rfl) rfl
    · exact hkept State.clock (fun _ _ _ => rfl) (fun _ => rfl) rfl
    · exact hkept State.filter (fun _ _ _ => rfl) (fun _ => rfl) rfl
    · exact hkept State.selection (fun _ _ _ => rfl) (fun _ => rfl) rfl
    · exact hkept State.loadCounter (fun _ _ _ => rfl) (fun _ => rfl) rfl
    · exact hkept State.freeIds (fun _ _ _ => rfl) (fun _ => rfl) rfl
    · exact hkept State.fullWaits (fun _ _ _ => rfl) (fun _ => rfl) rfl
    · exact hkept State.stall (fun _ _ _ => rfl) (fun _ => rfl) rfl
  · exact congrArg Host.Outcome.next (loseLink_of_not_due (p := .feed) h)

end

end Sys2Proof.Machine

namespace Sys2Proof.Machine

open Sys2Proof.Safety

section
variable (cs : List QueuedRequest) (s : State)

/-! ### The catalog and the encoder beside the control queue -/

theorem updateBufferOf_queueing (id : Nat) (f : SegmentBuffer → SegmentBuffer) :
    (s.queueing cs).updateBufferOf id f = (s.updateBufferOf id f).queueing cs := by
  unfold State.updateBufferOf
  rw [State.queueing_bufferOf]
  split <;> rfl

theorem refreshStall_queueing : refreshStall (s.queueing cs) = (refreshStall s).queueing cs := by
  unfold refreshStall
  rw [State.queueing_stall]
  split <;> rfl

theorem clearCatalogFull_queueing (id : Nat) : clearCatalogFull id (s.queueing cs) = (clearCatalogFull id s).queueing cs := by
  unfold clearCatalogFull
  rw [State.queueing_catalogFull]
  split
  · exact raise_queueing _ _ _ _ _ cs { s with catalogFull := false }
  · rfl

theorem dropEntryReference_queueing (e : CatalogEntry) :
    dropEntryReference e (s.queueing cs) = (dropEntryReference e s).queueing cs := by
  unfold dropEntryReference dropReference
  split
  · rfl
  · rw [State.queueing_bank]
    split <;> rfl

theorem freeEntry_queueing (id : Nat) : freeEntry id (s.queueing cs) = (freeEntry id s).queueing cs := by
  unfold freeEntry
  dsimp only
  rw [← clearCatalogFull_queueing, ← refreshStall_queueing, ← dropEntryReference_queueing]
  rfl

theorem discardSegment_queueing (id : Nat) : discardSegment id (s.queueing cs) = (discardSegment id s).queueing cs := by
  rw [discardSegment, updateBufferOf_queueing, freeEntry_queueing]
  rfl

/-- An offer with another control queue. -/
def Offer.queueing (cs : List QueuedRequest) : Offer → Offer
  | .accepted s => .accepted (s.queueing cs)
  | .refused s => .refused (s.queueing cs)

theorem relievePressure_queueing : relievePressure (s.queueing cs) = (relievePressure s).queueing cs := by
  unfold relievePressure
  rw [State.queueing_openSegments]
  split
  · rfl
  · split <;> rfl

theorem noteCatalogFull_queueing (k : SegmentKey) :
    noteCatalogFull k (s.queueing cs) = (noteCatalogFull k s).queueing cs := by
  unfold noteCatalogFull
  rw [State.queueing_freeIds, State.queueing_catalogFull]
  split
  · exact raise_queueing _ _ _ _ _ cs { s with catalogFull := true }
  · rfl

theorem stallEncoder_queueing (k : SegmentKey) : stallEncoder k (s.queueing cs) = (stallEncoder k s).queueing cs := by
  unfold stallEncoder
  rw [noteCatalogFull_queueing]
  rfl

theorem takeResources_queueing (k : SegmentKey) (id : Nat) (i : Fin 32) (rest : List Nat) :
    takeResources k id i rest (s.queueing cs) = (takeResources k id i rest s).queueing cs := by
  unfold takeResources
  dsimp only
  rfl

theorem appendRecord_queueing (g : OpenSegment) (fileSwitch : Nat) (r : CallRecord) (v : Verdict) (bytes : List Byte) :
    appendRecord g fileSwitch r v bytes (s.queueing cs) = (appendRecord g fileSwitch r v bytes s).queueing cs := rfl

theorem offerNew_queueing (k : SegmentKey) (fileSwitch : Nat) (r : CallRecord) (v : Verdict) :
    offerNew k fileSwitch r v (s.queueing cs) = (offerNew k fileSwitch r v s).queueing cs := by
  unfold offerNew
  dsimp only
  rw [relievePressure_queueing]
  generalize relievePressure s = x
  rw [State.queueing_freeIds, State.queueing_freeBuffer]
  split
  · rw [takeResources_queueing, appendRecord_queueing]
    rfl
  · rw [stallEncoder_queueing]
    rfl

theorem offerRecord_queueing (f : FileContext) (r : CallRecord) (v : Verdict) :
    offerRecord f r v (s.queueing cs) = (offerRecord f r v s).queueing cs := by
  unfold offerRecord
  dsimp only
  rw [State.queueing_openSegment]
  split
  · exact offerNew_queueing ..
  · have hbytes (k : SegmentKey) (ref : Reference) : encodedFor (s.queueing cs) k ref v r = encodedFor s k ref v r := rfl
    rw [hbytes]
    split
    · rfl
    · rw [sealSegment_queueing, offerNew_queueing]

/-! ### Files and records beside the control queue -/

theorem amendDay_queueing (day : Nat) (outcome : FileOutcome) (switch : Nat) :
    amendDay day outcome switch (s.queueing cs) = (amendDay day outcome switch s).queueing cs := by
  unfold amendDay
  rw [State.queueing_dayRecord]
  split
  · exact raise_queueing ..
  · split
    · rfl
    · dsimp only
      rw [State.queueing_setDayRecord, raise_queueing]

theorem countClose_queueing (day switch : Nat) (outcome : FileOutcome) :
    countClose day switch outcome (s.queueing cs) = (countClose day switch outcome s).queueing cs := by
  unfold countClose
  dsimp only
  simp only [addToDay_queueing, apply_ite (State.queueing cs)]

theorem auditFile_queueing (c : FileContext) (outcome : FileOutcome) :
    auditFile c outcome (s.queueing cs) = (auditFile c outcome s).queueing cs := by
  unfold auditFile
  split
  · split
    · exact requestAudit_queueing ..
    · rfl
  · rfl

theorem reconcile_queueing (l : Fin 16) (c : FileContext) (t : Trailer) (outcome : FileOutcome) :
    reconcile l c t outcome (s.queueing cs) = (reconcile l c t outcome s).queueing cs := by
  unfold reconcile raiseFileClosed
  dsimp only
  rw [State.queueing_clock, countClose_queueing, raiseOn_queueing, amendDay_queueing, auditFile_queueing]

theorem abortFile_queueing (l : Fin 16) (c : FileContext) :
    abortFile l c (s.queueing cs) = (abortFile l c s).queueing cs := by
  unfold abortFile raiseAborted
  rw [show enterRecent { context := c, outcome := .aborted } (s.queueing cs)
    = (enterRecent { context := c, outcome := .aborted } s).queueing cs from rfl, raise_queueing, State.queueing_idleLane,
    unbindFile_queueing]

theorem closeFile_queueing (l : Fin 16) (c : FileContext) (t : Trailer) :
    closeFile l c t (s.queueing cs) = (closeFile l c t s).queueing cs := by
  unfold closeFile
  dsimp only
  rw [reconcile_queueing, ← unbindFile_queueing]
  rfl

theorem drainLane_queueing (l : Fin 16) : drainLane l (s.queueing cs) = (drainLane l s).queueing cs := by
  unfold drainLane
  dsimp only
  rw [State.queueing_lane]
  split
  · split
    · rfl
    · split
      · exact abortFile_queueing ..
      · exact closeFile_queueing ..
  · rfl

theorem resumeLane_queueing (l : Fin 16) : resumeLane l (s.queueing cs) = (resumeLane l s).queueing cs := by
  unfold resumeLane
  dsimp only
  rw [State.queueing_lane, State.queueing_setLane, sendFeed_queueing, State.queueing_anyPaused]
  split <;> rfl

theorem returnBuffer_queueing (l : Fin 16) (i : BufId) : returnBuffer l i (s.queueing cs) = (returnBuffer l i s).queueing cs := by
  unfold returnBuffer
  dsimp only
  rw [State.queueing_lane, State.queueing_setLane, resumeLane_queueing]
  split <;> rfl

theorem startBuffer_queueing : startBuffer (s.queueing cs) = (startBuffer s).queueing cs := by
  unfold startBuffer
  simp only [State.queueing_parser, State.queueing_lane]
  split
  · split
    · rfl
    · split <;> rfl
  all_goals rfl

theorem finishBuffer_queueing (l : Fin 16) (i : BufId) : finishBuffer l i (s.queueing cs) = (finishBuffer l i s).queueing cs := by
  unfold finishBuffer
  dsimp only
  rw [returnBuffer_queueing, ← startBuffer_queueing, ← drainLane_queueing]
  rfl

theorem nextRecord_queueing (l : Fin 16) (i : BufId) (position : Nat) :
    nextRecord l i position (s.queueing cs) = (nextRecord l i position s).queueing cs := by
  unfold nextRecord
  rw [State.queueing_lane]
  split
  · rfl
  · exact finishBuffer_queueing ..

theorem duplicateRecord_queueing (l : Fin 16) (switch : Nat) (r : CallRecord) (v : Verdict) :
    duplicateRecord l switch r v (s.queueing cs) = (duplicateRecord l switch r v s).queueing cs := by
  unfold duplicateRecord
  rw [State.queueing_mapContext, addToDay_queueing]

theorem filterInsert_queueing (r : CallRecord) (day : Nat) :
    filterInsert r day (s.queueing cs) = (filterInsert r day s).queueing cs := by
  unfold filterInsert
  rw [State.queueing_clock]
  split <;> rfl

theorem acceptRecord_queueing (l : Fin 16) (switch : Nat) (r : CallRecord) (v : Verdict) :
    acceptRecord l switch r v (s.queueing cs) = (acceptRecord l switch r v s).queueing cs := by
  unfold acceptRecord countStored
  split
  · rw [State.queueing_mapContext, addToDay_queueing]
  · have hevicts (x : State) : insertionEvicts r v.day (x.queueing cs) = insertionEvicts r v.day x := rfl
    simp only [State.queueing_mapContext, filterInsert_queueing, hevicts, addToDay_queueing,
      ← apply_ite (State.queueing cs)]

theorem takeRecord_queueing (l : Fin 16) (i : BufId) (position : Nat) (r : CallRecord) (v : Verdict) :
    takeRecord l i position r v (s.queueing cs) = (takeRecord l i position r v s).queueing cs := by
  unfold takeRecord
  rw [State.queueing_lane]
  split
  · rfl
  case h_2 c _ =>
    rw [State.queueing_clock, State.queueing_filter, offerRecord_queueing]
    split
    · rw [duplicateRecord_queueing, nextRecord_queueing]
    · cases offerRecord c r v s with
      | accepted x => exact (congrArg _ (acceptRecord_queueing ..)).trans (nextRecord_queueing ..)
      | refused x => rfl

theorem takeUpHeld_queueing : takeUpHeld (s.queueing cs) = (takeUpHeld s).queueing cs := by
  unfold takeUpHeld
  rw [State.queueing_stall, State.queueing_parser]
  split
  · exact takeRecord_queueing ..
  · rfl

/-! ### Requests beside the control queue -/

theorem answer_queueing (tag : Nat) (r : Request) (code : ResponseCode) :
    answer tag r code (s.queueing cs) = (answer tag r code s).queueing cs := respond_queueing ..

theorem loadEntries_queueing (entries : List LoadEntry) :
    loadEntries entries (s.queueing cs) = (loadEntries entries s).queueing cs :=
  foldl_queueing (f := fun (x : State) (e : LoadEntry) => x.setEntry e.segmentId (loadedEntry e)) (fun _ _ _ => rfl) entries cs s

theorem takeCatalogLoad_queueing (tag : Nat) (entries : List LoadEntry) :
    takeCatalogLoad tag entries (s.queueing cs) = (takeCatalogLoad tag entries s).queueing cs := by
  unfold takeCatalogLoad
  dsimp only
  rw [State.queueing_catalog, loadEntries_queueing]
  split
  · exact respond_queueing ..
  · split <;> exact respond_queueing ..

theorem takeTableBegin_queueing (tag bank force : Nat) :
    takeTableBegin tag bank force (s.queueing cs) = (takeTableBegin tag bank force s).queueing cs := by
  unfold takeTableBegin
  dsimp only
  rw [State.queueing_bank]
  split
  · exact answer_queueing ..
  · exact answer_queueing cs ({ s with selection := cancelSelectionOf (bankOf bank) s.selection }.setBank (bankOf bank)
      (clearedBank (s.bank (bankOf bank)))) ..

theorem takeTableWrite_queueing (tag bank : Nat) (startIndex : Option Nat) (entries : TableEntries) :
    takeTableWrite tag bank startIndex entries (s.queueing cs) = (takeTableWrite tag bank startIndex entries s).queueing cs := by
  unfold takeTableWrite
  dsimp only
  rw [State.queueing_bank, State.queueing_setBank]
  split
  · exact respond_queueing ..
  · split
    · exact respond_queueing ..
    · split <;> exact respond_queueing ..

theorem endRefusal_queueing (b : Fin 4) (supplied : Option Nat) :
    endRefusal b supplied (s.queueing cs) = endRefusal b supplied s := rfl

theorem takeTableSelect_queueing (tag bank mode : Nat) :
    takeTableSelect tag bank mode (s.queueing cs) = (takeTableSelect tag bank mode s).queueing cs := by
  unfold takeTableSelect
  dsimp only
  rw [State.queueing_bank, State.queueing_activeBank, selectBank_queueing]
  split
  · exact answer_queueing cs { s with selection := none } ..
  all_goals try exact answer_queueing ..
  rw [← answer_queueing]
  split <;> rfl

theorem takeDayClose_queueing (tag : Nat) : takeDayClose tag (s.queueing cs) = (takeDayClose tag s).queueing cs := by
  unfold takeDayClose
  rw [State.queueing_clock]
  split
  · exact answer_queueing ..
  case h_2 c _ =>
    split
    · rw [← closeParts_queueing, ← answer_queueing]
      rfl
    · exact answer_queueing ..

theorem takeHoldAdd_queueing (tag switchWord firstDay lastDay classSet : Nat) :
    takeHoldAdd tag switchWord firstDay lastDay classSet (s.queueing cs)
      = (takeHoldAdd tag switchWord firstDay lastDay classSet s).queueing cs := by
  unfold takeHoldAdd
  dsimp only
  rw [State.queueing_freeHold]
  split
  · exact respond_queueing ..
  · split
    · exact respond_queueing ..
    · rw [State.queueing_setHold, respond_queueing, reportMissed_queueing]

theorem takeHoldRelease_queueing (tag holdId : Nat) :
    takeHoldRelease tag holdId (s.queueing cs) = (takeHoldRelease tag holdId s).queueing cs := by
  unfold takeHoldRelease
  dsimp only
  split
  · rw [State.queueing_hold, releaseHold_queueing]
    split
    · exact answer_queueing ..
    · rw [answer_queueing, arbitrate_queueing]
  · exact answer_queueing ..

theorem takeSweepStart_queueing (tag mode : Nat) :
    takeSweepStart tag mode (s.queueing cs) = (takeSweepStart tag mode s).queueing cs := by
  unfold takeSweepStart
  rw [restartSweep_queueing, resumeSweep_queueing, ← apply_ite (State.queueing cs), answer_queueing, arbitrate_queueing]

theorem takeVerifyStart_queueing (tag mode : Nat) :
    takeVerifyStart tag mode (s.queueing cs) = (takeVerifyStart tag mode s).queueing cs := by
  unfold takeVerifyStart
  rw [restartVerify_queueing, resumeVerify_queueing, ← apply_ite (State.queueing cs), answer_queueing, arbitrate_queueing]

theorem findNamed_queueing (id edition : Nat) : findNamed id edition (s.queueing cs) = findNamed id edition s := rfl

theorem retryWrite_queueing (id : Nat) (e : CatalogEntry) :
    retryWrite id e (s.queueing cs) = (retryWrite id e s).queueing cs := by
  unfold retryWrite
  dsimp only
  rw [State.queueing_setEntry, updateBufferOf_queueing]
  rfl

theorem takeSegmentRetry_queueing (tag id edition : Nat) :
    takeSegmentRetry tag id edition (s.queueing cs) = (takeSegmentRetry tag id edition s).queueing cs := by
  unfold takeSegmentRetry
  dsimp only
  rw [findNamed_queueing]
  split
  case h_4 e _ => rw [retryWrite_queueing, answer_queueing, arbitrate_queueing]
  case h_5 e _ => exact answer_queueing cs (retryDelete id e s) ..
  all_goals exact answer_queueing ..

theorem takeSegmentDiscard_queueing (tag id edition : Nat) :
    takeSegmentDiscard tag id edition (s.queueing cs) = (takeSegmentDiscard tag id edition s).queueing cs := by
  unfold takeSegmentDiscard
  dsimp only
  rw [findNamed_queueing]
  split
  case h_5 => rw [discardSegment_queueing, answer_queueing, takeUpHeld_queueing, arbitrate_queueing]
  all_goals exact answer_queueing ..

theorem setParam_queueing (p : Param) (v : Nat) : setParam p v (s.queueing cs) = (setParam p v s).queueing cs := by
  cases p <;> rfl

theorem takeSet_queueing (tag : Nat) (p : Param) (value : Nat) :
    takeSet tag p value (s.queueing cs) = (takeSet tag p value s).queueing cs := by
  unfold takeSet
  rw [setParam_queueing, respond_queueing]

/-- A request reads the control queue only as QUERY STATUS, which returns its length (R175). -/
def readsQueue : Request → Bool
  | .query .status => true
  | _ => false

theorem queryAnswer_queueing {q : Query} (h : q ≠ .status) : queryAnswer q (s.queueing cs) = queryAnswer q s := by
  cases q <;> first | rfl | contradiction

/-- Carrying a request out leaves the control queue, and reads it only for QUERY STATUS. -/
theorem carryOut_queueing {r : Request} (h : readsQueue r = false) (tag : Nat) :
    carryOut tag r (s.queueing cs) = (carryOut tag r s).queueing cs := by
  unfold carryOut
  split
  case h_1 => split <;> first | exact answer_queueing .. | rfl
  case h_5 => rw [endRefusal_queueing]; split <;> first | exact answer_queueing .. | rfl
  case h_2 => exact takeCatalogLoad_queueing ..
  case h_3 => exact takeTableBegin_queueing ..
  case h_4 => exact takeTableWrite_queueing ..
  case h_6 => exact takeTableSelect_queueing ..
  case h_7 => exact takeTableCancel_queueing ..
  case h_8 => exact takeDayClose_queueing ..
  case h_9 => exact takeHoldAdd_queueing ..
  case h_10 => exact takeHoldRelease_queueing ..
  case h_11 => exact takeSweepStart_queueing ..
  case h_12 => unfold takeSweepStop; rw [stopSweep_queueing, answer_queueing]
  case h_13 => exact takeVerifyStart_queueing ..
  case h_14 => unfold takeVerifyStop; rw [stopVerify_queueing, answer_queueing]
  case h_15 => exact takeSegmentRetry_queueing ..
  case h_16 => exact takeSegmentDiscard_queueing ..
  case h_17 => exact takeSet_queueing ..
  case h_18 q =>
    have hq : q ≠ .status := by rintro rfl; cases h
    unfold takeQuery
    rw [queryAnswer_queueing cs s hq, respond_queueing]
  case h_19 => exact answer_queueing ..

theorem takeRequest_queueing {q : QueuedRequest} (h : readsQueue q.request = false) :
    takeRequest q (s.queueing cs) = (takeRequest q s).queueing cs := by
  unfold takeRequest
  rw [State.queueing_device]
  split
  · exact answer_queueing ..
  · split
    · exact answer_queueing ..
    · exact carryOut_queueing cs s h ..

/-- R169: taking a request leaves the queue that it stands in. -/
theorem takeRequest_control (q : QueuedRequest) : (takeRequest q s).control = s.control := by
  by_cases h : readsQueue q.request = false
  · have hkept := takeRequest_queueing s.control s h
    rw [State.queueing_of_control rfl] at hkept
    rw [hkept]
    rfl
  · have hstatus : q.request = .query .status := by
      unfold readsQueue at h
      split at h
      · assumption
      · exact absurd rfl h
    have htaken : takeRequest q s = takeQuery q.tag .status s := by
      simp [takeRequest, hstatus, formOk, allowedIn, carryOut]
    rw [htaken]
    exact sendFeed_control ..

end

section
variable {s : State}

/-- A request that does not hold the head is taken at its arrival (R169, R173). -/
theorem exec_of_taken {c : Instr} {tag : Nat} {r : Request} (h : requestOf c = some (tag, r)) (hs : Attentive s)
    (hreads : readsQueue r = false) (hfree : holdsHead r (heardFeed s) = false) :
    exec c s = .next (flushReports (takeRequest ⟨tag, r⟩ (heardFeed s))) := by
  rw [exec_of_requestOf h]
  refine congrArg Host.Outcome.next ?_
  have hleft : (takeRequest ⟨tag, r⟩ (heardFeed s)).control = [] := (takeRequest_control ..).trans hs.2
  exact controlFrame_of_taken hs hfree (takeRequest_queueing _ (heardFeed s) (q := ⟨tag, r⟩) hreads) hleft

/-- A request that takes no time, passes the form test and is allowed in the device state is carried out at its arrival. -/
theorem exec_of_carried {c : Instr} {tag : Nat} {r : Request} (h : requestOf c = some (tag, r)) (hs : Attentive s)
    (hreads : readsQueue r = false) (hfree : holdsHead r (heardFeed s) = false) (hform : formOk r = true)
    (hallowed : allowedIn s.device r = true) :
    exec c s = .next (flushReports (carryOut tag r (heardFeed s))) := by
  have hdevice : allowedIn (heardFeed s).device r = true := hallowed
  rw [exec_of_taken h hs hreads hfree]
  simp [takeRequest, hform, hdevice]

end

end Sys2Proof.Machine

namespace Sys2Proof.Machine

open Sys2Proof.Safety

section
variable {s : State}

/-! ### The form test and the device states (R170, R171) -/

theorem formOk_eq_false_iff (r : Request) : formOk r = false ↔ BadForm r := by
  cases r
  case catalogLoad | tableBegin | tableWrite | tableEnd | tableSelect | sweepStart | verifyStart =>
    simp only [formOk, BadForm, Bool.and_eq_false_iff, decide_eq_false_iff_not]; omega
  all_goals simp [formOk, BadForm]

theorem allowedIn_eq_false_iff {r : Request} (hform : ¬ BadForm r) (d : DeviceState) :
    allowedIn d r = false ↔ refusedIn r = some d := by
  cases r <;> cases d <;> simp_all [allowedIn, refusedIn, BadForm]

/-- A request refused for its form or for the device state neither reads the queue nor holds its head. -/
theorem holdsHead_of_refused {r : Request} (h : formOk r = false ∨ allowedIn s.device r = false) : holdsHead r s = false := by
  obtain h | h := h <;> simp [holdsHead, h]

theorem readsQueue_of_refused {r : Request} {d : DeviceState} (h : formOk r = false ∨ allowedIn d r = false) :
    readsQueue r = false := by
  unfold readsQueue
  split
  · simp [formOk, allowedIn] at h
  · rfl

theorem answer_of_up (hup : s.feed.up = true) (tag : Nat) (r : Request) (code : ResponseCode) :
    answer tag r code s = replied tag (requestCode r) code .none s := respond_of_up hup ..

/-! ### The control queue (R169) -/

theorem controlArrives_of_full (h : 4 ≤ s.control.length) (q : QueuedRequest) :
    controlArrives q s = respond q.tag (requestCode q.request) .refusedBusy .none s :=
  if_neg (Nat.not_lt.mpr h)

theorem controlArrives_of_waiting (hsome : s.control ≠ []) (hroom : s.control.length < 4) (q : QueuedRequest) :
    controlArrives q s = { s with control := s.control ++ [q] } := by
  simp [controlArrives, Config.controlQueueLimit, hroom, hsome]

theorem exec_of_arrival {c : Instr} {tag : Nat} {r : Request} (h : requestOf c = some (tag, r)) (hup : s.feed.up = true) :
    exec c s = .next (flushReports (controlArrives ⟨tag, r⟩ (heardFeed s))) := by
  rw [exec_of_requestOf h, controlFrame, receiveGood_feed_of_up hup]

theorem runQueue_of_held {q : QueuedRequest} {rest : List QueuedRequest} (hhead : s.control = q :: rest)
    (hheld : holdsHead q.request s = true) (n : Nat) : runQueue n s = s := by
  cases n with
  | zero => rfl
  | succ n => simp [runQueue, hhead, hheld]

/-- A START that passes its test holds the head, and so does a TABLE_END (R11, R49). -/
theorem exec_of_held {c : Instr} {tag : Nat} {r : Request} (h : requestOf c = some (tag, r)) (hs : Attentive s)
    (hheld : holdsHead r (heardFeed s) = true) :
    exec c s = .next (flushReports { heardFeed s with control := [⟨tag, r⟩] }) := by
  obtain ⟨hup, hempty⟩ := hs
  have hheld : holdsHead r ((heardFeed s).queueing [⟨tag, r⟩]) = true := hheld
  have hempty : (heardFeed s).control = [] := hempty
  rw [exec_of_arrival h hup, controlArrives_of_empty hempty,
    runQueue_of_held (s := (heardFeed s).queueing [⟨tag, r⟩]) rfl hheld]
  rfl

end

section

/-- Settles O38. -/
theorem requestsWaitTheirTurn : Obligations.RequestsWaitTheirTurn := by
  intro c s tag r h hup
  refine ⟨fun hfull => ?_, fun hsome hroom => ?_⟩
  · rw [exec_of_arrival h hup, controlArrives_of_full (s := heardFeed s) hfull, respond_of_up (s := heardFeed s) hup]
  · rw [exec_of_arrival h hup, controlArrives_of_waiting (s := heardFeed s) hsome hroom]
    rfl

/-- Settles O40: the form test comes first, then the device state; both answer without a change of state. -/
theorem requestsRefusedByFormAndState : Obligations.RequestsRefusedByFormAndState := by
  refine ⟨fun c s tag r h hs => ⟨fun hbad => ?_, fun hform hrefused => ?_⟩, fun s tag arguments hup => ?_⟩
  · have hform : formOk r = false := (formOk_eq_false_iff r).mpr hbad
    rw [exec_of_taken h hs (readsQueue_of_refused (d := s.device) (.inl hform)) (holdsHead_of_refused (.inl hform)),
      ← answer_of_up (s := heardFeed s) hs.1]
    simp [takeRequest, hform]
  · have hallowed : allowedIn s.device r = false := (allowedIn_eq_false_iff hform s.device).mpr hrefused
    have hok : formOk r = true := by simpa using mt (formOk_eq_false_iff r).mp hform
    have hdevice : allowedIn (heardFeed s).device r = false := hallowed
    rw [exec_of_taken h hs (readsQueue_of_refused (.inr hallowed)) (holdsHead_of_refused (.inr hdevice)),
      ← answer_of_up (s := heardFeed s) hs.1]
    simp [takeRequest, hok, hdevice]
  · have h : exec (.unknownControlRequest tag 0x7F arguments) s
        = .next (flushReports (respond tag resetCode .badRequest .none (receiveGood .feed s))) := by
      change execUnknownControlRequest tag 0x7F arguments s = _
      exact if_pos rfl
    rw [h, receiveGood_feed_of_up hup, respond_of_up (s := heardFeed s) hup]
    rfl

end

end Sys2Proof.Machine

namespace Sys2Proof.Machine

open Sys2Proof.Safety

section
variable {s : State}

/-! ### The table banks (R46, R53 to R58) -/

theorem bankOf_val (b : Fin 4) : bankOf b.val = b := by
  simp [bankOf, Fin.ofNat, Nat.mod_eq_of_lt b.isLt]

theorem bank_le (b : Fin 4) : b.val ≤ 3 := Nat.le_of_lt_succ b.isLt

/-- A request on a bank that is carried out at its arrival. -/
theorem exec_tableBegin_of_attentive (hs : Attentive s) {force : Nat} (hforce : force ≤ 1) (tag : Nat) (b : Fin 4) :
    exec (.tableBegin tag b.val force) s = .next (flushReports (takeTableBegin tag b.val force (heardFeed s))) :=
  exec_of_carried (r := .tableBegin b.val force) rfl hs rfl (by simp [holdsHead]) (by simp [formOk, bank_le, hforce]) rfl

theorem exec_tableWrite_of_attentive (hs : Attentive s) {entries : TableEntries} (hsome : 1 ≤ entryCount entries)
    (hmany : entryCount entries ≤ 64) (tag : Nat) (b : Fin 4) (startIndex : Option Nat) :
    exec (.tableWrite tag b.val startIndex entries) s
      = .next (flushReports (takeTableWrite tag b.val startIndex entries (heardFeed s))) :=
  exec_of_carried (r := .tableWrite b.val startIndex entries) rfl hs rfl (by simp [holdsHead])
    (by simp [formOk, bank_le, hsome, hmany]) rfl

theorem exec_tableSelect_of_attentive (hs : Attentive s) {mode : Nat} (hmode : mode ≤ 1) (tag : Nat) (b : Fin 4) :
    exec (.tableSelect tag b.val mode) s = .next (flushReports (takeTableSelect tag b.val mode (heardFeed s))) :=
  exec_of_carried (r := .tableSelect b.val mode) rfl hs rfl (by simp [holdsHead]) (by simp [formOk, bank_le, hmode]) rfl

theorem exec_set_of_attentive {c : Instr} {tag value : Nat} {p : Param} (h : requestOf c = some (tag, .set p value))
    (hs : Attentive s) : exec c s = .next (flushReports (replied tag 0x60 .done (.valueTaken (takenValue p value))
      (setParam p (takenValue p value) (heardFeed s)))) := by
  have hup : (setParam p (takenValue p value) (heardFeed s)).feed.up = true := by cases p <;> exact hs.1
  rw [exec_of_carried h hs rfl (by simp [holdsHead]) rfl rfl]
  change Host.Outcome.next (flushReports (takeSet tag p value (heardFeed s))) = _
  rw [takeSet, respond_of_up hup]
  rfl

/-- R174: a SET takes the value clamped to the parameter's range. -/
theorem exec_set_in_range (p : Param) {c : Instr} {tag value low high : Nat} {t : State}
    (h : requestOf c = some (tag, .set p value)) (hs : Attentive s) (hrange : paramRange p = (low, high))
    (hset : setParam p (max low (min high value)) (heardFeed s) = t) : exec c s = .next (flushReports
      (replied tag 0x60 .done (.valueTaken (max low (min high value))) t)) := by
  rw [exec_set_of_attentive h hs, ← hset, takenValue, hrange]

/-- R181: a SET of the report holdoff starts or stops the timer. -/
theorem setParam_reportHoldoff (v : Nat) : setParam .reportHoldoff v s = { s with
    params := { s.params with reportHoldoff := v }
    reports := { s.reports with
      due := false
      timer := if s.reports.entries ≠ [] ∧ 2 ≤ v then some ((s.runTime + v) % 4294967296) else none } } := by
  have hstarts : (!s.reports.entries.isEmpty && decide (2 ≤ v)) = true ↔ s.reports.entries ≠ [] ∧ 2 ≤ v := by simp
  simp only [setParam, restartHoldoff, hstarts]
  rfl

theorem takeTableBegin_of_refused {b : Fin 4} {force : Nat} {code : ResponseCode}
    (h : beginRefusal (s.bank b) force = some code) (hup : s.feed.up = true) (tag : Nat) :
    takeTableBegin tag b.val force s = replied tag 0x10 code .none s := by
  simp only [takeTableBegin, bankOf_val, h]
  exact answer_of_up hup ..

theorem takeTableBegin_of_taken {b : Fin 4} {force : Nat} (h : beginRefusal (s.bank b) force = none)
    (hup : s.feed.up = true) (tag : Nat) :
    takeTableBegin tag b.val force s = replied tag 0x10 .done .none
      { s with selection := cancelSelectionOf b s.selection, banks := s.banks.set b (clearedBank (s.bank b)) } := by
  simp only [takeTableBegin, bankOf_val, h]
  exact answer_of_up (s := { s with selection := cancelSelectionOf b s.selection }.setBank b (clearedBank (s.bank b))) hup ..

theorem takeTableSelect_of_ready {b : Fin 4} (hready : (s.bank b).state = .ready) (tag mode : Nat) :
    takeTableSelect tag b.val mode s = answer tag (.tableSelect b.val mode) .done
      (if s.activeBank.isNone then selectBank b .immediate s
       else { s with selection := some { bank := b, mode := selectModeOf mode } }) := by
  simp only [takeTableSelect, bankOf_val, hready]

theorem activeBank_isSome (h : ∃ o, (s.bank o).state = .active) : s.activeBank.isNone = false := by
  obtain ⟨o, ho⟩ := h
  cases hfound : s.activeBank with
  | none => exact absurd ho (activeBank_eq_none hfound o)
  | some a => rfl

/-- R54 with no bank ACTIVE before. -/
theorem selectBank_of_none (hnone : s.activeBank = none) (b : Fin 4) (how : SelectedBy) :
    selectBank b how s = raise .bankActive (some b.val) ((s.bank b).generation.getD 0) 0xFFFFFFFF how.code
      ({ s with selection := none }.setBank b { s.bank b with state := .active }) := by
  simp only [selectBank, hnone]
  rfl

/-- R54 and R55 with bank `old` ACTIVE before. -/
theorem selectBank_of_active {old : Fin 4} (hold : s.activeBank = some old) (b : Fin 4) (how : SelectedBy) :
    selectBank b how s = supersede old (raise .bankActive (some b.val) ((s.bank b).generation.getD 0) old.val how.code
      ({ s with selection := none }.setBank b { s.bank b with state := .active })) := by
  simp only [selectBank, hold]
  rfl

end

section

/-- Settles O43. -/
theorem tableBeginClearsBank : Obligations.TableBeginClearsBank := by
  intro s tag force b hs hforce answered kept cleared
  have hexec := exec_tableBegin_of_attentive hs hforce tag b
  have hrefused {code : ResponseCode} (h : beginRefusal (s.bank b) force = some code) : answered code (heardFeed s) := by
    refine hexec.trans (congrArg (fun x => Host.Outcome.next (flushReports x)) ?_)
    exact takeTableBegin_of_refused (s := heardFeed s) h hs.1 tag
  have htaken (h : beginRefusal (s.bank b) force = none) : answered .done cleared := by
    refine hexec.trans (congrArg (fun x => Host.Outcome.next (flushReports x)) ?_)
    rw [takeTableBegin_of_taken (s := heardFeed s) h hs.1 tag]
    have hkept : cancelSelectionOf b (heardFeed s).selection = kept := by
      change cancelSelectionOf b s.selection = _
      unfold cancelSelectionOf kept
      cases s.selection <;> rfl
    rw [hkept]
    rfl
  refine ⟨?_, fun hready hreferences hzero => ?_, fun hready hallowed => ?_, ?_⟩
  · rintro (h | h) <;> exact hrefused (by simp [beginRefusal, h])
  · exact hrefused (by simp [beginRefusal, hready, hreferences, hzero])
  · refine htaken ?_
    obtain hnone | hforced := hallowed
    · simp [beginRefusal, hready, hnone]
    · simp [beginRefusal, hready, hforced]
  · rintro (h | h) <;> exact htaken (by simp [beginRefusal, h])

/-- Settles O46: the four states of the bank, then the bank superseded by whether files are bound to it. -/
theorem tableSelectByBankState : Obligations.TableSelectByBankState := by
  refine ⟨fun s tag mode b hs hmode => ?_, fun s b old how hs hready hold => ?_⟩
  · intro answered
    have hexec := exec_tableSelect_of_attentive hs hmode tag b
    have hanswered {code : ResponseCode} {t : State} (hup : t.feed.up = true)
        (h : takeTableSelect tag b.val mode (heardFeed s) = answer tag (.tableSelect b.val mode) code t) : answered code t := by
      refine hexec.trans (congrArg (fun x => Host.Outcome.next (flushReports x)) ?_)
      rw [h]
      exact answer_of_up hup ..
    refine ⟨fun h => ?_, fun h => ?_, fun hready hnone => ?_, fun hready hsome => ?_⟩
    · refine hanswered (t := { heardFeed s with selection := none }) hs.1 ?_
      have h : ((heardFeed s).bank b).state = .active := h
      simp only [takeTableSelect, bankOf_val, h]
    · refine hanswered (t := heardFeed s) hs.1 ?_
      obtain h | h | h : ((heardFeed s).bank b).state = .empty ∨ ((heardFeed s).bank b).state = .loading
        ∨ ((heardFeed s).bank b).state = .draining := h <;> simp only [takeTableSelect, bankOf_val, h]
    · refine hanswered ?_ ?_
      · rw [raise_feed]; exact hs.1
      · have hnone : (heardFeed s).activeBank = none := activeBank_of_none hnone
        rw [takeTableSelect_of_ready (s := heardFeed s) hready, hnone]
        exact congrArg (answer tag (.tableSelect b.val mode) .done) (selectBank_of_none hnone b .immediate)
    · refine hanswered (t := { heardFeed s with
        selection := some { bank := b, mode := if mode = 0 then .nextFile else .dayClose } }) hs.1 ?_
      have hsome : (heardFeed s).activeBank.isNone = false := activeBank_isSome hsome
      rw [takeTableSelect_of_ready (s := heardFeed s) hready, hsome]
      rfl
  · intro reported
    have hne : b ≠ old := by
      rintro rfl
      rw [hready] at hold
      cases hold
    have hbank : reported.bank old = s.bank old := by
      refine (bank_raise ..).trans ?_
      exact (State.bank_setBank { s with selection := none } b old _).trans (if_neg hne)
    have hselect : selectBank b how s = supersede old reported :=
      selectBank_of_active (activeBank_of_active hs hold) b how
    refine ⟨fun hbound => ?_, fun hzero => ?_⟩
    · have hbound : 0 < (reported.bank old).boundFiles := by rw [hbank]; exact hbound
      rw [hselect, supersede, if_pos hbound, hbank]
      rfl
    · have hzero : ¬ 0 < (reported.bank old).boundFiles := by rw [hbank, hzero]; exact Nat.lt_irrefl 0
      intro sealed
      have hbanks : sealed.banks = reported.banks := sealWhere_banks ..
      rw [hselect, supersede, if_neg hzero, retireBank_eq, hbank, hold]
      change raise _ _ _ _ _ (sealed.setBank old _) = _
      rw [State.setBank, hbanks]
      rfl

/-- Settles O55. -/
theorem setsTakeClampedValues : Obligations.SetsTakeClampedValues := by
  intro s tag value hs p took
  refine ⟨?_, ?_, ?_, ?_, ?_, ?_, ?_, ?_, ?_, ?_⟩
  · exact exec_set_in_range .reportHoldoff rfl hs rfl (setParam_reportHoldoff _)
  · exact exec_set_in_range .lateWindow rfl hs rfl rfl
  · exact exec_set_in_range .sealTimeout rfl hs rfl rfl
  · exact exec_set_in_range .storeTimeout rfl hs rfl rfl
  · exact exec_set_in_range .fullRetry rfl hs rfl rfl
  · exact exec_set_in_range .sweepBurst rfl hs rfl rfl
  · exact exec_set_in_range .sweepRest rfl hs rfl rfl
  · exact exec_set_in_range .autoSweep rfl hs rfl rfl
  · exact exec_set_in_range .verifyRest rfl hs rfl rfl
  · exact exec_set_in_range .verifyScope rfl hs rfl rfl

end

end Sys2Proof.Machine

namespace Sys2Proof.Machine

open Sys2Proof.Safety

section
variable {α : Type}

/-! ### Runs of table entries (R47) -/

theorem findIdx?_of_first {p : α → Bool} {xs : List α} {k : Nat} (hk : ∃ x, xs[k]? = some x ∧ p x = true)
    (hfirst : ∀ j < k, ¬ ∃ x, xs[j]? = some x ∧ p x = true) : xs.findIdx? p = some k := by
  obtain ⟨x, hx, hp⟩ := hk
  obtain ⟨hlt, rfl⟩ := List.getElem?_eq_some_iff.1 hx
  exact List.findIdx?_eq_some_iff_getElem.2 ⟨hlt, hp, fun j hj hpj =>
    hfirst j hj ⟨_, List.getElem?_eq_getElem (hj.trans hlt), hpj⟩⟩

theorem findIdx?_of_none {p : α → Bool} {xs : List α} (hnone : ∀ k : Nat, ¬ ∃ x, xs[k]? = some x ∧ p x = true) :
    xs.findIdx? p = none := by
  refine List.findIdx?_eq_none_iff.2 fun x hx => Bool.eq_false_iff.2 fun hp => ?_
  obtain ⟨k, hk⟩ := List.mem_iff_getElem?.1 hx
  exact hnone k ⟨x, hk, hp⟩

variable [DecidableEq α]

theorem canonical_writeRun (d : α) (run : List α) {m : NMap α} (start : Nat) (h : NMap.canonical d m = true) :
    NMap.canonical d (writeRun d m start run) = true := by
  induction run generalizing m start with
  | nil => exact h
  | cons v rest ih => exact ih (start + 1) (NMap.canonical_write d m start v h)

theorem rising_of_canonical {d : α} {m : NMap α} (h : NMap.canonical d m = true) : NMap.rising m = true := by
  simp only [NMap.canonical, Bool.and_eq_true] at h
  exact h.1

/-- A run stored in a table reads back, and leaves the other entries. -/
theorem read_writeRun (d : α) (run : List α) {m : NMap α} (start k : Nat) (h : NMap.canonical d m = true) :
    NMap.read d (writeRun d m start run) k
      = if start ≤ k ∧ k < start + run.length then run.getD (k - start) d else NMap.read d m k := by
  induction run generalizing m start with
  | nil => simp [writeRun]
  | cons v rest ih =>
    rw [writeRun, ih (start + 1) (NMap.canonical_write d m start v h),
      NMap.read_write d start k v (rising_of_canonical h)]
    simp only [List.length_cons]
    by_cases hk : k = start
    · subst hk
      rw [if_neg (by omega), if_pos rfl, if_pos (by omega), Nat.sub_self]
      rfl
    · rw [if_neg hk]
      by_cases hin : start + 1 ≤ k ∧ k < start + 1 + rest.length
      · rw [if_pos hin, if_pos (by omega), show k - start = (k - (start + 1)) + 1 by omega]
        rfl
      · rw [if_neg hin, if_neg (by omega)]

end

section
variable {s : State}

theorem takeTableWrite_of_not_loading {b : Fin 4} (h : (s.bank b).state ≠ .loading) (hup : s.feed.up = true) (tag : Nat)
    (startIndex : Option Nat) (entries : TableEntries) :
    takeTableWrite tag b.val startIndex entries s = replied tag 0x11 .badState .none s := by
  simp only [takeTableWrite, bankOf_val, if_pos h]
  exact respond_of_up hup ..

theorem takeTableWrite_of_outside {b : Fin 4} {startIndex : Option Nat} {entries : TableEntries}
    (hloading : (s.bank b).state = .loading)
    (h : outsideTable (tableOf entries) ((s.bank b).startOf startIndex (tableOf entries)) (entryCount entries) = true)
    (hup : s.feed.up = true) (tag : Nat) :
    takeTableWrite tag b.val startIndex entries s = replied tag 0x11 .badRequest .none s := by
  simp only [takeTableWrite, bankOf_val, if_neg (not_not_intro hloading), if_pos h]
  exact respond_of_up hup ..

theorem takeTableWrite_of_bad {b : Fin 4} {startIndex : Option Nat} {entries : TableEntries} {k : Nat}
    (hloading : (s.bank b).state = .loading)
    (h : outsideTable (tableOf entries) ((s.bank b).startOf startIndex (tableOf entries)) (entryCount entries) = false)
    (hbad : firstBad entries = some k) (hup : s.feed.up = true) (tag : Nat) :
    takeTableWrite tag b.val startIndex entries s = replied tag 0x11 .badRequest
      (.index ((s.bank b).startOf startIndex (tableOf entries) + k)) s := by
  simp only [takeTableWrite, bankOf_val, if_neg (not_not_intro hloading), h, hbad, Bool.false_eq_true, if_false]
  exact respond_of_up hup ..

theorem takeTableWrite_of_good {b : Fin 4} {startIndex : Option Nat} {entries : TableEntries}
    (hloading : (s.bank b).state = .loading)
    (h : outsideTable (tableOf entries) ((s.bank b).startOf startIndex (tableOf entries)) (entryCount entries) = false)
    (hgood : firstBad entries = none) (hup : s.feed.up = true) (tag : Nat) :
    takeTableWrite tag b.val startIndex entries s = replied tag 0x11 .done
      (.index ((s.bank b).startOf startIndex (tableOf entries) + entryCount entries))
      (s.setBank b ((s.bank b).written ((s.bank b).startOf startIndex (tableOf entries)) entries)) := by
  simp only [takeTableWrite, bankOf_val, if_neg (not_not_intro hloading), h, hgood, Bool.false_eq_true, if_false]
  exact respond_of_up (s := s.setBank b _) hup ..

theorem outsideTable_iff {t : TableName} {start n : Nat} (hn : 1 ≤ n) :
    outsideTable t start n = true ↔ start < t.firstIndex ∨ t.lastIndex + 1 < start + n := by
  simp only [outsideTable, Bool.or_eq_true, decide_eq_true_eq]
  omega

end

section

/-- Settles O44: the tests in their order, then the run by induction. -/
theorem tableWriteStoresRun : Obligations.TableWriteStoresRun := by
  refine ⟨fun s tag b startIndex entries hs hsome hmany => ?_, fun α _ d table start run k h =>
    ⟨canonical_writeRun d run start h, read_writeRun d run start k h⟩⟩
  intro first last start n bad noted written answered
  have hexec := exec_tableWrite_of_attentive hs hsome hmany tag b startIndex
  have hanswered {code : ResponseCode} {results : Results} {t : State}
      (h : takeTableWrite tag b.val startIndex entries (heardFeed s) = replied tag 0x11 code results t) :
      answered code results t := hexec.trans (congrArg (fun x => Host.Outcome.next (flushReports x)) h)
  have hstart : ((heardFeed s).bank b).startOf startIndex (tableOf entries) = start := by
    cases startIndex <;> cases entries <;> rfl
  have hfirst : (tableOf entries).firstIndex = first := by cases entries <;> rfl
  have hlast : (tableOf entries).lastIndex = last := by cases entries <;> rfl
  have hout : outsideTable (tableOf entries) (((heardFeed s).bank b).startOf startIndex (tableOf entries))
      (entryCount entries) = true ↔ start < first ∨ last + 1 < start + n := by
    rw [outsideTable_iff hsome, hstart, hfirst, hlast]
  refine ⟨fun h => hanswered (takeTableWrite_of_not_loading (s := heardFeed s) h hs.1 ..), fun hloading =>
    ⟨fun h => hanswered (takeTableWrite_of_outside (s := heardFeed s) hloading (hout.2 h) hs.1 tag), fun hlow hhigh => ?_⟩⟩
  have hin : outsideTable (tableOf entries) (((heardFeed s).bank b).startOf startIndex (tableOf entries))
      (entryCount entries) = false := Bool.eq_false_iff.2 fun h => by have := hout.1 h; omega
  refine ⟨fun k hk hbefore => hanswered ?_, fun hnone => hanswered ?_⟩
  · have hbad : firstBad entries = some k := by
      cases entries <;> exact findIdx?_of_first (by simpa [bad, badSwitchEntry, badDictionaryEntry, countedDigits, or_assoc] using hk)
        (by simpa [bad, badSwitchEntry, badDictionaryEntry, countedDigits, or_assoc] using hbefore)
    exact hstart ▸ takeTableWrite_of_bad (s := heardFeed s) hloading hin hbad hs.1 tag
  · have hgood : firstBad entries = none := by
      cases entries <;> exact findIdx?_of_none
        (by simpa [bad, badSwitchEntry, badDictionaryEntry, countedDigits, or_assoc] using hnone)
    have hwritten : ((heardFeed s).bank b).written start entries = written := by cases entries <;> rfl
    have h := takeTableWrite_of_good (s := heardFeed s) hloading hin hgood hs.1 tag
    rw [hstart, hwritten] at h
    exact h

end

end Sys2Proof.Machine

namespace Sys2Proof.Machine

open Sys2Proof.Safety

section

/-! ### The validation of a dictionary (R49 to R51) -/

/-- The string at index `j` is one of those seen, or equals the string at a lower index. -/
def Repeats (m : NMap (List Nat)) (seen : List (List Nat)) (j : Nat) : Prop :=
  ∃ e, NMap.find? m j = some e ∧ (e ∈ seen ∨ ∃ i < j, NMap.find? m i = some e)

theorem repeats_cons_iff {i : Nat} {e : List Nat} {rest : NMap (List Nat)} (seen : List (List Nat)) (j : Nat)
    (h : NMap.risingFrom (i + 1) rest = true) :
    Repeats ((i, e) :: rest) seen j ↔ (j = i ∧ e ∈ seen) ∨ Repeats rest (e :: seen) j := by
  have habsent : ∀ k ≤ i, NMap.find? rest k = none := fun k hk => NMap.find?_of_risingFrom h (Nat.lt_succ_of_le hk)
  have hbelow : ∀ k < i, NMap.find? ((i, e) :: rest) k = none := fun k hk => by simp [NMap.find?, hk]
  have hat : NMap.find? ((i, e) :: rest) i = some e := by simp [NMap.find?]
  have habove : ∀ k, i < k → NMap.find? ((i, e) :: rest) k = NMap.find? rest k := fun k hk => by
    simp [NMap.find?, Nat.not_lt.2 hk.le, hk.ne']
  obtain hlt | rfl | hgt := Nat.lt_trichotomy j i
  · simp [Repeats, hbelow j hlt, habsent j hlt.le, hlt.ne]
  · have hnone : ¬ ∃ k < j, NMap.find? ((j, e) :: rest) k = some e := by
      rintro ⟨k, hk, hfound⟩
      simp [hbelow k hk] at hfound
    simp [Repeats, hat, habsent j le_rfl, hnone]
  · have hlower (x : List Nat) : (∃ k < j, NMap.find? ((i, e) :: rest) k = some x)
        ↔ x = e ∨ ∃ k < j, NMap.find? rest k = some x := by
      constructor
      · rintro ⟨k, hk, hfound⟩
        obtain hlt | rfl | hgt := Nat.lt_trichotomy k i
        · simp [hbelow k hlt] at hfound
        · rw [hat] at hfound
          exact .inl (Option.some.inj hfound).symm
        · exact .inr ⟨k, hk, (habove k hgt) ▸ hfound⟩
      · rintro (rfl | ⟨k, hk, hfound⟩)
        · exact ⟨i, hgt, hat⟩
        · have hik : i < k := by
            by_contra hle
            simp [habsent k (Nat.not_lt.1 hle)] at hfound
          exact ⟨k, hk, (habove k hik).trans hfound⟩
    simp only [Repeats, habove j hgt, hlower, hgt.ne', false_and, false_or, List.mem_cons, ← or_assoc]
    simp only [or_comm]

theorem not_repeats_nil (seen : List (List Nat)) (j : Nat) : ¬ Repeats [] seen j := by
  simp [Repeats, NMap.find?]

theorem not_repeats_of_lt {m : NMap (List Nat)} {low j : Nat} (h : NMap.risingFrom low m = true) (hj : j < low)
    (seen : List (List Nat)) : ¬ Repeats m seen j := by
  simp [Repeats, NMap.find?_of_risingFrom h hj]

theorem duplicateIndex_of_first {m : NMap (List Nat)} {low j : Nat} (seen : List (List Nat))
    (h : NMap.risingFrom low m = true) (hj : Repeats m seen j) (hfirst : ∀ i < j, ¬ Repeats m seen i) :
    duplicateIndex m seen = some j := by
  induction m generalizing low seen with
  | nil => exact absurd hj (not_repeats_nil seen j)
  | cons p rest ih =>
    obtain ⟨i, e⟩ := p
    simp only [NMap.risingFrom, Bool.and_eq_true] at h
    obtain ⟨-, hrest⟩ := h
    simp only [repeats_cons_iff seen _ hrest] at hj hfirst
    rw [duplicateIndex]
    by_cases hseen : e ∈ seen
    · have hij : i = j := by
        obtain ⟨hij, -⟩ | hj := hj
        · exact hij.symm
        · have hle : ¬ i < j := fun hlt => hfirst i hlt (.inl ⟨rfl, hseen⟩)
          exact absurd hj (not_repeats_of_lt hrest (Nat.lt_succ_of_le (Nat.not_lt.1 hle)) _)
      rw [if_pos (List.contains_iff_mem.2 hseen), hij]
    · rw [if_neg (mt List.contains_iff_mem.1 hseen)]
      exact ih (e :: seen) hrest (hj.resolve_left fun hj => hseen hj.2) fun k hk hrep => hfirst k hk (.inr hrep)

theorem duplicateIndex_of_none {m : NMap (List Nat)} {low : Nat} (seen : List (List Nat))
    (h : NMap.risingFrom low m = true) (hnone : ∀ j, ¬ Repeats m seen j) : duplicateIndex m seen = none := by
  induction m generalizing low seen with
  | nil => rfl
  | cons p rest ih =>
    obtain ⟨i, e⟩ := p
    simp only [NMap.risingFrom, Bool.and_eq_true] at h
    obtain ⟨-, hrest⟩ := h
    simp only [repeats_cons_iff seen _ hrest, not_or, not_and] at hnone
    obtain ⟨hunseen, -⟩ := hnone i
    rw [duplicateIndex, if_neg (mt List.contains_iff_mem.1 (hunseen rfl))]
    exact ih (e :: seen) hrest fun j => (hnone j).2

theorem repeats_iff_read {m : NMap (List Nat)} (h : NMap.canonical [] m = true) (j : Nat) :
    Repeats m [] j ↔ NMap.read [] m j ≠ [] ∧ ∃ i < j, NMap.read [] m i = NMap.read [] m j := by
  have hused {k : Nat} {e : List Nat} (hk : NMap.find? m k = some e) : e ≠ [] := by
    simp only [NMap.canonical, Bool.and_eq_true, List.all_eq_true, Bool.not_eq_true', decide_eq_false_iff_not] at h
    exact h.2 _ (NMap.mem_of_find? hk)
  constructor
  · rintro ⟨e, hj, hseen | ⟨i, hi, hlower⟩⟩
    · simp at hseen
    · simp only [NMap.read, hj, Option.getD_some]
      exact ⟨hused hj, i, hi, by simp [hlower]⟩
  · rintro ⟨hne, i, hi, heq⟩
    cases hj : NMap.find? m j with
    | none => simp [NMap.read, hj] at hne
    | some e =>
      refine ⟨e, hj, .inr ⟨i, hi, ?_⟩⟩
      simp only [NMap.read, hj, Option.getD_some] at heq hne
      cases hlower : NMap.find? m i with
      | none => simp [hlower] at heq; exact absurd heq hne
      | some x => simpa [hlower] using heq

end

section
variable {s : State}

theorem heldElsewhere_iff {b : Fin 4} {g : Nat} :
    heldElsewhere s b g = true ↔ ∃ o, o ≠ b ∧ (s.bank o).holdsGeneration g = true := by
  simp [heldElsewhere]

/-- A TABLE_END that passes its form is refused by the first of its tests that fails. -/
theorem exec_tableEnd_of_refused (hs : Attentive s) {supplied generation : Nat} {b : Fin 4} {code : ResponseCode}
    (hsupplied : supplied ≤ 1) (h : endRefusal b (suppliedOf supplied generation) s = some code) (tag : Nat) :
    exec (.tableEnd tag b.val supplied generation) s
      = .next (flushReports (replied tag 0x12 code .none (heardFeed s))) := by
  have hrefusal : endRefusal (bankOf b.val) (suppliedOf supplied generation) (heardFeed s) = some code := by
    rw [bankOf_val]; exact h
  rw [exec_of_carried (r := .tableEnd b.val supplied generation) rfl hs rfl (by simp [holdsHead, hrefusal])
    (by simp [formOk, bank_le, hsupplied]) rfl]
  simp only [carryOut, hrefusal]
  rw [answer_of_up (s := heardFeed s) hs.1]
  rfl

theorem exec_tableEnd_of_held (hs : Attentive s) {supplied generation : Nat} {b : Fin 4}
    (hsupplied : supplied ≤ 1) (h : endRefusal b (suppliedOf supplied generation) s = none) (tag : Nat) :
    exec (.tableEnd tag b.val supplied generation) s = .next (flushReports
      { heardFeed s with control := [{ tag, request := .tableEnd b.val supplied generation }] }) := by
  have hrefusal : endRefusal (bankOf b.val) (suppliedOf supplied generation) (heardFeed s) = none := by
    rw [bankOf_val]; exact h
  exact exec_of_held rfl hs (by simp [holdsHead, hrefusal, formOk, bank_le, hsupplied, allowedIn])

theorem completeValidation_of_duplicate {b : Fin 4} {j : Nat} (hup : s.feed.up = true)
    (h : duplicateIndex (s.bank b).dictionary [] = some j) (tag supplied generation : Nat) :
    completeValidation tag b.val supplied generation s = replied tag 0x12 .badRequest (.index j) s := by
  simp only [completeValidation, bankOf_val, h]
  exact respond_of_up hup ..

theorem completeValidation_of_distinct {b : Fin 4} (hup : s.feed.up = true)
    (h : duplicateIndex (s.bank b).dictionary [] = none) (tag supplied generation : Nat) :
    completeValidation tag b.val supplied generation s = replied tag 0x12 .done
      (.bankReady b.val ((suppliedOf supplied generation).getD
        (counterAfter s.loadCounter (suppliedOf supplied generation))))
      (finishLoad b (suppliedOf supplied generation) s) := by
  have hbank : ((finishLoad b (suppliedOf supplied generation) s).bank b).generation = some
      ((suppliedOf supplied generation).getD (counterAfter s.loadCounter (suppliedOf supplied generation))) :=
    congrArg Bank.generation ((State.bank_setBank s b b _).trans (if_pos rfl))
  simp only [completeValidation, bankOf_val, h, hbank, Option.getD_some]
  exact respond_of_up (s := finishLoad b (suppliedOf supplied generation) s) hup ..

theorem validationEnds_of_head {tag bank supplied generation : Nat} {rest : List QueuedRequest}
    (h : s.control = { tag, request := .tableEnd bank supplied generation } :: rest) :
    validationEnds s = takeTurns { completeValidation tag bank supplied generation s with control := rest } := by
  simp only [validationEnds, h]

theorem validationEnds_of_no_head (h : ∀ tag b supplied generation rest,
    s.control ≠ { tag, request := .tableEnd b supplied generation } :: rest) : validationEnds s = s := by
  unfold validationEnds
  split
  · rfl
  case h_2 q rest hcontrol =>
    split
    case h_1 bank supplied generation hr =>
      obtain ⟨tag, r⟩ := q
      subst hr
      exact absurd hcontrol (h _ _ _ _ _)
    · rfl

end

section

/-- Settles O45: the five tests, the completion by whether a string repeats, and no TABLE_END at the head. -/
theorem tableEndAndValidation : Obligations.TableEndAndValidation := by
  refine ⟨fun s tag supplied generation b hs hsupplied => ?_, fun s tag supplied generation b rest hup hhead hcanon hsupplied => ?_,
    fun s h => ?_⟩
  · intro refused holds elsewhere
    have hrefused {code : ResponseCode} (h : endRefusal b (suppliedOf supplied generation) s = some code) : refused code :=
      exec_tableEnd_of_refused hs hsupplied h tag
    have hholds (h : endRefusal b (suppliedOf supplied generation) s = none) : holds :=
      exec_tableEnd_of_held hs hsupplied h tag
    have helsewhere : heldElsewhere s b generation = true ↔ elsewhere := heldElsewhere_iff
    refine ⟨fun h => hrefused (by simp [endRefusal, h]), fun hloading =>
      ⟨fun h1 hdevice => hrefused ?_, fun h1 hdevice hzero => hrefused ?_, fun h1 hdevice hzero helse => hrefused ?_,
        fun h1 hdevice hzero helse => hholds ?_, fun h0 hmax => hrefused ?_, fun h0 hmax => hholds ?_⟩⟩
    · simp [endRefusal, hloading, suppliedOf, h1, hdevice]
    · simp [endRefusal, hloading, suppliedOf, h1, hdevice, hzero]
    · simp [endRefusal, hloading, suppliedOf, h1, hdevice, hzero, helsewhere.2 helse]
    · simp [endRefusal, hloading, suppliedOf, h1, hdevice, hzero, mt helsewhere.1 helse]
    · simp [endRefusal, hloading, suppliedOf, h0, hmax, max32]
    · simp [endRefusal, hloading, suppliedOf, h0, hmax, max32]
  · intro string repeats
    have hrepeats (j : Nat) : Repeats (s.bank b).dictionary [] j ↔ repeats j := repeats_iff_read hcanon j
    have hrising : NMap.risingFrom 0 (s.bank b).dictionary = true := rising_of_canonical hcanon
    have hexec {t : State} (h : completeValidation tag b.val supplied generation s = t) :
        exec .validationComplete s = .next (flushReports (takeTurns { t with control := rest })) := by
      rw [← h, ← validationEnds_of_head hhead]
      rfl
    refine ⟨fun j hj hfirst => ?_, fun hnone => ?_⟩
    · exact hexec (completeValidation_of_duplicate hup (duplicateIndex_of_first [] hrising ((hrepeats j).2 hj)
        fun i hi h => hfirst i hi ((hrepeats i).1 h)) tag supplied generation)
    · have hdistinct := completeValidation_of_distinct hup (duplicateIndex_of_none [] hrising fun j h =>
        hnone j ((hrepeats j).1 h)) tag supplied generation
      intro counter given
      have hcounter : counterAfter s.loadCounter (suppliedOf supplied generation) = counter := by
        unfold counterAfter suppliedOf counter
        split <;> rename_i h <;> split at h <;> simp_all
      have hgiven : (suppliedOf supplied generation).getD counter = given := by
        unfold suppliedOf counter given
        split <;> rfl
      rw [finishLoad, hcounter, hgiven] at hdistinct
      exact hexec hdistinct
  · exact congrArg (fun x => Host.Outcome.next (flushReports x)) (validationEnds_of_no_head h)

end

end Sys2Proof.Machine

namespace Sys2Proof.Machine

open Sys2Proof.Safety

section
variable {s : State}

/-! ### The START computation (R119, R120) -/

/-- One operation on every bank in turn is the operation on the vector of banks. -/
theorem foldl_setBank_all (f : Fin 4 → Bank → Bank) (s : State) :
    (List.finRange 4).foldl (fun x i => x.setBank i (f i (x.bank i))) s
      = { s with banks := Vector.ofFn fun i => f i (s.bank i) } := by
  have hframe (is : List (Fin 4)) (x : State) : is.foldl (fun x i => x.setBank i (f i (x.bank i))) x
      = { x with banks := (is.foldl (fun x i => x.setBank i (f i (x.bank i))) x).banks } := by
    induction is generalizing x with
    | nil => rfl
    | cons i is ih => rw [List.foldl_cons, ih]; rfl
  have hbank (is : List (Fin 4)) (his : is.Nodup) (x : State) (b : Fin 4) :
      (is.foldl (fun x i => x.setBank i (f i (x.bank i))) x).bank b = if b ∈ is then f b (x.bank b) else x.bank b := by
    induction is generalizing x with
    | nil => simp
    | cons i is ih =>
      obtain ⟨hi, his⟩ := List.nodup_cons.mp his
      rw [List.foldl_cons, ih his, State.bank_setBank]
      by_cases h : i = b
      · subst h; simp [hi]
      · simp [h, Ne.symm h]
  rw [hframe]
  congr 1
  refine Vector.ext fun i hi => ?_
  have h := hbank (List.finRange 4) (List.nodup_finRange 4) s ⟨i, hi⟩
  rw [if_pos (List.mem_finRange _)] at h
  simpa [State.bank] using h

theorem countBanks_eq (s : State) :
    countBanks s = { s with banks := Vector.ofFn fun i => countedBank s.catalog i (s.bank i) } := by
  have hcatalog : (fun (x : State) i => x.setBank i (countedBank s.catalog i (x.bank i)))
      = fun (x : State) i => x.setBank i ((fun i b => countedBank s.catalog i b) i (x.bank i)) := rfl
  rw [countBanks, hcatalog, foldl_setBank_all]

theorem mem_freeIdList_iff {catalog : NMap CatalogEntry} {id : Nat} :
    id ∈ freeIdList catalog ↔ id < 262144 ∧ (NMap.read {} catalog id).state = .free := by
  simp only [freeIdList, List.mem_filter, List.mem_range, decide_eq_true_eq, Config.catalogEntries]

theorem freeIdList_sorted (catalog : NMap CatalogEntry) : (freeIdList catalog).Pairwise (· < ·) :=
  List.pairwise_lt_range.filter _

theorem largestGeneration_spec (catalog : NMap CatalogEntry) :
    (∀ p ∈ catalog, p.2.carriedGeneration ≤ largestGeneration catalog)
    ∧ (largestGeneration catalog = 0 ∨ ∃ p ∈ catalog, p.2.carriedGeneration = largestGeneration catalog) := by
  have hfold (m : Nat) (l : NMap CatalogEntry) :
      m ≤ l.foldl (fun m p => max m p.2.carriedGeneration) m
      ∧ (∀ p ∈ l, p.2.carriedGeneration ≤ l.foldl (fun m p => max m p.2.carriedGeneration) m)
      ∧ (l.foldl (fun m p => max m p.2.carriedGeneration) m = m
        ∨ ∃ p ∈ l, p.2.carriedGeneration = l.foldl (fun m p => max m p.2.carriedGeneration) m) := by
    induction l generalizing m with
    | nil => simp
    | cons p l ih =>
      obtain ⟨hfrom, hall, hattained⟩ := ih (max m p.2.carriedGeneration)
      simp only [List.foldl_cons, List.forall_mem_cons]
      refine ⟨le_trans (le_max_left ..) hfrom, ⟨le_trans (le_max_right ..) hfrom, hall⟩, ?_⟩
      obtain heq | ⟨q, hq, heq⟩ := hattained
      · obtain h | h := max_choice m p.2.carriedGeneration
        · exact .inl (heq.trans h)
        · exact .inr ⟨p, List.mem_cons_self, h.symm.trans heq.symm⟩
      · exact .inr ⟨q, List.mem_cons_of_mem _ hq, heq⟩
  obtain ⟨-, hall, hattained⟩ := hfold 0 catalog
  exact ⟨hall, hattained⟩

theorem carriedGeneration_of_carried {e : CatalogEntry} {o : Opening} (hstate : e.state ≠ .free)
    (ho : e.opening = some o) : e.carriedGeneration = o.key.generation := by
  simp [CatalogEntry.carriedGeneration, ho, hstate]

theorem carried_of_carriedGeneration {e : CatalogEntry} (h : e.carriedGeneration ≠ 0) :
    ∃ o, e.state ≠ .free ∧ e.opening = some o ∧ o.key.generation = e.carriedGeneration := by
  unfold CatalogEntry.carriedGeneration at h ⊢
  cases ho : e.opening with
  | none => simp [ho] at h
  | some o =>
    have hstate : e.state ≠ .free := fun hfree => by simp [ho, hfree] at h
    exact ⟨o, hstate, rfl, by simp [hstate]⟩

/-- An entry that is not FREE is listed. -/
theorem entry_listed {id : Nat} (h : (s.entry id).state ≠ .free) : (id, s.entry id) ∈ s.catalog := by
  unfold State.entry NMap.read at h ⊢
  cases hfound : NMap.find? s.catalog id with
  | none => simp [hfound] at h
  | some e => simpa using NMap.mem_of_find? hfound

theorem entry_of_listed (hc : NMap.canonical {} s.catalog = true) {p : Nat × CatalogEntry} (hp : p ∈ s.catalog) :
    s.entry p.1 = p.2 := by
  have h : NMap.find? s.catalog p.1 = some p.2 := NMap.find?_of_mem (rising_of_canonical hc) hp
  simp [State.entry, NMap.read, h]

theorem completeStart_eq (day : Nat) (s : State) : completeStart day s = { s with
    freeIds := freeIdList s.catalog, device := .running, days := startDays (s.clock.setDay day)
    banks := Vector.ofFn fun i => countedBank s.catalog i (s.bank i), clock := s.clock.setDay day
    loadCounter := max s.loadCounter (largestGeneration s.catalog) } := by
  rw [completeStart]
  generalize freeIdList s.catalog = ids
  rw [countBanks_eq]
  rfl

theorem startEnds_of_head {tag day : Nat} {rest : List QueuedRequest}
    (h : s.control = { tag, request := .start day } :: rest) :
    startEnds s = takeTurns { answer tag (.start day) .done (completeStart day s) with control := rest } := by
  simp only [startEnds, h]

theorem startEnds_of_no_head (h : ∀ tag day rest, s.control ≠ { tag, request := .start day } :: rest) : startEnds s = s := by
  unfold startEnds
  split
  · rfl
  case h_2 q rest hcontrol =>
    split
    case h_1 day hr =>
      obtain ⟨tag, r⟩ := q
      subst hr
      exact absurd hcontrol (h _ _ _)
    · rfl

end

section

/-- Settles O41: the request, its completion part by part, and no START at the head. -/
theorem startAndItsCompletion : Obligations.StartAndItsCompletion := by
  refine ⟨fun s tag day hs hdevice => ⟨fun hday => ?_, fun hday => ?_⟩, fun s tag day rest hup hhead => ?_, fun s h => ?_⟩
  · have hrefusal : startRefusal day = none := if_neg (Nat.not_lt.2 hday)
    exact exec_of_held rfl hs (by simp [holdsHead, hrefusal, formOk, allowedIn, heardFeed, hdevice])
  · have hrefusal : startRefusal day = some .badRequest := if_pos hday
    rw [exec_of_carried (r := .start day) rfl hs rfl (by simp [holdsHead, hrefusal]) rfl (by simp [allowedIn, hdevice])]
    simp only [carryOut, hrefusal]
    rw [answer_of_up (s := heardFeed s) hs.1]
    rfl
  · refine ⟨{ completeStart day s with control := rest }, ?_, ?_, fun hcanon => ?_, fun id => ?_, ?_, fun b => ?_⟩
    · change Host.Outcome.next (flushReports (startEnds s)) = _
      have hupAfter : (completeStart day s).feed.up = true := by rw [completeStart_eq]; exact hup
      rw [startEnds_of_head hhead, answer_of_up hupAfter]
      rfl
    · simp only [completeStart_eq]
      rfl
    · intro carries
      obtain ⟨hall, hattained⟩ := largestGeneration_spec s.catalog
      refine ⟨?_, ?_⟩
      · rintro g ⟨id, o, hstate, ho, rfl⟩
        exact carriedGeneration_of_carried hstate ho ▸ hall _ (entry_listed hstate)
      · by_cases hzero : largestGeneration s.catalog = 0
        · exact .inl hzero
        · obtain ⟨p, hp, heq⟩ := hattained.resolve_left hzero
          obtain ⟨o, hstate, ho, hgeneration⟩ := carried_of_carriedGeneration (heq ▸ hzero)
          rw [← entry_of_listed hcanon hp] at hstate ho
          exact .inr ⟨p.1, o, hstate, ho, hgeneration.trans heq⟩
    · simp only [completeStart_eq]
      exact mem_freeIdList_iff
    · simp only [completeStart_eq]
      exact freeIdList_sorted s.catalog
    · have hbank : (completeStart day s).bank b = countedBank s.catalog b (s.bank b) := by
        simp [completeStart_eq, State.bank]
      refine hbank.trans ?_
      simp only [← List.countP_eq_length_filter]
      rfl
  · exact congrArg (fun x => Host.Outcome.next (flushReports x)) (startEnds_of_no_head h)

end

end Sys2Proof.Machine

namespace Sys2Proof.Machine

open Sys2Proof.Safety

section
variable {s : State}

/-! ### CATALOG_LOAD (R118) -/

theorem firstBadEntry_of_first {good : List LoadEntry} {e : LoadEntry} (rest : List LoadEntry)
    (hgood : ∀ x ∈ good, badLoadEntry x = false) (hbad : badLoadEntry e = true) :
    firstBadEntry (good ++ e :: rest) = some (good.length + 1) := by
  have hnone : good.findIdx? badLoadEntry = none := List.findIdx?_eq_none_iff.2 hgood
  simp [firstBadEntry, List.findIdx?_append, hnone, List.findIdx?_cons, hbad]

theorem firstBadEntry_of_good {entries : List LoadEntry} (hgood : ∀ e ∈ entries, badLoadEntry e = false) :
    firstBadEntry entries = none := by
  rw [firstBadEntry, List.findIdx?_eq_none_iff.2 hgood]
  rfl

/-- R118 test 3 passes over entries whose ids are FREE, all different, and not named before. -/
theorem firstTakenFrom_append {catalog : NMap CatalogEntry} {good : List LoadEntry} {seen : List Nat}
    (hfree : ∀ x ∈ good, (NMap.read {} catalog x.segmentId).state = .free)
    (hnodup : (good.map LoadEntry.segmentId).Nodup) (hunseen : ∀ x ∈ good, x.segmentId ∉ seen)
    (position : Nat) (rest : List LoadEntry) : firstTakenFrom catalog position seen (good ++ rest)
      = firstTakenFrom catalog (position + good.length) ((good.map LoadEntry.segmentId).reverse ++ seen) rest := by
  induction good generalizing position seen with
  | nil => rfl
  | cons g good ih =>
    simp only [List.forall_mem_cons] at hfree hunseen
    obtain ⟨hg, hgoodFree⟩ := hfree
    obtain ⟨hgSeen, hgoodSeen⟩ := hunseen
    simp only [List.map_cons, List.nodup_cons, List.mem_map, not_exists, not_and] at hnodup
    obtain ⟨hgNew, hgoodNodup⟩ := hnodup
    rw [List.cons_append, firstTakenFrom, if_neg (by simp [hg, hgSeen]),
      ih hgoodFree hgoodNodup fun x hx hmem => ?_]
    · simp only [List.map_cons, List.reverse_cons, List.append_assoc, List.singleton_append, List.length_cons]
      congr 1
      omega
    · obtain heq | hmem := List.mem_cons.1 hmem
      · exact hgNew x hx heq
      · exact hgoodSeen x hx hmem

theorem firstTaken_of_first {catalog : NMap CatalogEntry} {good : List LoadEntry} {e : LoadEntry} (rest : List LoadEntry)
    (hfree : ∀ x ∈ good, (NMap.read {} catalog x.segmentId).state = .free)
    (hnodup : (good.map LoadEntry.segmentId).Nodup)
    (htaken : (NMap.read {} catalog e.segmentId).state ≠ .free ∨ e.segmentId ∈ good.map LoadEntry.segmentId) :
    firstTaken catalog (good ++ e :: rest) = some (good.length + 1) := by
  have htaken : (NMap.read {} catalog e.segmentId).state ≠ .free
      ∨ e.segmentId ∈ (good.map LoadEntry.segmentId).reverse ++ [] := by simpa using htaken
  rw [firstTaken, firstTakenFrom_append hfree hnodup (by simp), firstTakenFrom, if_pos htaken, Nat.add_comm]

theorem firstTaken_of_good {catalog : NMap CatalogEntry} {entries : List LoadEntry}
    (hfree : ∀ x ∈ entries, (NMap.read {} catalog x.segmentId).state = .free)
    (hnodup : (entries.map LoadEntry.segmentId).Nodup) : firstTaken catalog entries = none := by
  have h := firstTakenFrom_append hfree hnodup (seen := []) (by simp) 1 []
  rw [List.append_nil] at h
  rw [firstTaken, h]
  rfl

theorem loadEntries_frame (entries : List LoadEntry) (s : State) : loadEntries entries s
    = { s with catalog := (loadEntries entries s).catalog, stateCounts := (loadEntries entries s).stateCounts } := by
  induction entries generalizing s with
  | nil => rfl
  | cons e entries ih =>
    have h := ih (s.setEntry e.segmentId (loadedEntry e))
    exact h

/-- R118: each loaded entry stands at its id, and the other ids are left. -/
theorem loadEntries_entries {entries : List LoadEntry} (hnodup : (entries.map LoadEntry.segmentId).Nodup)
    (hc : NMap.canonical {} s.catalog = true) :
    (∀ e ∈ entries, (loadEntries entries s).entry e.segmentId = loadedEntry e)
    ∧ ∀ id, id ∉ entries.map LoadEntry.segmentId → (loadEntries entries s).entry id = s.entry id := by
  induction entries generalizing s with
  | nil => simp [loadEntries]
  | cons e entries ih =>
    simp only [List.map_cons, List.nodup_cons] at hnodup
    obtain ⟨hnew, hnodup⟩ := hnodup
    have hwrite (id : Nat) : (s.setEntry e.segmentId (loadedEntry e)).entry id
        = if id = e.segmentId then loadedEntry e else s.entry id :=
      NMap.read_write ({} : CatalogEntry) e.segmentId id (loadedEntry e) (rising_of_canonical hc)
    obtain ⟨hloaded, hkept⟩ := ih (s := s.setEntry e.segmentId (loadedEntry e)) hnodup
      (NMap.canonical_write {} s.catalog e.segmentId (loadedEntry e) hc)
    refine ⟨List.forall_mem_cons.2 ⟨(hkept _ hnew).trans ((hwrite _).trans (if_pos rfl)), hloaded⟩, fun id hid => ?_⟩
    simp only [List.map_cons, List.mem_cons, not_or] at hid
    obtain ⟨hne, hid⟩ := hid
    exact (hkept id hid).trans ((hwrite id).trans (if_neg hne))

/-- R110: each loaded entry goes from FREE to STORED. -/
theorem loadEntries_stateCounts {entries : List LoadEntry} (hnodup : (entries.map LoadEntry.segmentId).Nodup)
    (hc : NMap.canonical {} s.catalog = true) (hfree : ∀ e ∈ entries, (s.entry e.segmentId).state = .free) :
    (loadEntries entries s).stateCounts = (s.stateCounts.set 0 (s.stateCounts[0] - entries.length)).set 4
      (s.stateCounts[4] + entries.length) := by
  induction entries generalizing s with
  | nil => simp [loadEntries]
  | cons e entries ih =>
    simp only [List.map_cons, List.nodup_cons, List.mem_map, not_exists, not_and] at hnodup
    obtain ⟨hnew, hnodup⟩ := hnodup
    obtain ⟨he, hfree⟩ := List.forall_mem_cons.1 hfree
    have hrest : ∀ x ∈ entries, ((s.setEntry e.segmentId (loadedEntry e)).entry x.segmentId).state = .free := fun x hx => by
      have hwrite := NMap.read_write ({} : CatalogEntry) e.segmentId x.segmentId (loadedEntry e) (rising_of_canonical hc)
      rw [if_neg (hnew x hx)] at hwrite
      exact (congrArg CatalogEntry.state hwrite).trans (hfree x hx)
    have hstep : (s.setEntry e.segmentId (loadedEntry e)).stateCounts
        = (s.stateCounts.set 0 (s.stateCounts[0] - 1)).set 4 (s.stateCounts[4] + 1) := by
      change moveCount s.stateCounts (s.entry e.segmentId).state .stored = _
      rw [he]
      simp [moveCount, EntryState.code]
    have h := ih (s := s.setEntry e.segmentId (loadedEntry e)) hnodup
      (NMap.canonical_write {} s.catalog e.segmentId (loadedEntry e) hc) hrest
    rw [hstep] at h
    refine h.trans ?_
    ext i hi
    simp [Vector.getElem_set]
    split_ifs <;> omega

/-- A CATALOG_LOAD of 1 to 8 entries that arrives in STARTING is carried out. -/
theorem exec_catalogLoad_of_attentive (hs : Attentive s) (hdevice : s.device = .starting) {entries : List LoadEntry}
    (hsome : 1 ≤ entries.length) (hmany : entries.length ≤ 8) (tag : Nat) :
    exec (.catalogLoad tag entries) s = .next (flushReports (takeCatalogLoad tag entries (heardFeed s))) :=
  exec_of_carried (r := .catalogLoad entries) rfl hs rfl (by simp [holdsHead]) (by simp [formOk, hsome, hmany])
    (by simp [allowedIn, hdevice])

theorem takeCatalogLoad_of_bad {entries : List LoadEntry} {position : Nat} (hup : s.feed.up = true)
    (h : firstBadEntry entries = some position) (tag : Nat) :
    takeCatalogLoad tag entries s = replied tag 0x02 .badRequest (.position position) s := by
  simp only [takeCatalogLoad, h]
  exact respond_of_up hup ..

theorem takeCatalogLoad_of_taken {entries : List LoadEntry} {position : Nat} (hup : s.feed.up = true)
    (hgood : firstBadEntry entries = none) (h : firstTaken s.catalog entries = some position) (tag : Nat) :
    takeCatalogLoad tag entries s = replied tag 0x02 .inUse (.position position) s := by
  simp only [takeCatalogLoad, hgood, h]
  exact respond_of_up hup ..

theorem takeCatalogLoad_of_good {entries : List LoadEntry} (hup : s.feed.up = true)
    (hgood : firstBadEntry entries = none) (h : firstTaken s.catalog entries = none) (tag : Nat) :
    takeCatalogLoad tag entries s = replied tag 0x02 .done .none (loadEntries entries s) := by
  have hupAfter : (loadEntries entries s).feed.up = true := by rw [loadEntries_frame]; exact hup
  simp only [takeCatalogLoad, hgood, h]
  exact respond_of_up hupAfter ..

/-- R118 test 2: the ranges of R108. -/
theorem badLoadEntry_iff (e : LoadEntry) : badLoadEntry e = true ↔ 262143 < e.segmentId ∨ 255 < e.edition ∨ 7 < e.cls
    ∨ 65535 < e.day ∨ 3 < e.bank ∨ e.generation < 1 ∨ 4294967295 < e.generation ∨ e.recordCount < 1 ∨ 4096 < e.recordCount
    ∨ e.bodyLength < 6 ∨ 65496 < e.bodyLength ∨ 4294967295 < e.checkValue ∨ 4294967295 < e.durationSum
    ∨ 4294967295 < e.firstStart ∨ 4294967295 < e.lastStart ∨ 65535 < e.expiryDay
    ∨ loadedVerify e.verifyCode e.reasonCode = none ∨ e.switches = [] ∨ ∃ w ∈ e.switches, 511 < w := by
  have hid : Config.catalogEntries ≤ e.segmentId ↔ 262143 < e.segmentId := Iff.rfl
  simp only [badLoadEntry, Bool.or_eq_true, decide_eq_true_eq, List.any_eq_true, List.isEmpty_iff,
    Option.isNone_iff_eq_none, or_assoc, hid]

/-- Section 12.8: the codes of a result and its reason. -/
theorem loadedVerify_iff (code reason : Nat) (result : VerifyResult) : loadedVerify code reason = some result ↔
    (code, reason, result) ∈ [(0, 0, VerifyResult.none), (1, 0, .fullOk), (2, 0, .checkOnlyOk), (3, 1, .damaged .check),
      (3, 2, .damaged .count), (3, 3, .damaged .duration), (3, 4, .damaged .header), (3, 5, .damaged .decode),
      (3, 6, .damaged .missing)] := by
  unfold loadedVerify
  split <;> simp_all [eq_comm]

end

section

/-- Settles O42: the two tests, each passing over the good entries before the refused one, then the entries placed. -/
theorem catalogLoadPlacesEntries : Obligations.CatalogLoadPlacesEntries := by
  intro s tag entries hs hdevice hsome hmany answered
  have hexec := exec_catalogLoad_of_attentive hs hdevice hsome hmany tag
  have hanswered {code : ResponseCode} {results : Results} {t : State}
      (h : takeCatalogLoad tag entries (heardFeed s) = replied tag 0x02 code results t) : answered code results t :=
    hexec.trans (congrArg (fun x => Host.Outcome.next (flushReports x)) h)
  refine ⟨fun good e rest hsplit hgood hbad => ?_, fun hallGood => ⟨fun good e rest hsplit hfree hnodup htaken => ?_,
    fun hcanon hfree hnodup => ?_⟩, badLoadEntry_iff, loadedVerify_iff⟩
  · exact hanswered (takeCatalogLoad_of_bad (s := heardFeed s) hs.1 (hsplit ▸ firstBadEntry_of_first rest hgood hbad) tag)
  · exact hanswered (takeCatalogLoad_of_taken (s := heardFeed s) hs.1 (firstBadEntry_of_good hallGood)
      (hsplit ▸ firstTaken_of_first rest hfree hnodup htaken) tag)
  · obtain ⟨hloaded, hkept⟩ := loadEntries_entries (s := heardFeed s) hnodup hcanon
    exact ⟨loadEntries entries (heardFeed s), hanswered (takeCatalogLoad_of_good (s := heardFeed s) hs.1
      (firstBadEntry_of_good hallGood) (firstTaken_of_good hfree hnodup) tag), loadEntries_frame entries (heardFeed s), hloaded,
      hkept, loadEntries_stateCounts (s := heardFeed s) hnodup hcanon hfree⟩

end

end Sys2Proof.Machine

namespace Sys2Proof.Machine

open Sys2Proof.Safety

section
variable {s : State}

/-! ### The walkers' states (R136, R142, R164) -/

theorem enterSweep_eq (w : Sweeper) (s : State) : enterSweep w s = { s with sweeper := passSweeper s w } := by
  unfold enterSweep passSweeper
  rfl

theorem enterVerify_eq (v : Verifier) (s : State) : enterVerify v s = { s with verifier := passVerifier s v } := by
  unfold enterVerify passVerifier
  split <;> rfl

theorem passSweeper_congr {t : State} (hlanes : t.lanes = s.lanes) (hparams : t.params = s.params)
    (htime : t.runTime = s.runTime) (w : Sweeper) : passSweeper t w = passSweeper s w := by
  have hpaused : t.anyPaused = s.anyPaused := by simp only [State.anyPaused, State.lane, hlanes]
  have hafter (n : Nat) : t.after n = s.after n := by simp only [State.after, htime]
  simp only [passSweeper, hpaused, hparams, hafter]

theorem WalkPhase.inPass_iff (p : WalkPhase) : p.inPass = true ↔ Safety.inPass p := by
  cases p <;> simp [WalkPhase.inPass, Safety.inPass]

theorem restartSweep_of_outside (h : s.sweeper.phase = .idle ∨ s.sweeper.phase = .stopped) : restartSweep s = { s with
    sweeper := passSweeper s { s.sweeper with cursor := 0, counts := {}, anotherPass := false } } := by
  rw [← enterSweep_eq]
  obtain h | h := h <;> simp only [restartSweep, h]

theorem restartSweep_of_inPass (h : Safety.inPass s.sweeper.phase) :
    restartSweep s = { s with sweeper := { s.sweeper with cursor := 0, counts := {} } } := by
  obtain h | h | h := h <;> simp only [restartSweep, h]

theorem resumeSweep_of_idle (h : s.sweeper.phase = .idle) :
    resumeSweep s = { s with sweeper := passSweeper s { s.sweeper with counts := {}, anotherPass := false } } := by
  rw [← enterSweep_eq]
  simp only [resumeSweep, h]

theorem resumeSweep_of_stopped (h : s.sweeper.phase = .stopped) :
    resumeSweep s = { s with sweeper := passSweeper s s.sweeper } := by
  rw [← enterSweep_eq]
  simp only [resumeSweep, h]

theorem resumeSweep_of_inPass (h : Safety.inPass s.sweeper.phase) : resumeSweep s = s := by
  obtain h | h | h := h <;> simp only [resumeSweep, h]

theorem stopSweep_of_inPass (h : Safety.inPass s.sweeper.phase) :
    stopSweep s = { s with sweeper := { s.sweeper with phase := .stopped, restExpiry := none } } :=
  if_pos ((WalkPhase.inPass_iff _).2 h)

theorem stopSweep_of_outside (h : s.sweeper.phase = .idle ∨ s.sweeper.phase = .stopped) : stopSweep s = s := by
  obtain h | h := h <;> simp [stopSweep, h, WalkPhase.inPass]

theorem restartVerify_of_outside (h : s.verifier.phase = .idle ∨ s.verifier.phase = .stopped) :
    restartVerify s = { s with verifier := passVerifier s { s.verifier with cursor := 0, counts := {} } } := by
  rw [← enterVerify_eq]
  obtain h | h := h <;> simp only [restartVerify, h]

theorem restartVerify_of_inPass (h : Safety.inPass s.verifier.phase) :
    restartVerify s = { s with verifier := { s.verifier with cursor := 0, counts := {} } } := by
  obtain h | h | h := h <;> simp only [restartVerify, h]

theorem resumeVerify_of_idle (h : s.verifier.phase = .idle) :
    resumeVerify s = { s with verifier := passVerifier s { s.verifier with counts := {} } } := by
  rw [← enterVerify_eq]
  simp only [resumeVerify, h]

theorem resumeVerify_of_stopped (h : s.verifier.phase = .stopped) :
    resumeVerify s = { s with verifier := passVerifier s s.verifier } := by
  rw [← enterVerify_eq]
  simp only [resumeVerify, h]

theorem resumeVerify_of_inPass (h : Safety.inPass s.verifier.phase) : resumeVerify s = s := by
  obtain h | h | h := h <;> simp only [resumeVerify, h]

theorem stopVerify_of_inPass (h : Safety.inPass s.verifier.phase) :
    stopVerify s = { s with verifier := { s.verifier with phase := .stopped, restExpiry := none } } :=
  if_pos ((WalkPhase.inPass_iff _).2 h)

theorem stopVerify_of_outside (h : s.verifier.phase = .idle ∨ s.verifier.phase = .stopped) : stopVerify s = s := by
  obtain h | h := h <;> simp [stopVerify, h, WalkPhase.inPass]

/-- A request that acts on a walker and is answered before the grants that follow (R125). -/
theorem exec_of_started {c : Instr} {tag : Nat} {r : Request} {t : State} (h : requestOf c = some (tag, r)) (hs : Attentive s)
    (hreads : readsQueue r = false) (hfree : holdsHead r (heardFeed s) = false) (hform : formOk r = true)
    (hallowed : allowedIn s.device r = true) (hup : t.feed.up = true)
    (hcarried : carryOut tag r (heardFeed s) = arbitrate (answer tag r .done t)) :
    exec c s = .next (flushReports (arbitrate (replied tag (requestCode r) .done .none t))) := by
  rw [exec_of_carried h hs hreads hfree hform hallowed, hcarried, answer_of_up hup]

/-- A request that acts on a walker and grants nothing. -/
theorem exec_of_answered {c : Instr} {tag : Nat} {r : Request} {t : State} (h : requestOf c = some (tag, r))
    (hs : Attentive s) (hreads : readsQueue r = false) (hfree : holdsHead r (heardFeed s) = false) (hform : formOk r = true)
    (hallowed : allowedIn s.device r = true) {code : ResponseCode} (hup : t.feed.up = true)
    (hcarried : carryOut tag r (heardFeed s) = answer tag r code t) :
    exec c s = .next (flushReports (replied tag (requestCode r) code .none t)) := by
  rw [exec_of_carried h hs hreads hfree hform hallowed, hcarried, answer_of_up hup]

theorem exec_sweepStart (hs : Attentive s) (hrun : s.device = .running) {mode : Nat} (hmode : mode ≤ 1) (tag : Nat) {t : State}
    (ht : (if mode = 0 then restartSweep (heardFeed s) else resumeSweep (heardFeed s)) = t) (hup : t.feed.up = true) :
    exec (.sweepStart tag mode) s = .next (flushReports (arbitrate (replied tag 0x40 .done .none t))) :=
  exec_of_started (r := .sweepStart mode) rfl hs rfl (by simp [holdsHead]) (by simp [formOk, hmode])
    (by simp [allowedIn, hrun]) hup (ht ▸ rfl)

theorem exec_sweepStop (hs : Attentive s) (hrun : s.device = .running) (tag : Nat) {t : State}
    (ht : stopSweep (heardFeed s) = t) (hup : t.feed.up = true) :
    exec (.sweepStop tag) s = .next (flushReports (replied tag 0x41 .done .none t)) :=
  exec_of_answered (r := .sweepStop) rfl hs rfl (by simp [holdsHead]) rfl (by simp [allowedIn, hrun]) hup (ht ▸ rfl)

theorem exec_verifyStart (hs : Attentive s) (hrun : s.device = .running) {mode : Nat} (hmode : mode ≤ 1) (tag : Nat) {t : State}
    (ht : (if mode = 0 then restartVerify (heardFeed s) else resumeVerify (heardFeed s)) = t) (hup : t.feed.up = true) :
    exec (.verifyStart tag mode) s = .next (flushReports (arbitrate (replied tag 0x48 .done .none t))) :=
  exec_of_started (r := .verifyStart mode) rfl hs rfl (by simp [holdsHead]) (by simp [formOk, hmode])
    (by simp [allowedIn, hrun]) hup (ht ▸ rfl)

theorem exec_verifyStop (hs : Attentive s) (hrun : s.device = .running) (tag : Nat) {t : State}
    (ht : stopVerify (heardFeed s) = t) (hup : t.feed.up = true) :
    exec (.verifyStop tag) s = .next (flushReports (replied tag 0x49 .done .none t)) :=
  exec_of_answered (r := .verifyStop) rfl hs rfl (by simp [holdsHead]) rfl (by simp [allowedIn, hrun]) hup (ht ▸ rfl)

/-! ### DAY_CLOSE (R13, R141) -/

theorem autoSweep_of_off (h : s.params.autoSweep = false) : autoSweep s = s := by simp [autoSweep, h]

theorem autoSweep_of_idle (hon : s.params.autoSweep = true) (h : s.sweeper.phase = .idle) : autoSweep s = { s with
    sweeper := passSweeper s { s.sweeper with cursor := 0, counts := {}, anotherPass := false } } := by
  rw [← restartSweep_of_outside (.inl h)]
  simp [autoSweep, hon, h]

theorem autoSweep_of_stopped (hon : s.params.autoSweep = true) (h : s.sweeper.phase = .stopped) : autoSweep s = { s with
    sweeper := passSweeper s { s.sweeper with anotherPass := s.sweeper.anotherPass || decide (0 < s.sweeper.cursor) } } := by
  rw [← enterSweep_eq]
  simp [autoSweep, hon, h]

theorem autoSweep_of_inPass (hon : s.params.autoSweep = true) (h : Safety.inPass s.sweeper.phase) :
    autoSweep s = { s with sweeper := { s.sweeper with anotherPass := true } } := by
  obtain h | h | h := h <;> simp [autoSweep, hon, h]

/-- What the parts of a DAY_CLOSE before the sweeper's leave of what the sweeper reads. -/
theorem sealed_selection_reads (s : State) (which : OpenSegment → Bool) :
    let t := sealWhere which (takeSelection .dayClose .dayClose s)
    t.lanes = s.lanes ∧ t.params = s.params ∧ t.runTime = s.runTime ∧ t.sweeper = s.sweeper := by
  intro t
  have h : outsideRetire t = outsideRetire s :=
    (outsideRetire_sealWhere _ which).trans (outsideRetire_takeSelection s .dayClose .dayClose)
  have hlanes := congrArg State.lanes h
  have hparams := congrArg State.params h
  have htime := congrArg State.runTime h
  have hsweeper := congrArg State.sweeper h
  exact ⟨hlanes, hparams, htime, hsweeper⟩

end

section

/-- Settles O52. -/
theorem walkersStartAndStop : Obligations.WalkersStartAndStop := by
  intro s tag hs hrun w v started stopped
  have hup := hs.1
  refine ⟨fun h => ?_, fun h => ?_, fun h => ?_, fun h => ?_, fun h => ?_, fun h => ?_, fun h => ?_, fun h => ?_, fun h => ?_,
    fun h => ?_, fun h => ?_, fun h => ?_, fun h => ?_, fun h => ?_⟩
  · exact exec_sweepStart hs hrun (by decide) tag (restartSweep_of_outside (s := heardFeed s) h) hup
  · exact exec_sweepStart hs hrun (by decide) tag (restartSweep_of_inPass (s := heardFeed s) h) hup
  · exact exec_sweepStart hs hrun (by decide) tag (resumeSweep_of_idle (s := heardFeed s) h) hup
  · exact exec_sweepStart hs hrun (by decide) tag (resumeSweep_of_stopped (s := heardFeed s) h) hup
  · exact exec_sweepStart hs hrun (by decide) tag (resumeSweep_of_inPass (s := heardFeed s) h) hup
  · exact exec_sweepStop hs hrun tag (stopSweep_of_inPass (s := heardFeed s) h) hup
  · exact exec_sweepStop hs hrun tag (stopSweep_of_outside (s := heardFeed s) h) hup
  · exact exec_verifyStart hs hrun (by decide) tag (restartVerify_of_outside (s := heardFeed s) h) hup
  · exact exec_verifyStart hs hrun (by decide) tag (restartVerify_of_inPass (s := heardFeed s) h) hup
  · exact exec_verifyStart hs hrun (by decide) tag (resumeVerify_of_idle (s := heardFeed s) h) hup
  · exact exec_verifyStart hs hrun (by decide) tag (resumeVerify_of_stopped (s := heardFeed s) h) hup
  · exact exec_verifyStart hs hrun (by decide) tag (resumeVerify_of_inPass (s := heardFeed s) h) hup
  · exact exec_verifyStop hs hrun tag (stopVerify_of_inPass (s := heardFeed s) h) hup
  · exact exec_verifyStop hs hrun tag (stopVerify_of_outside (s := heardFeed s) h) hup

/-- Settles O48: the refusal, or the parts in their order; what the sweeper reads is as before the advance. -/
theorem dayCloseAdvances : Obligations.DayCloseAdvances := by
  intro s tag c hs hrun hday
  have hdayHeard : (heardFeed s).clock.currentDay = some c := hday
  have hexec : exec (.dayClose tag) s = .next (flushReports (takeDayClose tag (heardFeed s))) :=
    exec_of_carried (r := .dayClose) rfl hs rfl (by simp [holdsHead]) rfl (by simp [allowedIn, hrun])
  refine ⟨fun hlast => ?_, fun hlast => ?_⟩
  · have hlast : ¬ c < Config.lastCurrentDay := Nat.not_lt.2 hlast
    rw [hexec, takeDayClose]
    simp only [hdayHeard, if_neg hlast]
    rw [answer_of_up (s := heardFeed s) hs.1]
    rfl
  · intro advanced selected sealed sweeper swept
    have hlast : c < Config.lastCurrentDay := Nat.lt_succ_of_le hlast
    have hclose : takeDayClose tag (heardFeed s) = closeParts c advanced := by
      rw [takeDayClose]
      simp only [hdayHeard, if_pos hlast]
      rw [answer_of_up (s := { heardFeed s with clock := _ }) hs.1]
      rfl
    have hselected : takeSelection .dayClose .dayClose advanced = selected := by
      have hsel : advanced.selection = s.selection := rfl
      unfold takeSelection selected
      rw [hsel]
      obtain _ | ⟨bank, _ | _⟩ := s.selection <;> rfl
    obtain ⟨hlanes, hparams, htime, hsweeper⟩ :=
      sealed_selection_reads advanced (fun g => decide (g.key.day < c + 1))
    rw [hselected] at hlanes hparams htime hsweeper
    have hpass (w : Sweeper) : passSweeper sealed w = passSweeper s w := passSweeper_congr hlanes hparams htime w
    have hsweeper : sealed.sweeper = s.sweeper := hsweeper
    have hparams : sealed.params = s.params := hparams
    have hswept : autoSweep sealed = swept := by
      unfold swept sweeper
      cases hauto : s.params.autoSweep with
      | false => exact autoSweep_of_off (hparams ▸ hauto)
      | true =>
        have hon : sealed.params.autoSweep = true := hparams ▸ hauto
        cases hphase : s.sweeper.phase with
        | idle =>
          rw [autoSweep_of_idle hon (hsweeper ▸ hphase), hpass, hsweeper]
          rfl
        | stopped =>
          rw [autoSweep_of_stopped hon (hsweeper ▸ hphase), hpass, hsweeper]
          rfl
        | running | resting | extendedRest =>
          rw [autoSweep_of_inPass hon (by simp [hsweeper, hphase, Safety.inPass]), hsweeper]
          rfl
    rw [hexec, hclose, ← hswept, closeParts, hselected]
    rfl

end

end Sys2Proof.Machine

namespace Sys2Proof.Machine

open Sys2Proof.Safety

section

/-! ### The record of a day in the Day Table (R154, R160) -/

/-- The record of a day in a list of records. -/
def recordOn (days : List DayRecord) (day : Nat) : Option DayRecord := days.find? fun d => decide (d.day = day)

theorem dayRecord_eq (s : State) (day : Nat) : s.dayRecord day = recordOn s.days day := rfl

theorem recordOn_day {days : List DayRecord} {day : Nat} {d : DayRecord} (h : recordOn days day = some d) : d.day = day := by
  simpa using List.find?_some h

theorem recordOn_eq_none {days : List DayRecord} {day : Nat} : recordOn days day = none ↔ ∀ d ∈ days, d.day ≠ day := by
  simp [recordOn]

theorem recordOn_map {f : DayRecord → DayRecord} (hf : ∀ d, (f d).day = d.day) (days : List DayRecord) (day : Nat) :
    recordOn (days.map f) day = (recordOn days day).map f := by
  have hcomp : ((fun d : DayRecord => decide (d.day = day)) ∘ f) = fun d => decide (d.day = day) := by
    funext d
    simp [hf]
  rw [recordOn, List.find?_map, hcomp]
  rfl

theorem recordOn_filter (first day : Nat) (days : List DayRecord) :
    recordOn (days.filter fun d => decide (first ≤ d.day)) day = if first ≤ day then recordOn days day else none := by
  split
  case isTrue h =>
    rw [recordOn, List.find?_filter]
    congr 1
    funext d
    by_cases hd : d.day = day <;> simp [hd, h]
  case isFalse h =>
    rw [recordOn_eq_none]
    intro d hd heq
    have hfirst := of_decide_eq_true (List.mem_filter.1 hd).2
    omega

/-- A record placed among records of other days is found, and the others are found as before. -/
theorem recordOn_placeDay {d : DayRecord} {days : List DayRecord} (hnew : ∀ x ∈ days, x.day ≠ d.day) (day : Nat) :
    recordOn (placeDay d days) day = if day = d.day then some d else recordOn days day := by
  induction days with
  | nil => by_cases h : day = d.day <;> simp [placeDay, recordOn, h, Ne.symm]
  | cons x days ih =>
    obtain ⟨hx, hdays⟩ := List.forall_mem_cons.1 hnew
    rw [placeDay]
    split
    · by_cases h : day = d.day
      · simp [recordOn, h]
      · simp [recordOn, h, Ne.symm h]
    · have ih := ih hdays
      by_cases h : x.day = day
      · have hne : ¬ day = d.day := fun heq => hx (h.trans heq)
        simp [recordOn, h, hne]
      · simpa [recordOn, List.find?_cons, h] using ih

theorem mem_placeDay {d x : DayRecord} {days : List DayRecord} : x ∈ placeDay d days ↔ x = d ∨ x ∈ days := by
  induction days with
  | nil => simp [placeDay]
  | cons y days ih =>
    rw [placeDay]
    split
    · simp
    · simp only [List.mem_cons, ih]
      tauto

theorem placeDay_sorted {d : DayRecord} {days : List DayRecord} (hnew : ∀ x ∈ days, x.day ≠ d.day)
    (h : days.Pairwise fun x y => x.day < y.day) : (placeDay d days).Pairwise fun x y => x.day < y.day := by
  induction days with
  | nil => simp [placeDay]
  | cons x days ih =>
    obtain ⟨hx, hdays⟩ := List.forall_mem_cons.1 hnew
    obtain ⟨hbefore, hsorted⟩ := List.pairwise_cons.1 h
    rw [placeDay]
    split
    case isTrue hlt =>
      refine List.pairwise_cons.2 ⟨?_, h⟩
      exact List.forall_mem_cons.2 ⟨hlt, fun y hy => hlt.trans (hbefore y hy)⟩
    case isFalse hle =>
      refine List.pairwise_cons.2 ⟨fun y hy => ?_, ih hdays hsorted⟩
      obtain rfl | hy := mem_placeDay.1 hy
      · exact lt_of_le_of_ne (Nat.not_lt.1 hle) hx
      · exact hbefore y hy

end

section
variable {s : State}

/-! ### Additions (R155 to R158) -/

/-- The state with another Day Table. -/
def State.withDays (s : State) (ds : List DayRecord) : State := { s with days := ds }

theorem eq_withDays {t : State} {ds : List DayRecord} (h : t = s.withDays ds) : t = s.withDays t.days := by
  subst h
  rfl

theorem raise_withDays (k : ReportKind) (u : Option Nat) (a b c : Nat) (ds : List DayRecord) (s : State) :
    raise k u a b c (s.withDays ds) = (raise k u a b c s).withDays ds := by
  unfold State.withDays raise raiseOn
  dsimp only
  split <;> rfl

theorem recordOn_setDayRecord {d : DayRecord} (hheld : s.dayRecord d.day ≠ none) (day : Nat) :
    (s.setDayRecord d).dayRecord day = if day = d.day then some d else s.dayRecord day := by
  have hkeeps : ∀ x : DayRecord, (if x.day = d.day then d else x).day = x.day := by
    intro x
    split
    case isTrue h => exact h.symm
    case isFalse => rfl
  refine (recordOn_map hkeeps s.days day).trans ?_
  rw [dayRecord_eq] at hheld ⊢
  split
  case isTrue h =>
    subst h
    obtain ⟨x, hx⟩ := Option.ne_none_iff_exists'.1 hheld
    rw [hx, Option.map_some, if_pos (recordOn_day hx)]
  case isFalse h =>
    cases hx : recordOn s.days day with
    | none => rfl
    | some x => rw [Option.map_some, if_neg (by rw [recordOn_day hx]; exact h)]

/-- R157: an addition to a row that a day's record holds. -/
theorem addToDay_of_record {day : Nat} {d : DayRecord} (hd : s.dayRecord day = some d) (switch : Nat) (a : Accumulator)
    (n : Nat) {reports : Prop} [Decidable reports]
    (hreports : ((d.row switch).overflows a n = true ∧ (d.row switch).saturated = false) ↔ reports) :
    addToDay day switch a n s = (if reports then raise .accumSaturated (some day) switch a.code n s else s).withDays
      (s.setDayRecord (d.add switch a n)).days := by
  simp only [addToDay, hd, Bool.and_eq_true, Bool.not_eq_true', hreports]
  split
  · exact raise_withDays ..
  · rfl

end

section

/-- Settles O50. -/
theorem additionReachesItsRow : Obligations.AdditionReachesItsRow := by
  intro s day switchId a n t
  refine ⟨fun h => ?_, fun h => ?_, fun h => ?_, fun d hd hrows => ?_⟩
  · simp only [addToCurrentDay, h]
    rfl
  · simp only [addToCurrentDay, h]
  · simp only [t, addToDay, h]
    rfl
  · intro row limit
    have hday : d.day = day := dayRecord_day hd
    have hlimit : a.rowMax = limit := by cases a <;> rfl
    have hrow : d.row switchId = row := rfl
    have hoverflow : (d.row switchId).overflows a n = true ↔ limit < row.totals.get a + n := by
      rw [SwitchRow.overflows, decide_eq_true_eq, hlimit, hrow]
    have ht := addToDay_of_record hd switchId a n (and_congr_left fun _ => hoverflow)
    have hrecord (other : Nat) : t.dayRecord other = if other = day then some (d.add switchId a n) else s.dayRecord other := by
      have hset := recordOn_setDayRecord (s := s) (d := d.add switchId a n)
        (by change s.dayRecord d.day ≠ none; simp [hday, hd]) other
      have hdays := congrArg State.days ht
      have hdays : t.days = (s.setDayRecord (d.add switchId a n)).days := hdays
      rw [dayRecord_eq, hdays, ← dayRecord_eq, hset, ← hday]
      rfl
    refine ⟨d.add switchId a n, (hrecord day).trans (if_pos rfl), rfl, ?_, fun other hne => ?_, fun other hne =>
      (hrecord other).trans (if_neg hne), ?_⟩
    · rw [DayRecord.add, NMap.find?_insert, if_pos rfl, SwitchRow.add, SwitchRow.overflows, hlimit]
      rfl
    · rw [DayRecord.add, NMap.find?_insert, if_neg hne]
    · exact eq_withDays ht

end

end Sys2Proof.Machine

namespace Sys2Proof.Machine

open Sys2Proof.Safety

section
variable {s : State}

/-! ### The Day Table at DAY_CLOSE (R160, R161) -/

/-- The record of day `c` CLOSED, another record as it is (R160 step 1). -/
def closedOn (c : Nat) (d : DayRecord) : DayRecord := if d.day = c then { d with state := .closed } else d

@[simp] theorem closedOn_day (c : Nat) (d : DayRecord) : (closedOn c d).day = d.day := by
  unfold closedOn
  split <;> rfl

theorem closeDay_of_none {c : Nat} (h : s.dayRecord c = none) : closeDay c s = s.withDays (s.days.map (closedOn c)) := by
  have hother : ∀ d ∈ s.days, closedOn c d = id d := fun d hd => if_neg (recordOn_eq_none.1 h d hd)
  have hkept : s.days.map (closedOn c) = s.days := (List.map_congr_left hother).trans (List.map_id s.days)
  rw [hkept]
  simp only [closeDay, h]
  rfl

/-- Days strictly rising, so no two records of one day. -/
theorem eq_of_sorted {days : List DayRecord} (h : days.Pairwise fun x y => x.day < y.day) {x y : DayRecord} (hx : x ∈ days)
    (hy : y ∈ days) (hday : x.day = y.day) : x = y :=
  List.inj_on_of_nodup_map (List.pairwise_map.2 (h.imp Nat.ne_of_lt)) hx hy hday

theorem closeDay_of_some {c : Nat} {d : DayRecord} (hsorted : s.days.Pairwise fun x y => x.day < y.day)
    (h : s.dayRecord c = some d) : closeDay c s = (raiseDayClosed d s).withDays (s.days.map (closedOn c)) := by
  have hd : d ∈ s.days := List.mem_of_find?_eq_some h
  have hday : d.day = c := dayRecord_day h
  have hset : s.setDayRecord { d with state := .closed } = s.withDays (s.days.map (closedOn c)) := by
    refine congrArg s.withDays (List.map_congr_left fun x hx => ?_)
    change (if x.day = d.day then _ else x) = _
    rw [closedOn, ← hday]
    split
    case isTrue heq => rw [eq_of_sorted hsorted hx hd heq]
    case isFalse => rfl
  simp only [closeDay, h, hset]
  exact raise_withDays ..

theorem foldl_raiseDayFinal_withDays (retired ds : List DayRecord) (s : State) :
    retired.foldl raiseDayFinal (s.withDays ds) = (retired.foldl raiseDayFinal s).withDays ds := by
  induction retired generalizing s with
  | nil => rfl
  | cons d retired ih =>
    have h : raiseDayFinal (s.withDays ds) d = (raiseDayFinal s d).withDays ds := raise_withDays ..
    rw [List.foldl_cons, h, ih]
    rfl

theorem retireDays_withDays (first : Nat) (ds : List DayRecord) (s : State) : retireDays first (s.withDays ds)
    = ((ds.filter fun d => decide (d.day < first)).foldl raiseDayFinal s).withDays
        (ds.filter fun d => decide (first ≤ d.day)) := by
  have hdays : (s.withDays ds).days = ds := rfl
  unfold retireDays
  dsimp only
  rw [hdays, foldl_raiseDayFinal_withDays]
  rfl

/-- R160 step 5 over a list of days. -/
theorem foldl_readmitDay_frame (readmitted : List Nat) (s : State) :
    readmitted.foldl readmitDay s = s.withDays (readmitted.foldl readmitDay s).days := by
  induction readmitted generalizing s with
  | nil => rfl
  | cons day readmitted ih =>
    have h : readmitDay s day = s.withDays (readmitDay s day).days := by
      unfold readmitDay
      split <;> rfl
    rw [List.foldl_cons, ih, h]
    rfl

theorem absent_of_none {day : Nat} (h : ¬ (s.dayRecord day).isSome = true) : ∀ x ∈ s.days, x.day ≠ day :=
  recordOn_eq_none.1 (Option.not_isSome_iff_eq_none.1 h)

theorem dayRecord_readmitDay (day other : Nat) (s : State) : (readmitDay s day).dayRecord other
    = if other = day then some ((s.dayRecord day).getD { day := day, state := .closed }) else s.dayRecord other := by
  unfold readmitDay
  split
  case isTrue h =>
    obtain ⟨d, hd⟩ := Option.isSome_iff_exists.1 h
    split
    case isTrue heq => rw [heq, hd]; rfl
    case isFalse => rfl
  case isFalse h =>
    refine (recordOn_placeDay (d := newDay .closed day) (absent_of_none h) other).trans ?_
    rw [Option.not_isSome_iff_eq_none.1 h]
    rfl

theorem readmitDay_sorted (day : Nat) (h : s.days.Pairwise fun x y => x.day < y.day) :
    (readmitDay s day).days.Pairwise fun x y => x.day < y.day := by
  unfold readmitDay
  split
  case isTrue => exact h
  case isFalse hnone => exact placeDay_sorted (d := newDay .closed day) (absent_of_none hnone) h

theorem foldl_readmitDay_sorted (readmitted : List Nat) (h : s.days.Pairwise fun x y => x.day < y.day) :
    (readmitted.foldl readmitDay s).days.Pairwise fun x y => x.day < y.day := by
  induction readmitted generalizing s with
  | nil => exact h
  | cons day readmitted ih => exact ih (readmitDay_sorted day h)

theorem dayRecord_foldl_readmitDay (readmitted : List Nat) (s : State) (other : Nat) :
    (readmitted.foldl readmitDay s).dayRecord other = if other ∈ readmitted
      then some ((s.dayRecord other).getD { day := other, state := .closed }) else s.dayRecord other := by
  induction readmitted generalizing s with
  | nil => simp
  | cons day readmitted ih =>
    rw [List.foldl_cons, ih, dayRecord_readmitDay]
    by_cases heq : other = day
    · subst heq; simp
    · simp [heq]

theorem mem_daysFrom {first last day : Nat} : day ∈ daysFrom first last ↔ first ≤ day ∧ day ≤ last := by
  simp only [daysFrom, List.mem_map, List.mem_range]
  constructor
  · rintro ⟨i, hi, rfl⟩; omega
  · intro h; exact ⟨day - first, by omega, by omega⟩

/-- The Day Table between steps 3 and 5 of R160: the closed day's record CLOSED, a record for the day above the new current
day, and none below the window. -/
def windowDays (c first : Nat) (days : List DayRecord) : List DayRecord :=
  (placeDay (newDay .opened (c + 2)) (days.map (closedOn c))).filter fun d => decide (first ≤ d.day)

section
variable {c : Nat} {days : List DayRecord} (hsorted : days.Pairwise fun x y => x.day < y.day)
  (htop : ∀ d ∈ days, d.day ≤ c + 1)
include htop

theorem top_absent : ∀ x ∈ days.map (closedOn c), x.day ≠ (newDay .opened (c + 2)).day := by
  intro x hx heq
  obtain ⟨d, hd, rfl⟩ := List.mem_map.1 hx
  have hle := htop d hd
  rw [closedOn_day] at heq
  have heq : d.day = c + 2 := heq
  omega

theorem recordOn_windowDays (first day : Nat) : recordOn (windowDays c first days) day = if first ≤ day
    then if day = c + 2 then some { day := day, state := .opened } else (recordOn days day).map (closedOn c) else none := by
  rw [windowDays, recordOn_filter, recordOn_placeDay (top_absent htop), recordOn_map (closedOn_day c)]
  have hnew : (newDay .opened (c + 2)).day = c + 2 := rfl
  rw [hnew]
  by_cases h : day = c + 2
  · subst h; rfl
  · rw [if_neg h, if_neg h]

include hsorted in
theorem windowDays_sorted (first : Nat) : (windowDays c first days).Pairwise fun x y => x.day < y.day := by
  refine List.Pairwise.filter _ (placeDay_sorted (top_absent htop) ?_)
  exact List.pairwise_map.2 (by simpa using hsorted)

end

/-- R160 in full, given the state that step 1 leaves. -/
theorem closeDayTable_eq {c : Nat} {base : State} (hday : s.clock.currentDay = some (c + 1))
    (hclose : closeDay c s = base.withDays (s.days.map (closedOn c))) :
    closeDayTable c s = (daysFrom (c + 1 - s.clock.lateWindow) c).foldl readmitDay
      (((placeDay (newDay .opened (c + 2)) (s.days.map (closedOn c))).filter fun d =>
          decide (d.day < c + 1 - s.clock.lateWindow)).foldl raiseDayFinal base
        |>.withDays (windowDays c (c + 1 - s.clock.lateWindow) s.days)) := by
  have hwindow : s.clock.window = some (c + 1 - s.clock.lateWindow, c + 1 + 1) := by
    rw [DayClock.window, hday]
    rfl
  have htop : ({ base.withDays (s.days.map (closedOn c)) with
      days := placeDay (newDay .opened (c + 2)) (base.withDays (s.days.map (closedOn c))).days } : State)
      = base.withDays (placeDay (newDay .opened (c + 2)) (s.days.map (closedOn c))) := rfl
  simp only [closeDayTable, hwindow, hclose]
  rw [htop, retireDays_withDays]
  rfl

theorem placeDay_top {d : DayRecord} {days : List DayRecord} (h : ∀ x ∈ days, x.day < d.day) :
    placeDay d days = days ++ [d] := by
  induction days with
  | nil => rfl
  | cons x days ih =>
    obtain ⟨hx, hdays⟩ := List.forall_mem_cons.1 h
    rw [placeDay, if_neg (Nat.lt_asymm hx), ih hdays]
    rfl

/-- R160 step 4: the records retired are those below the window. -/
theorem retired_eq {c first : Nat} {days : List DayRecord} (htop : ∀ d ∈ days, d.day ≤ c + 1) (hfirst : first ≤ c + 1) :
    ((placeDay (newDay .opened (c + 2)) (days.map (closedOn c))).filter fun d => decide (d.day < first))
      = (days.filter fun d => decide (d.day < first)).map (closedOn c) := by
  have hbelow : ∀ x ∈ days.map (closedOn c), x.day < (newDay .opened (c + 2)).day := by
    intro x hx
    obtain ⟨d, hd, rfl⟩ := List.mem_map.1 hx
    rw [closedOn_day]
    exact Nat.lt_succ_of_le (htop d hd)
  have hkept : ¬ (newDay .opened (c + 2)).day < first := by
    change ¬ c + 2 < first
    omega
  have hcomp : ((fun d : DayRecord => decide (d.day < first)) ∘ closedOn c) = fun d => decide (d.day < first) := by
    funext d
    simp
  rw [placeDay_top hbelow, List.filter_append, List.filter_map, hcomp]
  simp [hkept]

theorem exceptions_eq (d : DayRecord) : d.exceptions = (d.rows.filter fun p =>
    decide (0 < p.2.totals.filesUnreconciled ∨ 0 < p.2.totals.lost ∨ p.2.saturated = true)).length := by
  rw [DayRecord.exceptions, List.countP_eq_length_filter]
  congr 2
  funext p
  simp [SwitchRow.exceptional, Bool.decide_or, Bool.or_assoc]

/-- R161: the values of DAY_FINAL. -/
theorem raiseDayFinal_eq (s : State) (d : DayRecord) : raiseDayFinal s d = raise .dayFinal (some d.day)
    (min 4294967295 d.totals.stored)
    (d.rows.filter fun p => decide (0 < p.2.totals.filesUnreconciled ∨ 0 < p.2.totals.lost ∨ p.2.saturated = true)).length
    (if ∃ p ∈ d.rows, p.2.saturated = true then 1 else 0) s := by
  have hsaturated : (d.rows.any fun p => p.2.saturated).toNat = if ∃ p ∈ d.rows, p.2.saturated = true then 1 else 0 := by
    by_cases h : ∃ p ∈ d.rows, p.2.saturated = true
    · rw [if_pos h, List.any_eq_true.2 h]; rfl
    · rw [if_neg h, Bool.eq_false_iff.2 (mt List.any_eq_true.1 h)]; rfl
  rw [raiseDayFinal, exceptions_eq, hsaturated]
  rfl

/-- R160: what the Day Table holds for a day after the close. -/
theorem dayRecord_closeDayTable {c first : Nat} {base : State} (hday : s.clock.currentDay = some (c + 1))
    (hfirst : first = c + 1 - s.clock.lateWindow) (hclose : closeDay c s = base.withDays (s.days.map (closedOn c)))
    (htop : ∀ d ∈ s.days, d.day ≤ c + 1) (day : Nat) : (closeDayTable c s).dayRecord day
      = if day < first ∨ c + 2 < day then none
        else if day = c + 2 then some { day := day, state := .opened }
        else if day = c + 1 then s.dayRecord day
        else if day = c then some ((s.dayRecord c).elim { day := day, state := .closed } (fun d => { d with state := .closed }))
        else some ((s.dayRecord day).getD { day := day, state := .closed }) := by
  have hle : first ≤ c + 1 := hfirst ▸ Nat.sub_le ..
  have hrecord := congrArg (fun x => State.dayRecord x day) (closeDayTable_eq hday hclose)
  simp only [dayRecord_foldl_readmitDay, mem_daysFrom, ← hfirst] at hrecord
  rw [hrecord]
  have hwindow : ((((placeDay (newDay .opened (c + 2)) (s.days.map (closedOn c))).filter fun d => decide (d.day < first)).foldl
      raiseDayFinal base).withDays (windowDays c first s.days)).dayRecord day = _ := recordOn_windowDays htop first day
  rw [hwindow, ← dayRecord_eq]
  have hother (h : day ≠ c) : (s.dayRecord day).map (closedOn c) = s.dayRecord day := by
    cases hd : s.dayRecord day with
    | none => rfl
    | some d => exact congrArg some (if_neg (by rw [dayRecord_day hd]; exact h))
  by_cases hbelow : day < first
  · simp [hbelow, Nat.not_le.2 hbelow]
  · have hin : first ≤ day := Nat.not_lt.1 hbelow
    simp only [hbelow, hin, true_and, if_true, false_or]
    obtain hlt | rfl | hgt := Nat.lt_trichotomy day c
    · rw [hother hlt.ne]
      simp [hlt.le, hlt.ne, show day ≠ c + 1 by omega, show day ≠ c + 2 by omega, show ¬ c + 2 < day by omega]
    · cases hd : s.dayRecord day with
      | none => simp
      | some d => simp [closedOn, dayRecord_day hd]
    · rw [hother hgt.ne']
      by_cases htwo : day = c + 2
      · simp [htwo]
      · by_cases hone : day = c + 1
        · simp [hone]
        · have habove : c + 2 < day := by omega
          have hnone : s.dayRecord day = none := recordOn_eq_none.2 fun d hd heq => by
            have hle := htop d hd
            omega
          simp [htwo, Nat.not_le.2 hgt, habove, hnone]

end

section

/-- Settles O49: the records of the window, then the statements, which are raised on the state before. -/
theorem dayTableFollowsClose : Obligations.DayTableFollowsClose := by
  intro s c hday hsortedDays htop first t
  have hsorted : s.days.Pairwise fun x y => x.day < y.day := List.pairwise_map.1 hsortedDays
  obtain ⟨base, hbase, hclose⟩ : ∃ base : State, base = (match s.dayRecord c with
        | none => s
        | some d => raise .dayClosed (some c) (min 4294967295 d.totals.stored)
            (min 4294967295 d.totals.filesClosed) (min 4294967295 d.totals.filesUnreconciled) s)
      ∧ closeDay c s = base.withDays (s.days.map (closedOn c)) := by
    cases hd : s.dayRecord c with
    | none => exact ⟨s, rfl, closeDay_of_none hd⟩
    | some d => exact ⟨raiseDayClosed d s, by rw [raiseDayClosed, dayRecord_day hd]; rfl, closeDay_of_some hsorted hd⟩
  have ht := closeDayTable_eq hday hclose
  refine ⟨?_, dayRecord_closeDayTable hday rfl hclose htop, ?_⟩
  · refine List.pairwise_map.2 ?_
    change (closeDayTable c s).days.Pairwise fun x y => x.day < y.day
    rw [ht]
    exact foldl_readmitDay_sorted _ (windowDays_sorted hsorted htop first)
  · have hframe := eq_withDays (ht.trans (foldl_readmitDay_frame ..))
    have hstatements (ds : List DayRecord) : ds.foldl raiseDayFinal base = ds.foldl _ base :=
      congrArg (fun f => List.foldl f base ds) (funext₂ raiseDayFinal_eq)
    rw [retired_eq htop (Nat.sub_le ..), hstatements, hbase] at hframe
    exact hframe

end

end Sys2Proof.Machine

namespace Sys2Proof.Machine

open Sys2Proof.Safety

section
variable {s : State}

/-! ### The freeing of an entry (R113, R117, R94, R95) -/

theorem dropEntryReference_of_opening {e : CatalogEntry} {o : Opening} (h : e.opening = some o) (s : State) :
    dropEntryReference e s = { s with
      banks :=
        if (s.bank o.key.bank).holdsGeneration o.key.generation = true then
          s.banks.set o.key.bank { s.bank o.key.bank with references := (s.bank o.key.bank).references - 1 }
        else s.banks } := by
  simp only [dropEntryReference, h, dropReference]
  split <;> rfl

theorem refreshStall_of_running (h : s.stall = .runningFree) : refreshStall s = s := by
  simp only [refreshStall, h]

/-- R94: with an id free, what a stall waits for is a buffer. -/
theorem refreshStall_of_stalled {cause : StallCause} (h : s.stall = .stalled cause) (hids : s.freeIds ≠ []) :
    refreshStall s = { s with stall := if s.freeBuffer = none then .stalled .noBuffer else .runningFree } := by
  simp only [refreshStall, h, State.stallNow, List.isEmpty_iff, hids, if_false, Option.isNone_iff_eq_none]

theorem clearCatalogFull_of_clear (h : s.catalogFull = false) (id : Nat) : clearCatalogFull id s = s := by
  simp [clearCatalogFull, h]

theorem clearCatalogFull_of_set (h : s.catalogFull = true) (id : Nat) : clearCatalogFull id s
    = raise .catalogSpace (some id) s.freeIds.length (s.bufferCount .free) s.stall.code { s with catalogFull := false } := by
  simp [clearCatalogFull, h]

theorem freeEntry_feed (id : Nat) (s : State) : (freeEntry id s).feed = s.feed := by
  unfold freeEntry
  dsimp only
  rw [clearCatalogFull_frame, refreshStall_frame, dropEntryReference_frame]
  rfl

/-! ### Failed segments (R106, R107, R116) -/

theorem retryWrite_eq {id : Nat} {e : CatalogEntry} {f : Figures} {i : Fin 32} (hf : e.figures = some f)
    (hbuffer : s.bufferOf id = some i) : retryWrite id e s =
      { s.setEntry id { e with state := .writing, figures := some { f with writeAttempts := 0 } } with
        buffers := s.buffers.set i { s.buffer i with state := .sealed }, writeQueue := s.writeQueue ++ [id] } := by
  have hfigures : e.mapFigures (fun f => { f with writeAttempts := 0 })
      = { e with figures := some { f with writeAttempts := 0 } } := by
    rw [CatalogEntry.mapFigures, hf]
    rfl
  have hkept (entry : CatalogEntry) : (s.setEntry id entry).updateBufferOf id (fun b => { b with state := .sealed })
      = (s.setEntry id entry).setBuffer i { s.buffer i with state := .sealed } := by
    have hfound : (s.setEntry id entry).bufferOf id = some i := hbuffer
    simp only [State.updateBufferOf, hfound]
    rfl
  simp only [retryWrite, hfigures, hkept]
  rfl

theorem retryDelete_eq {id : Nat} {e : CatalogEntry} {f : Figures} (hf : e.figures = some f) : retryDelete id e s =
    s.setEntry id { e with state := .stored, figures := some { f with deleteAttempts := 0 } } := by
  rw [retryDelete, CatalogEntry.mapFigures, hf]
  rfl

theorem discardSegment_eq {id : Nat} {i : Fin 32} (hbuffer : s.bufferOf id = some i) :
    discardSegment id s = freeEntry id { s with buffers := s.buffers.set i {} } := by
  simp only [discardSegment, State.updateBufferOf, hbuffer]
  rfl

theorem exec_segmentRetry (hs : Attentive s) (hrun : s.device = .running) (tag id edition : Nat) :
    exec (.segmentRetry tag id edition) s = .next (flushReports (takeSegmentRetry tag id edition (heardFeed s))) :=
  exec_of_carried (r := .segmentRetry id edition) rfl hs rfl (by simp [holdsHead]) rfl (by simp [allowedIn, hrun])

theorem exec_segmentDiscard (hs : Attentive s) (hrun : s.device = .running) (tag id edition : Nat) :
    exec (.segmentDiscard tag id edition) s = .next (flushReports (takeSegmentDiscard tag id edition (heardFeed s))) :=
  exec_of_carried (r := .segmentDiscard id edition) rfl hs rfl (by simp [holdsHead]) rfl (by simp [allowedIn, hrun])

end

section

/-- Settles O54: the reference, the stall and the flag in turn. -/
theorem freedEntryReturnsItsId : Obligations.FreedEntryReturnsItsId := by
  intro s id o ho freed b lowered stall done
  have hdropped : dropEntryReference (s.entry id) { freed with freeIds := s.freeIds ++ [id] }
      = { freed with freeIds := s.freeIds ++ [id], banks := lowered } := dropEntryReference_of_opening ho _
  have hstalled : refreshStall { freed with freeIds := s.freeIds ++ [id], banks := lowered } = done := by
    unfold done stall
    cases hstall : s.stall with
    | runningFree => 
      refine (refreshStall_of_running (s := { freed with freeIds := s.freeIds ++ [id], banks := lowered }) hstall).trans ?_
      exact congrArg (fun x => ({ freed with freeIds := s.freeIds ++ [id], banks := lowered, stall := x } : State)) hstall
    | stalled cause =>
      exact refreshStall_of_stalled (s := { freed with freeIds := s.freeIds ++ [id], banks := lowered }) hstall (by simp)
  have hfree : freeEntry id s = clearCatalogFull id done := by
    rw [← hstalled, ← hdropped]
    rfl
  refine ⟨fun hclear => ?_, fun hset => ?_⟩
  · rw [hfree, clearCatalogFull_of_clear (s := done) hclear]
  · have hlength : done.freeIds.length = s.freeIds.length + 1 := List.length_append
    have hcode : done.stall.code = (match stall with | .runningFree => 0 | .stalled _ => 1) := by
      change stall.code = _
      cases stall <;> rfl
    rw [hfree, clearCatalogFull_of_set (s := done) hset, hlength, hcode]
    rfl

/-- Settles O53: the three tests, then each request by the state of the entry. -/
theorem failedSegmentsRetriedOrDiscarded : Obligations.FailedSegmentsRetriedOrDiscarded := by
  intro s tag id edition hs hrun e refused
  have hretry {t : State} (h : takeSegmentRetry tag id edition (heardFeed s) = t) :
      exec (.segmentRetry tag id edition) s = .next (flushReports t) := h ▸ exec_segmentRetry hs hrun tag id edition
  have hdiscard {t : State} (h : takeSegmentDiscard tag id edition (heardFeed s) = t) :
      exec (.segmentDiscard tag id edition) s = .next (flushReports t) := h ▸ exec_segmentDiscard hs hrun tag id edition
  have hanswer {t : State} (r : Request) (code : ResponseCode) (hup : t.feed.up = true) :
      answer tag r code t = replied tag (requestCode r) code .none t := answer_of_up hup tag r code
  have hheard (r : Request) (code : ResponseCode) := hanswer (t := heardFeed s) r code hs.1
  have hin (hid : id < 262144) : ¬ Config.catalogEntries ≤ id := Nat.not_le.2 hid
  refine ⟨fun hid => ?_, fun hid hne => ?_, fun hid heq hwrite hdelete => ?_, fun hid heq hstate f i hf hi => ?_,
    fun hid heq hstate f hf => ?_⟩
  · have hfound : findNamed id edition (heardFeed s) = .badId := if_pos hid
    exact ⟨hretry (by simp only [takeSegmentRetry, hfound, hheard]; rfl),
      hdiscard (by simp only [takeSegmentDiscard, hfound, hheard]; rfl)⟩
  · have hfound : findNamed id edition (heardFeed s) = .otherEdition := (if_neg (hin hid)).trans (if_pos hne)
    exact ⟨hretry (by simp only [takeSegmentRetry, hfound, hheard]; rfl),
      hdiscard (by simp only [takeSegmentDiscard, hfound, hheard]; rfl)⟩
  · have hfound : findNamed id edition (heardFeed s) = .otherState := by
      refine (if_neg (hin hid)).trans ((if_neg (not_not_intro heq)).trans ?_)
      have hwrite : ((heardFeed s).entry id).state ≠ .writeFailed := hwrite
      have hdelete : ((heardFeed s).entry id).state ≠ .deleteFailed := hdelete
      cases hstate : ((heardFeed s).entry id).state <;> simp_all
    exact ⟨hretry (by simp only [takeSegmentRetry, hfound, hheard]; rfl),
      hdiscard (by simp only [takeSegmentDiscard, hfound, hheard]; rfl)⟩
  · intro retried
    have hfound : findNamed id edition (heardFeed s) = .writeFailed e := by
      refine (if_neg (hin hid)).trans ((if_neg (not_not_intro heq)).trans ?_)
      have hstate : ((heardFeed s).entry id).state = .writeFailed := hstate
      simp only [hstate]
      rfl
    refine ⟨hretry ?_, hdiscard ?_⟩
    · simp only [takeSegmentRetry, hfound]
      rw [retryWrite_eq (s := heardFeed s) hf hi]
      exact congrArg arbitrate (hanswer (t := { retried with
        buffers := s.buffers.set i { s.buffer i with state := .sealed }, writeQueue := s.writeQueue ++ [id] }) _ _ hs.1)
    · simp only [takeSegmentDiscard, hfound]
      rw [discardSegment_eq (s := heardFeed s) hi]
      exact congrArg (fun t => arbitrate (takeUpHeld t)) (hanswer _ _ ((congrArg Port.up (freeEntry_feed ..)).trans hs.1))
  · have hfound : findNamed id edition (heardFeed s) = .deleteFailed e := by
      refine (if_neg (hin hid)).trans ((if_neg (not_not_intro heq)).trans ?_)
      have hstate : ((heardFeed s).entry id).state = .deleteFailed := hstate
      simp only [hstate]
      rfl
    refine ⟨hretry ?_, hdiscard ?_⟩
    · simp only [takeSegmentRetry, hfound]
      rw [retryDelete_eq hf]
      exact hanswer (t := (heardFeed s).setEntry id _) _ _ hs.1
    · simp only [takeSegmentDiscard, hfound, hheard]
      rfl

end

end Sys2Proof.Machine

namespace Sys2Proof.Machine

open Sys2Proof.Safety

section
variable {s : State}

/-! ### Holds (R144 to R146, R149) -/

theorem badHold_iff (switchWord firstDay lastDay classSet : Nat) : badHold switchWord firstDay lastDay classSet = true ↔
    lastDay < firstDay ∨ 65535 < firstDay ∨ 65535 < lastDay ∨ (511 < switchWord ∧ switchWord ≠ 0xFFFF)
      ∨ classSet % 256 = 0 := by
  have hclasses : BitVec.ofNat 8 classSet = 0#8 ↔ classSet % 256 = 0 := by
    rw [← BitVec.toNat_inj, BitVec.toNat_ofNat]
    rfl
  simp only [badHold, badSwitchWord, Bool.or_eq_true, Bool.and_eq_true, decide_eq_true_eq, hclasses, or_assoc]

/-- The HOLD_MISSED report for the entry on one tag (R145). -/
def missReport (s : State) (h : Fin 64) (x : State) (t : Fin 8) : State :=
  match s.tag t with
  | none => x
  | some op => raise .holdMissed (some op.segmentId) h.val (s.entry op.segmentId).edition
      (s.entry op.segmentId).expiryDay x

/-- The tag holds the deletion of a DELETING entry that the selector matches (R145). -/
def misses (s : State) (sel : HoldSelector) (t : Fin 8) : Bool :=
  (s.tag t).any fun op => decide (op.operation = .delete) && decide ((s.entry op.segmentId).state = .deleting)
    && sel.matchesEntry (s.entry op.segmentId)

theorem misses_iff (sel : HoldSelector) (t : Fin 8) : misses s sel t = true ↔ ∃ op, s.tag t = some op
    ∧ op.operation = .delete ∧ (s.entry op.segmentId).state = .deleting ∧ sel.matchesEntry (s.entry op.segmentId) = true := by
  simp [misses, Option.any_eq_true, and_assoc]

theorem missOn_eq {x : State} (htags : x.tags = s.tags) (hcatalog : x.catalog = s.catalog) (h : Fin 64) (sel : HoldSelector)
    (t : Fin 8) : missOn h sel x t = if misses s sel t = true then missReport s h x t else x := by
  have htag : x.tag t = s.tag t := by simp only [State.tag, htags]
  have hentry (id : Nat) : x.entry id = s.entry id := by simp only [State.entry, hcatalog]
  unfold missOn misses missReport
  cases hop : s.tag t with
  | none => simp [htag, hop]
  | some op => simp [htag, hop, hentry, and_assoc]

/-- R145: the reports of the tags that miss, in ascending tag order. -/
theorem foldl_missOn {x : State} (htags : x.tags = s.tags) (hcatalog : x.catalog = s.catalog) (h : Fin 64)
    (sel : HoldSelector) (ts : List (Fin 8)) :
    ts.foldl (missOn h sel) x = (ts.filter (misses s sel)).foldl (missReport s h) x := by
  induction ts generalizing x with
  | nil => rfl
  | cons t ts ih =>
    rw [List.foldl_cons, missOn_eq htags hcatalog]
    by_cases hmiss : misses s sel t = true
    · have hkept : (missReport s h x t).tags = x.tags ∧ (missReport s h x t).catalog = x.catalog := by
        unfold missReport
        split
        · exact ⟨rfl, rfl⟩
        · exact ⟨raise_tags .., raise_catalog ..⟩
      obtain ⟨htagsAfter, hcatalogAfter⟩ := hkept
      rw [if_pos hmiss, ih (htagsAfter.trans htags) (hcatalogAfter.trans hcatalog), List.filter_cons_of_pos hmiss]
      rfl
    · rw [if_neg hmiss, ih htags hcatalog, List.filter_cons_of_neg hmiss]

theorem exec_holdAdd (hs : Attentive s) (hrun : s.device = .running) (tag switchWord firstDay lastDay classSet : Nat) :
    exec (.holdAdd tag switchWord firstDay lastDay classSet) s
      = .next (flushReports (takeHoldAdd tag switchWord firstDay lastDay classSet (heardFeed s))) :=
  exec_of_carried (r := .holdAdd switchWord firstDay lastDay classSet) rfl hs rfl (by simp [holdsHead]) rfl
    (by simp [allowedIn, hrun])

theorem exec_holdRelease (hs : Attentive s) (hrun : s.device = .running) (tag holdId : Nat) :
    exec (.holdRelease tag holdId) s = .next (flushReports (takeHoldRelease tag holdId (heardFeed s))) :=
  exec_of_carried (r := .holdRelease holdId) rfl hs rfl (by simp [holdsHead]) rfl (by simp [allowedIn, hrun])

theorem takeHoldRelease_of_free {h : Fin 64} (hfree : s.hold h = none) (hup : s.feed.up = true) (tag : Nat) :
    takeHoldRelease tag h.val s = replied tag 0x31 .notFound .none s := by
  rw [takeHoldRelease, dif_pos h.isLt, if_pos (by simp [hfree])]
  exact answer_of_up hup ..

theorem takeHoldRelease_of_used {h : Fin 64} (hused : s.hold h ≠ none) {t : State} (ht : releaseHold h s = t)
    (hup : t.feed.up = true) (tag : Nat) :
    takeHoldRelease tag h.val s = arbitrate (replied tag 0x31 .done .none t) := by
  rw [takeHoldRelease, dif_pos h.isLt, if_neg (by simpa using hused), ht, answer_of_up hup]
  rfl

theorem releaseHold_of_none (h : Fin 64) (hpending : s.pendingHolds = []) : releaseHold h s = s.setHold h none := by
  have hpending : (s.setHold h none).pendingHolds = [] := hpending
  simp only [releaseHold, hpending]

theorem releaseHold_of_more (h : Fin 64) {p : HoldSelector} {rest : List HoldSelector} (hpending : s.pendingHolds = p :: rest)
    (hmore : rest ≠ []) : releaseHold h s = placeAudit h p { s.setHold h none with pendingHolds := rest } := by
  have hpending : (s.setHold h none).pendingHolds = p :: rest := hpending
  have hmore : rest.isEmpty = false := by simpa using hmore
  simp only [releaseHold, hpending, hmore, Bool.false_eq_true, if_false]

theorem releaseHold_of_last (h : Fin 64) {p : HoldSelector} (hpending : s.pendingHolds = [p]) :
    releaseHold h s = unsuspendSweep (placeAudit h p { s.setHold h none with pendingHolds := [] }) := by
  have hpending : (s.setHold h none).pendingHolds = [p] := hpending
  simp only [releaseHold, hpending, List.isEmpty_nil, if_true]

theorem placeAudit_released (h : Fin 64) (p : HoldSelector) (rest : List HoldSelector) (s : State) :
    placeAudit h p { s.setHold h none with pendingHolds := rest } = raise .holdPlaced (some h.val) (optionValue p.switch)
      p.firstDay p.lastDay { s with
        holds := s.holds.set h (some { kind := .audit, selector := p }), pendingHolds := rest } := by
  have hset : ({ s.setHold h none with pendingHolds := rest } : State).setHold h (some { kind := .audit, selector := p })
      = { s with holds := s.holds.set h (some { kind := .audit, selector := p }), pendingHolds := rest } := by
    simp [State.setHold]
  rw [placeAudit, hset]

theorem reached_congr {x : State} (h : x.runTime = s.runTime) (t : Nat) : x.reached t = s.reached t := by
  have hsince : x.since t = s.since t := by simp only [State.since, h]
  rw [State.reached, State.reached, hsince]

/-- R149: a rest that passed during the suspension ends with it. -/
theorem unsuspendSweep_of_rested (hresting : s.sweeper.phase = .resting) {t : Nat} (ht : s.sweeper.restExpiry = some t)
    (hreached : s.reached t = true) : unsuspendSweep s
      = { s with sweeper := { s.sweeper with suspended := false, phase := .running, restExpiry := none } } := by
  simp [unsuspendSweep, ht, hresting, hreached, Sweeper.enter]

theorem unsuspendSweep_of_not_rested (h : ¬ (s.sweeper.phase = .resting
    ∧ ∃ t, s.sweeper.restExpiry = some t ∧ s.reached t = true)) :
    unsuspendSweep s = { s with sweeper := { s.sweeper with suspended := false } } := by
  cases ht : s.sweeper.restExpiry with
  | none => simp [unsuspendSweep, ht]
  | some t =>
    have hended : ¬ (s.sweeper.phase = .resting ∧ s.reached t = true) := fun ⟨hphase, hreached⟩ => h ⟨hphase, t, ht, hreached⟩
    simp [unsuspendSweep, ht, hended]

end

section

/-- Settles O51: HOLD_ADD by its tests, HOLD_RELEASE by the pending list. -/
theorem holdsAddedAndReleased : Obligations.HoldsAddedAndReleased := by
  refine ⟨fun s tag switchWord firstDay lastDay classSet hs => ?_, fun s tag hs => ⟨fun hstart holdId => ?_,
    fun hrun holdId hbig => ?_, fun hrun h => ⟨fun hfree => ?_, fun hused => ?_⟩⟩⟩
  · intro bad selector answered
    have hbad : badHold switchWord firstDay lastDay classSet = true ↔ bad := badHold_iff ..
    refine ⟨fun hstart => ?_, fun hrun hb => ?_, fun hrun hb hfull => ?_, fun hrun hb h hfree hlow => ?_⟩
    · obtain ⟨hrefused, -⟩ := requestsRefusedByFormAndState
      exact (hrefused _ s tag (.holdAdd switchWord firstDay lastDay classSet) rfl hs).2 (by simp [BadForm])
        (by simp [refusedIn, hstart])
    · refine (exec_holdAdd hs hrun ..).trans ?_
      rw [takeHoldAdd, if_pos (hbad.2 hb), respond_of_up (s := heardFeed s) hs.1]
      rfl
    · refine (exec_holdAdd hs hrun ..).trans ?_
      have hnone : (heardFeed s).freeHold = none := freeHold_eq_none hfull
      simp only [takeHoldAdd, if_neg (mt hbad.1 hb), hnone]
      rw [respond_of_up (s := heardFeed s) hs.1]
      rfl
    · have hfound : (heardFeed s).freeHold = some h := freeHold_eq_some hfree hlow
      refine ⟨(List.finRange 8).filter (misses s selector), (List.pairwise_lt_finRange 8).filter _, fun t => ?_, ?_⟩
      · simp only [List.mem_filter, List.mem_finRange, true_and]
        exact misses_iff selector t
      · refine (exec_holdAdd hs hrun ..).trans (congrArg (fun x => Host.Outcome.next (flushReports x)) ?_)
        simp only [takeHoldAdd, if_neg (mt hbad.1 hb), hfound]
        rw [respond_of_up (s := (heardFeed s).setHold h _) hs.1]
        exact foldl_missOn (s := s) (x := replied tag 0x30 .done (.holdId h.val)
          { heardFeed s with holds := s.holds.set h (some { kind := .legal, selector }) }) rfl rfl h selector (List.finRange 8)
  · obtain ⟨hrefused, -⟩ := requestsRefusedByFormAndState
    exact (hrefused _ s tag (.holdRelease holdId) rfl hs).2 (by simp [BadForm]) (by simp [refusedIn, hstart])
  · refine (exec_holdRelease hs hrun tag holdId).trans ?_
    rw [takeHoldRelease, dif_neg (by omega), answer_of_up (s := heardFeed s) hs.1]
    rfl
  · refine (exec_holdRelease hs hrun tag h.val).trans ?_
    rw [takeHoldRelease_of_free (s := heardFeed s) hfree hs.1]
  · intro released
    have hexec {t : State} (ht : releaseHold h (heardFeed s) = t) (hup : t.feed.up = true) : released t := by
      refine (exec_holdRelease hs hrun tag h.val).trans ?_
      rw [takeHoldRelease_of_used (s := heardFeed s) hused ht hup]
    refine ⟨fun hpending => hexec (releaseHold_of_none (s := heardFeed s) h hpending) hs.1, fun p rest hpending => ?_⟩
    intro placed
    have hplaced : placeAudit h p { (heardFeed s).setHold h none with pendingHolds := rest } = placed :=
      placeAudit_released h p rest (heardFeed s)
    have hup : placed.feed.up = true := (congrArg Port.up (raise_feed ..)).trans hs.1
    have hsweeper : placed.sweeper = s.sweeper := raise_sweeper ..
    have htime : placed.runTime = s.runTime := raise_runTime ..
    have hreached (t : Nat) : placed.reached t = s.reached t := reached_congr htime t
    refine ⟨fun hmore => hexec ((releaseHold_of_more (s := heardFeed s) h hpending hmore).trans hplaced) hup, fun hlast => ?_⟩
    subst hlast
    have hend : releaseHold h (heardFeed s) = unsuspendSweep placed := by
      rw [releaseHold_of_last (s := heardFeed s) h hpending, hplaced]
    intro rested
    refine ⟨fun hrested => hexec ?_ hup, fun hnot => hexec ?_ hup⟩
    · obtain ⟨hresting, t, ht, hpassed⟩ := hrested
      rw [hend, unsuspendSweep_of_rested (hsweeper ▸ hresting) (hsweeper ▸ ht) ((hreached t).trans hpassed), hsweeper]
    · rw [hend, unsuspendSweep_of_not_rested (by simpa only [hsweeper, hreached] using hnot), hsweeper]

end

end Sys2Proof.Machine

namespace Sys2Proof.Machine

open Sys2Proof.Safety

section
variable {s : State}

/-! ### The queries (R175) -/

/-- A QUERY that does not read the control queue. -/
theorem exec_query {c : Instr} {tag : Nat} (q : Query) (h : requestOf c = some (tag, .query q)) (hs : Attentive s)
    (hq : q ≠ .status) {code : ResponseCode} {results : Results} (hanswer : queryAnswer q (heardFeed s) = (code, results)) :
    exec c s = .next (flushReports (replied tag 0x70 code results (heardFeed s))) := by
  have hreads : readsQueue (.query q) = false := by
    unfold readsQueue
    split
    case h_1 hr => exact absurd (Request.query.inj hr) hq
    case h_2 => rfl
  rw [exec_of_carried (r := .query q) h hs hreads (by simp [holdsHead]) rfl (by simp [allowedIn])]
  change Host.Outcome.next (flushReports (takeQuery tag q (heardFeed s))) = _
  rw [takeQuery, hanswer, respond_of_up (s := heardFeed s) hs.1]
  rfl

/-- QUERY STATUS counts itself in the queue length (log entry 27). -/
theorem exec_queryStatus (hs : Attentive s) (tag : Nat) : exec (.queryStatus tag) s = .next (flushReports
    (replied tag 0x70 .done (.status { statusView (heardFeed s) with controlLength := 1 }) (heardFeed s))) := by
  rw [exec_of_requestOf (r := .query .status) rfl]
  have hempty : (heardFeed s).control = [] := hs.2
  refine congrArg Host.Outcome.next (controlFrame_of_taken hs rfl ?_ hempty)
  have hview : statusView ((heardFeed s).queueing [⟨tag, .query .status⟩])
      = { statusView (heardFeed s) with controlLength := 1 } := rfl
  have htaken : takeRequest ⟨tag, .query .status⟩ ((heardFeed s).queueing [⟨tag, .query .status⟩])
      = respond tag 0x70 .done (.status (statusView ((heardFeed s).queueing [⟨tag, .query .status⟩])))
          ((heardFeed s).queueing [⟨tag, .query .status⟩]) := rfl
  rw [htaken, hview, respond_queueing, respond_of_up (s := heardFeed s) hs.1]

theorem tags_toList (s : State) : s.tags.toList = (List.finRange 8).map s.tag := by
  refine List.ext_getElem (by simp) fun i h₁ h₂ => ?_
  simp [State.tag]

theorem recentAt_append (older newer : List RecentEntry) (e : RecentEntry) :
    recentAt (older ++ e :: newer) newer.length = some e := by
  have hlength : newer.length = newer.reverse.length := (List.length_reverse).symm
  rw [recentAt, List.reverse_append, List.reverse_cons, List.append_assoc, hlength, List.getElem?_append_right (le_refl _),
    Nat.sub_self]
  rfl

theorem recentAt_of_long {recent : List RecentEntry} {position : Nat} (h : recent.length ≤ position) :
    recentAt recent position = none := by
  simp [recentAt, h]

theorem holdsInUse_sorted (s : State) : ((holdsInUse s).map Prod.fst).Pairwise (· < ·) := by
  rw [List.pairwise_map]
  refine List.Pairwise.filterMap _ ?_ (List.pairwise_lt_finRange 64)
  intro i j hlt x hx y hy
  simp only [Option.map_eq_some_iff] at hx hy
  obtain ⟨_, -, rfl⟩ := hx
  obtain ⟨_, -, rfl⟩ := hy
  exact hlt

theorem mem_holdsInUse {s : State} {n : Nat} {x : Hold} : (n, x) ∈ holdsInUse s ↔ ∃ h : Fin 64, h.val = n ∧ s.hold h = some x := by
  simp only [holdsInUse, List.mem_filterMap, List.mem_finRange, true_and, Option.map_eq_some_iff, Prod.mk.injEq]
  constructor
  · rintro ⟨h, y, hy, rfl, rfl⟩; exact ⟨h, rfl, hy⟩
  · rintro ⟨h, rfl, hy⟩; exact ⟨h, x, hy, rfl, rfl⟩

theorem bankViews (s : State) (b : Fin 4) : (s.banks.toList.map bankView)[b.val]? = some {
    state := (s.bank b).state, generation := (s.bank b).generation, boundFiles := (s.bank b).boundFiles
    references := (s.bank b).references, lastTable := (s.bank b).lastTable, writeIndex := (s.bank b).writeIndex } := by
  simp [State.bank, bankView]

end

section

/-- Settles O56: each query's answer, read off the state that has heard it. -/
theorem queriesReadState : Obligations.QueriesReadState := by
  intro s tag hs answered
  refine ⟨exec_query .ident rfl hs (by simp) rfl, ?_, fun l => exec_query (.lane l.val) rfl hs (by simp) ?_,
    fun lane h => exec_query (.lane lane) rfl hs (by simp) ?_,
    fun older e newer hrecent h => exec_query (.recent newer.length) rfl hs (by simp) ?_,
    fun position h hle => exec_query (.recent position) rfl hs (by simp) ?_,
    fun position h => exec_query (.recent position) rfl hs (by simp) (if_pos h),
    ⟨s.activeBank, s.banks.toList.map bankView, exec_query .banks rfl hs (by simp) rfl, activeBank_of_none,
      fun hsound b => activeBank_of_active hsound, by simp, bankViews s⟩,
    fun id h => exec_query (.catalog id) rfl hs (by simp) (if_neg (Nat.not_le.2 h)),
    fun id h => exec_query (.catalog id) rfl hs (by simp) (if_pos h),
    fun day switchWord h hne => exec_query (.day day switchWord) rfl hs (by simp) (if_pos ⟨h, hne⟩),
    fun day switchWord h hd => exec_query (.day day switchWord) rfl hs (by simp) ?_,
    fun day switchWord d h hd => exec_query (.day day switchWord) rfl hs (by simp) ?_,
    ⟨holdsInUse s, exec_query .holds rfl hs (by simp) rfl, holdsInUse_sorted s, fun n x => mem_holdsInUse⟩,
    exec_query .params rfl hs (by simp) rfl⟩
  case refine_1 =>
    intro buffers
    refine (exec_queryStatus hs tag).trans ?_
    have hlist : (heardFeed s).tags.toList = _ := tags_toList s
    rw [statusView, hlist]
    rfl
  case refine_2 => exact dif_pos l.isLt
  case refine_3 => exact dif_neg (by omega)
  case refine_4 =>
    have hfound : recentAt (heardFeed s).recent newer.length = some e := by
      change recentAt s.recent newer.length = some e
      rw [hrecent]
      exact recentAt_append older newer e
    simp only [queryAnswer, recentAnswer, if_neg (Nat.not_lt.2 h), hfound]
  case refine_5 =>
    have hnone : recentAt (heardFeed s).recent position = none := recentAt_of_long h
    simp only [queryAnswer, recentAnswer, if_neg (Nat.not_lt.2 hle), hnone]
  case refine_6 =>
    have hd : (heardFeed s).dayRecord day = none := hd
    simp only [queryAnswer, dayAnswer, if_neg (show ¬ (511 < switchWord ∧ switchWord ≠ 0xFFFF) by omega), hd]
  case refine_7 =>
    have hd : (heardFeed s).dayRecord day = some d := hd
    simp only [queryAnswer, dayAnswer, if_neg (show ¬ (511 < switchWord ∧ switchWord ≠ 0xFFFF) by omega), hd, dayView,
      exceptions_eq, rowOf]
    rfl

end

end Sys2Proof.Machine

namespace Sys2Proof.Machine

open Sys2Proof.Safety

section

/-! ### The responses that an operation sends (R173) -/

/-- From `s` to `t` frames are sent on the Feed link with these responses among them, and the link stays UP or DOWN. -/
def Says (answers : List (Nat × Nat)) (s t : State) : Prop :=
  ∃ sent, t.feedTx = s.feedTx ++ sent ∧ answersIn sent = answers ∧ t.feed.up = s.feed.up

variable {s t u : State} {xs ys : List (Nat × Nat)}

theorem Says.of_same (htx : t.feedTx = s.feedTx) (hfeed : t.feed = s.feed) : Says [] s t :=
  ⟨[], by simp [htx], rfl, by rw [hfeed]⟩

theorem Says.refl (s : State) : Says [] s s := .of_same rfl rfl

theorem Says.trans (h : Says xs s t) (k : Says ys t u) : Says (xs ++ ys) s u := by
  obtain ⟨sent, htx, hanswers, hup⟩ := h
  obtain ⟨sent', htx', hanswers', hup'⟩ := k
  exact ⟨sent ++ sent', by rw [htx', htx, List.append_assoc], by
    rw [← hanswers, ← hanswers']; exact List.filterMap_append, hup'.trans hup⟩

/-- Nothing said before. -/
theorem Says.after (h : Says [] s t) (k : Says ys t u) : Says ys s u := h.trans k

/-- Nothing said afterwards. -/
theorem Says.before (h : Says xs s t) (k : Says [] t u) : Says xs s u := by simpa using h.trans k

theorem Says.up (h : Says xs s t) (hup : s.feed.up = true) : t.feed.up = true := by
  obtain ⟨_, -, -, hkept⟩ := h
  rw [hkept, hup]

theorem says_foldl {α : Type} {f : State → α → State} (hf : ∀ x a, Says [] x (f x a)) (as : List α) (s : State) :
    Says [] s (as.foldl f s) := by
  induction as generalizing s with
  | nil => exact .refl s
  | cons a as ih => exact (hf s a).after (ih (f s a))

theorem says_respond (hup : s.feed.up = true) (tag code : Nat) (rc : ResponseCode) (results : Results) :
    Says [(tag, code)] s (respond tag code rc results s) := by
  rw [respond_of_up hup]
  exact ⟨[.response tag code rc results], rfl, rfl, rfl⟩

theorem says_answer (hup : s.feed.up = true) (tag : Nat) (r : Request) (code : ResponseCode) :
    Says [(tag, requestCode r)] s (answer tag r code s) := says_respond hup ..

theorem says_laneResume (l : Fin 16) (s : State) : Says [] s (sendFeed (.laneResume l) s) := by
  rw [sendFeed_eq_sentIfUp, sentIfUp]
  split
  · exact ⟨[.laneResume l], rfl, rfl, rfl⟩
  · exact .refl s

theorem says_raise (k : ReportKind) (u : Option Nat) (a b c : Nat) (s : State) : Says [] s (raise k u a b c s) :=
  .of_same (raise_feedTx ..) (raise_feed ..)

/-! ### What says nothing -/

theorem says_of_outsideRetire (h : outsideRetire t = outsideRetire s) : Says [] s t := by
  have htx := congrArg State.feedTx h
  have hfeed := congrArg State.feed h
  exact .of_same htx hfeed

theorem says_of_outsideEncoder (h : outsideEncoder t = outsideEncoder s) : Says [] s t := by
  have htx := congrArg State.feedTx h
  have hfeed := congrArg State.feed h
  exact .of_same htx hfeed

theorem says_drainLane (l : Fin 16) (s : State) : Says [] s (drainLane l s) := by
  have htx := congrArg State.feedTx (outsideDrain_drainLane l s)
  have hfeed := congrArg State.feed (outsideDrain_drainLane l s)
  exact .of_same htx hfeed

theorem says_arbitrate (s : State) : Says [] s (arbitrate s) := by
  have hframe := arbitrate_frame s
  have htx := congrArg State.feedTx hframe
  have hfeed := congrArg State.feed hframe
  exact .of_same htx hfeed

theorem says_addToDay (day switch : Nat) (a : Accumulator) (n : Nat) (s : State) :
    Says [] s (addToDay day switch a n s) := by
  rw [addToDay_frame]
  exact .of_same rfl rfl

theorem says_resumeLane (l : Fin 16) (s : State) : Says [] s (resumeLane l s) := by
  have hsent : Says [] s (sendFeed (.laneResume l) (s.setLane l { s.lane l with paused := false })) :=
    (Says.of_same rfl rfl).after (says_laneResume l _)
  unfold resumeLane
  dsimp only
  split
  · exact hsent
  · exact hsent.before (.of_same rfl rfl)

theorem says_startBuffer (s : State) : Says [] s (startBuffer s) := by
  unfold startBuffer
  split
  · split
    · exact .refl s
    · split
      · exact .refl s
      · exact .of_same rfl rfl
  · exact .refl s
  · exact .refl s

theorem says_finishBuffer (l : Fin 16) (i : BufId) (s : State) : Says [] s (finishBuffer l i s) := by
  have hreturned : Says [] s (returnBuffer l i s) := by
    unfold returnBuffer
    dsimp only
    split
    · exact (Says.of_same rfl rfl).after (says_resumeLane l _)
    · exact .of_same rfl rfl
  have hidle (x : State) : Says [] x { x with parser := { x.parser with phase := .idle } } := .of_same rfl rfl
  exact hreturned.after ((hidle _).after ((says_drainLane l _).after (says_startBuffer _)))

theorem says_nextRecord (l : Fin 16) (i : BufId) (position : Nat) (s : State) : Says [] s (nextRecord l i position s) := by
  unfold nextRecord
  split
  · exact .of_same rfl rfl
  · exact says_finishBuffer ..

theorem says_mapContext (l : Fin 16) (f : FileContext → FileContext) (s : State) : Says [] s (s.mapContext l f) :=
  .of_same rfl rfl

theorem says_filterInsert (r : CallRecord) (day : Nat) (s : State) : Says [] s (filterInsert r day s) := by
  rw [filterInsert_frame]
  exact .of_same rfl rfl

theorem says_acceptRecord (l : Fin 16) (switch : Nat) (r : CallRecord) (v : Verdict) (s : State) :
    Says [] s (acceptRecord l switch r v s) := by
  unfold acceptRecord
  split
  · exact (says_mapContext ..).after (says_addToDay ..)
  · dsimp only
    refine Says.after ?_ ((says_addToDay ..).after ((says_addToDay ..).after (says_addToDay ..)))
    split
    · exact (says_mapContext ..).after ((says_filterInsert ..).after (says_addToDay ..))
    · exact (says_mapContext ..).after (says_filterInsert ..)

theorem says_takeRecord (l : Fin 16) (i : BufId) (position : Nat) (r : CallRecord) (v : Verdict) (s : State) :
    Says [] s (takeRecord l i position r v s) := by
  unfold takeRecord
  split
  · exact .refl s
  case h_2 c _ =>
    split
    · exact (says_mapContext ..).after ((says_addToDay ..).after (says_nextRecord ..))
    · have hoffer := says_of_outsideEncoder (outsideEncoder_offerRecord c r v s)
      cases ho : offerRecord c r v s with
      | accepted x =>
        rw [ho] at hoffer
        exact Says.after (t := x) hoffer ((says_acceptRecord ..).after (says_nextRecord ..))
      | refused x =>
        rw [ho] at hoffer
        exact Says.after (t := x) hoffer (.of_same rfl rfl)

theorem says_takeUpHeld (s : State) : Says [] s (takeUpHeld s) := by
  unfold takeUpHeld
  split
  · exact says_takeRecord ..
  · exact .refl s

theorem says_reportMissed (h : Fin 64) (sel : HoldSelector) (s : State) : Says [] s (reportMissed h sel s) := by
  refine says_foldl (fun x t => ?_) _ s
  unfold missOn
  split
  · exact .refl x
  · dsimp only
    split
    · exact says_raise ..
    · exact .refl x

theorem says_releaseHold (h : Fin 64) (s : State) : Says [] s (releaseHold h s) := by
  have hplaced (p : HoldSelector) (rest : List HoldSelector) :
      Says [] s (placeAudit h p { s.setHold h none with pendingHolds := rest }) :=
    (Says.of_same rfl rfl).after (says_raise ..)
  unfold releaseHold
  dsimp only
  split
  · exact .of_same rfl rfl
  · split
    · exact (hplaced ..).before (.of_same rfl rfl)
    · exact hplaced ..

theorem says_closeDayTable (c : Nat) (s : State) : Says [] s (closeDayTable c s) := by
  have hclosed : Says [] s (closeDay c s) := by
    unfold closeDay
    split
    · exact .refl s
    · exact (Says.of_same rfl rfl).after (says_raise ..)
  have hretired (first : Nat) (x : State) : Says [] x (retireDays first x) :=
    (says_foldl (f := raiseDayFinal) (fun y d => says_raise ..) _ x).before (.of_same rfl rfl)
  have hreadmitted (x : State) (day : Nat) : Says [] x (readmitDay x day) := by
    unfold readmitDay
    split
    · exact .refl x
    · exact .of_same rfl rfl
  have htop (x : State) : Says [] x { x with days := placeDay (newDay .opened (c + 2)) x.days } := .of_same rfl rfl
  unfold closeDayTable
  dsimp only
  split
  · exact .refl s
  · exact hclosed.after ((htop _).after ((hretired _ _).after (says_foldl hreadmitted _ _)))

theorem says_closeParts (c : Nat) (s : State) : Says [] s (closeParts c s) := by
  have hswept (x : State) : Says [] x (autoSweep x) := by
    rw [autoSweep_frame]
    exact .of_same rfl rfl
  have hselected := says_of_outsideRetire (outsideRetire_takeSelection s .dayClose .dayClose)
  have hsealed := says_of_outsideRetire
    (outsideRetire_sealWhere (takeSelection .dayClose .dayClose s) fun g => decide (g.key.day < c + 1))
  exact hselected.after (hsealed.after ((hswept _).after ((says_arbitrate _).after (says_closeDayTable c _))))

theorem says_freeEntry (id : Nat) (s : State) : Says [] s (freeEntry id s) := by
  unfold freeEntry
  dsimp only
  rw [clearCatalogFull_frame, refreshStall_frame, dropEntryReference_frame]
  exact .of_same rfl rfl

theorem says_updateBufferOf (id : Nat) (f : SegmentBuffer → SegmentBuffer) (s : State) :
    Says [] s (s.updateBufferOf id f) := by
  rw [updateBufferOf_frame]
  exact .of_same rfl rfl

theorem says_retryWrite (id : Nat) (e : CatalogEntry) (s : State) : Says [] s (retryWrite id e s) := by
  have hmoved (x : CatalogEntry) : Says [] s (s.setEntry id x) := .of_same rfl rfl
  have hqueued (x : State) : Says [] x { x with writeQueue := x.writeQueue ++ [id] } := .of_same rfl rfl
  exact (hmoved _).after ((says_updateBufferOf id _ _).after (hqueued _))

theorem says_discardSegment (id : Nat) (s : State) : Says [] s (discardSegment id s) :=
  (says_updateBufferOf id _ s).after (says_freeEntry id _)

theorem says_selectBank (b : Fin 4) (how : SelectedBy) (s : State) : Says [] s (selectBank b how s) :=
  says_of_outsideRetire (outsideRetire_selectBank s b how)

theorem says_setParam (p : Param) (v : Nat) (s : State) : Says [] s (setParam p v s) := by
  cases p <;> exact .of_same rfl rfl

theorem says_restartSweep (s : State) : Says [] s (restartSweep s) := by
  unfold restartSweep
  dsimp only
  split <;> exact .of_same rfl rfl

theorem says_resumeSweep (s : State) : Says [] s (resumeSweep s) := by
  unfold resumeSweep
  dsimp only
  split <;> exact .of_same rfl rfl

theorem says_restartVerify (s : State) : Says [] s (restartVerify s) := by
  unfold restartVerify
  dsimp only
  split <;> exact .of_same rfl rfl

theorem says_resumeVerify (s : State) : Says [] s (resumeVerify s) := by
  unfold resumeVerify
  dsimp only
  split <;> exact .of_same rfl rfl

end

end Sys2Proof.Machine

namespace Sys2Proof.Machine

open Sys2Proof.Safety

section
variable {s : State}

/-! ### One response for each request taken (R169, R173) -/

theorem Says.thenAnswer {t : State} (h : Says [] s t) (hup : s.feed.up = true) (tag : Nat) (r : Request)
    (code : ResponseCode) : Says [(tag, requestCode r)] s (answer tag r code t) := h.after (says_answer (h.up hup) tag r code)

theorem Says.thenRespond {t : State} (h : Says [] s t) (hup : s.feed.up = true) (tag code : Nat) (rc : ResponseCode)
    (results : Results) : Says [(tag, code)] s (respond tag code rc results t) :=
  h.after (says_respond (h.up hup) tag code rc results)

section
variable (hup : s.feed.up = true) (tag : Nat)
include hup

theorem says_takeCatalogLoad (entries : List LoadEntry) :
    Says [(tag, 0x02)] s (takeCatalogLoad tag entries s) := by
  have hloaded : Says [] s (loadEntries entries s) := by
    rw [loadEntries_frame]
    exact .of_same rfl rfl
  unfold takeCatalogLoad
  dsimp only
  split
  · exact says_respond hup ..
  · split
    · exact says_respond hup ..
    · exact hloaded.thenRespond hup ..

theorem says_takeTableBegin (bank force : Nat) : Says [(tag, 0x10)] s (takeTableBegin tag bank force s) := by
  unfold takeTableBegin
  dsimp only
  split
  · exact says_answer hup ..
  · refine Says.thenAnswer ?_ hup ..
    exact .of_same rfl rfl

theorem says_takeTableWrite (bank : Nat) (startIndex : Option Nat) (entries : TableEntries) :
    Says [(tag, 0x11)] s (takeTableWrite tag bank startIndex entries s) := by
  unfold takeTableWrite
  dsimp only
  split
  · exact says_respond hup ..
  · split
    · exact says_respond hup ..
    · split
      · exact says_respond hup ..
      · refine Says.thenRespond ?_ hup ..
        exact .of_same rfl rfl

theorem says_takeTableSelect (bank mode : Nat) : Says [(tag, 0x13)] s (takeTableSelect tag bank mode s) := by
  unfold takeTableSelect
  dsimp only
  split
  case h_5 =>
    refine Says.thenAnswer ?_ hup ..
    split
    · exact says_selectBank ..
    · exact .of_same rfl rfl
  case h_1 =>
    refine Says.thenAnswer ?_ hup ..
    exact .of_same rfl rfl
  all_goals exact says_answer hup ..

theorem says_takeTableCancel : Says [(tag, 0x14)] s (takeTableCancel tag s) := by
  unfold takeTableCancel
  split
  · exact says_answer hup ..
  · refine Says.thenAnswer ?_ hup ..
    exact .of_same rfl rfl

theorem says_takeDayClose : Says [(tag, 0x20)] s (takeDayClose tag s) := by
  unfold takeDayClose
  split
  · exact says_answer hup ..
  · split
    · refine Says.before (Says.thenAnswer ?_ hup ..) (says_closeParts ..)
      exact .of_same rfl rfl
    · exact says_answer hup ..

theorem says_takeHoldAdd (switchWord firstDay lastDay classSet : Nat) :
    Says [(tag, 0x30)] s (takeHoldAdd tag switchWord firstDay lastDay classSet s) := by
  unfold takeHoldAdd
  dsimp only
  split
  · exact says_respond hup ..
  · split
    · exact says_respond hup ..
    · refine Says.before (Says.thenRespond ?_ hup ..) (says_reportMissed ..)
      exact .of_same rfl rfl

theorem says_takeHoldRelease (holdId : Nat) : Says [(tag, 0x31)] s (takeHoldRelease tag holdId s) := by
  unfold takeHoldRelease
  dsimp only
  split
  · split
    · exact says_answer hup ..
    · exact ((says_releaseHold ..).thenAnswer hup ..).before (says_arbitrate _)
  · exact says_answer hup ..

theorem says_takeSweepStart (mode : Nat) : Says [(tag, 0x40)] s (takeSweepStart tag mode s) := by
  refine Says.before (Says.thenAnswer ?_ hup ..) (says_arbitrate _)
  split
  · exact says_restartSweep s
  · exact says_resumeSweep s

theorem says_takeSweepStop : Says [(tag, 0x41)] s (takeSweepStop tag s) := by
  refine Says.thenAnswer ?_ hup ..
  rw [stopSweep_frame]
  exact .of_same rfl rfl

theorem says_takeVerifyStart (mode : Nat) : Says [(tag, 0x48)] s (takeVerifyStart tag mode s) := by
  refine Says.before (Says.thenAnswer ?_ hup ..) (says_arbitrate _)
  split
  · exact says_restartVerify s
  · exact says_resumeVerify s

theorem says_takeVerifyStop : Says [(tag, 0x49)] s (takeVerifyStop tag s) := by
  refine Says.thenAnswer ?_ hup ..
  rw [stopVerify_frame]
  exact .of_same rfl rfl

theorem says_takeSegmentRetry (segmentId edition : Nat) :
    Says [(tag, 0x50)] s (takeSegmentRetry tag segmentId edition s) := by
  unfold takeSegmentRetry
  dsimp only
  split
  case h_4 => exact ((says_retryWrite ..).thenAnswer hup ..).before (says_arbitrate _)
  case h_5 =>
    refine Says.thenAnswer ?_ hup ..
    exact .of_same rfl rfl
  all_goals exact says_answer hup ..

theorem says_takeSegmentDiscard (segmentId edition : Nat) :
    Says [(tag, 0x51)] s (takeSegmentDiscard tag segmentId edition s) := by
  have hdiscarded := (says_discardSegment segmentId s).thenAnswer hup tag (.segmentDiscard segmentId edition) .done
  unfold takeSegmentDiscard
  dsimp only
  split
  case h_5 => exact hdiscarded.before ((says_takeUpHeld _).after (says_arbitrate _))
  all_goals exact says_answer hup ..

end

/-- A request that does not hold the head is answered once, with its tag and code. -/
theorem says_takeRequest (hup : s.feed.up = true) {q : QueuedRequest} (hfree : holdsHead q.request s = false) :
    Says [(q.tag, requestCode q.request)] s (takeRequest q s) := by
  obtain ⟨tag, r⟩ := q
  unfold takeRequest
  split
  · exact says_answer hup ..
  · rename_i hform
    split
    · exact says_answer hup ..
    · rename_i hallowed
      have hform : formOk r = true := by simpa using hform
      have hallowed : allowedIn s.device r = true := by simpa using hallowed
      cases r with
      | start day =>
        cases hrefusal : startRefusal day with
        | none => simp [holdsHead, hform, hallowed, hrefusal] at hfree
        | some code => simp only [carryOut, hrefusal]; exact says_answer hup ..
      | tableEnd bank supplied generation =>
        cases hrefusal : endRefusal (bankOf bank) (suppliedOf supplied generation) s with
        | none => simp [holdsHead, hform, hallowed, hrefusal] at hfree
        | some code => simp only [carryOut, hrefusal]; exact says_answer hup ..
      | catalogLoad entries => exact says_takeCatalogLoad hup ..
      | tableBegin bank force => exact says_takeTableBegin hup ..
      | tableWrite bank startIndex entries => exact says_takeTableWrite hup ..
      | tableSelect bank mode => exact says_takeTableSelect hup ..
      | tableCancel => exact says_takeTableCancel hup ..
      | dayClose => exact says_takeDayClose hup ..
      | holdAdd switchWord firstDay lastDay classSet => exact says_takeHoldAdd hup ..
      | holdRelease holdId => exact says_takeHoldRelease hup ..
      | sweepStart mode => exact says_takeSweepStart hup ..
      | sweepStop => exact says_takeSweepStop hup ..
      | verifyStart mode => exact says_takeVerifyStart hup ..
      | verifyStop => exact says_takeVerifyStop hup ..
      | segmentRetry segmentId edition => exact says_takeSegmentRetry hup ..
      | segmentDiscard segmentId edition => exact says_takeSegmentDiscard hup ..
      | set p value => exact (says_setParam ..).thenRespond hup ..
      | query kind => exact says_respond hup ..
      | unknown code arguments => exact says_answer hup ..

/-- R169: with fuel for every request that waits, the queue runs until one holds the head. -/
theorem says_runQueue {n : Nat} (hup : s.feed.up = true) (hfuel : s.control.length ≤ n) :
    ∃ taken, s.control = taken ++ (runQueue n s).control
      ∧ Says (taken.map fun q => (q.tag, requestCode q.request)) s (runQueue n s)
      ∧ ∀ q, (runQueue n s).control.head? = some q → holdsHead q.request (runQueue n s) = true := by
  induction n generalizing s with
  | zero =>
    have hempty : s.control = [] := List.eq_nil_of_length_eq_zero (Nat.le_zero.1 hfuel)
    exact ⟨[], rfl, .refl s, by simp [runQueue, hempty]⟩
  | succ n ih =>
    cases hcontrol : s.control with
    | nil =>
      have hstays : runQueue (n + 1) s = s := by simp [runQueue, hcontrol]
      rw [hstays]
      exact ⟨[], hcontrol.symm, .refl s, by simp [hcontrol]⟩
    | cons q rest =>
      by_cases hheld : holdsHead q.request s = true
      · rw [runQueue_of_held hcontrol hheld]
        refine ⟨[], hcontrol.symm, .refl s, fun q' hq' => ?_⟩
        rw [hcontrol] at hq'
        obtain rfl := Option.some.inj hq'
        exact hheld
      · have hfree : holdsHead q.request s = false := Bool.eq_false_iff.2 hheld
        have hleft : (takeRequest q s).control.drop 1 = rest := by rw [takeRequest_control, hcontrol]; rfl
        rw [runQueue_succ_of_free hcontrol hfree, hleft]
        have hsaid : Says [(q.tag, requestCode q.request)] s ((takeRequest q s).queueing rest) :=
          (says_takeRequest hup hfree).before (.of_same rfl rfl)
        have hlength : rest.length ≤ n := by rw [hcontrol] at hfuel; exact Nat.le_of_succ_le_succ hfuel
        obtain ⟨taken, hsplit, hanswers, hhead⟩ := ih (s := (takeRequest q s).queueing rest) (hsaid.up hup) hlength
        exact ⟨q :: taken, congrArg (q :: ·) hsplit, hsaid.trans hanswers, hhead⟩

theorem takeTurns_of_empty (h : s.control = []) : takeTurns s = s := by
  rw [takeTurns, h]
  rfl

theorem takeTurns_of_held {q : QueuedRequest} {rest : List QueuedRequest} (hcontrol : s.control = q :: rest)
    (hheld : holdsHead q.request s = true) : takeTurns s = s := runQueue_of_held hcontrol hheld _

theorem takeTurns_of_free {q : QueuedRequest} {rest : List QueuedRequest} (hcontrol : s.control = q :: rest)
    (hfree : holdsHead q.request s = false) : takeTurns s = takeTurns { takeRequest q s with control := rest } := by
  have hleft : (takeRequest q s).control.drop 1 = rest := by rw [takeRequest_control, hcontrol]; rfl
  have hlength : s.control.length = rest.length + 1 := by rw [hcontrol]; rfl
  rw [takeTurns, hlength, runQueue_succ_of_free hcontrol hfree, hleft]
  rfl

/-! ### What holds the head (R11, R49) -/

theorem holdsHead_start_iff (day : Nat) : holdsHead (.start day) s = true ↔ s.device = .starting ∧ day ≤ 65534 := by
  have hday : (startRefusal day).isNone = true ↔ day ≤ 65534 := by
    unfold startRefusal
    split
    case isTrue h => simpa using h
    case isFalse h => simpa using Nat.not_lt.1 h
  cases hdevice : s.device <;> simp [holdsHead, formOk, allowedIn, hday, hdevice]

theorem endRefusal_eq_none_iff (b : Fin 4) {supplied : Nat} (hsupplied : supplied ≤ 1) (generation : Nat) :
    endRefusal b (suppliedOf supplied generation) s = none ↔ (s.bank b).state = .loading
      ∧ (supplied = 1 → s.device = .starting ∧ generation ≠ 0
          ∧ ∀ o, o ≠ b → (s.bank o).holdsGeneration generation = false)
      ∧ (supplied = 0 → s.loadCounter ≠ 4294967295) := by
  have helsewhere : heldElsewhere s b generation = false ↔ ∀ o, o ≠ b → (s.bank o).holdsGeneration generation = false := by
    rw [← Bool.not_eq_true, heldElsewhere_iff]
    simp
  have hdevice : s.device ≠ .running ↔ s.device = .starting := by cases s.device <;> simp
  obtain rfl | rfl : supplied = 0 ∨ supplied = 1 := by omega
  · by_cases hloading : (s.bank b).state = .loading <;> simp [endRefusal, suppliedOf, hloading, max32]
  · rw [← hdevice, ← helsewhere]
    by_cases hloading : (s.bank b).state = .loading
    · by_cases hrun : s.device = .running <;> by_cases hzero : generation = 0 <;>
        simp [endRefusal, suppliedOf, hloading, hrun, hzero]
    · simp [endRefusal, hloading]

theorem holdsHead_tableEnd_iff (bank supplied generation : Nat) : holdsHead (.tableEnd bank supplied generation) s = true
    ↔ bank ≤ 3 ∧ supplied ≤ 1 ∧ endRefusal (bankOf bank) (suppliedOf supplied generation) s = none := by
  simp [holdsHead, formOk, allowedIn, and_assoc]

end

section

/-- Settles O39: the run of the queue, its head, and a request that finds the queue empty. -/
theorem waitingRequestsAnswered : Obligations.WaitingRequestsAnswered := by
  refine ⟨fun s hup => ?_, fun s => ⟨takeTurns_of_empty, fun q rest hcontrol => ?_⟩, fun c s tag r h hs => ?_⟩
  · obtain ⟨taken, hsplit, ⟨sent, htx, hanswers, -⟩, hhead⟩ := says_runQueue hup (le_refl s.control.length)
    refine ⟨taken, sent, hsplit, htx, hanswers, fun q hq => ?_⟩
    obtain ⟨tag, r⟩ := q
    have hheld := hhead _ hq
    cases r with
    | start day => exact .inl ⟨day, rfl, ((holdsHead_start_iff day).1 hheld).2⟩
    | tableEnd bank supplied generation => exact .inr ⟨bank, supplied, generation, rfl⟩
    | _ => simp [holdsHead] at hheld
  · intro computes validates
    have hheld : holdsHead q.request s = true ↔ computes ∨ validates := by
      obtain ⟨tag, r⟩ := q
      cases r with
      | start day =>
        rw [holdsHead_start_iff]
        constructor
        · rintro ⟨hdevice, hday⟩
          exact .inl ⟨day, rfl, hdevice, hday⟩
        · rintro (⟨_, heq, hdevice, hday⟩ | ⟨_, _, _, heq, -⟩)
          · cases heq; exact ⟨hdevice, hday⟩
          · cases heq
      | tableEnd bank supplied generation =>
        rw [holdsHead_tableEnd_iff]
        constructor
        · rintro ⟨hbank, hsupplied, hpasses⟩
          obtain ⟨b, rfl⟩ : ∃ b : Fin 4, bank = b.val := ⟨⟨bank, by omega⟩, rfl⟩
          rw [bankOf_val] at hpasses
          exact .inr ⟨b, supplied, generation, rfl, hsupplied, (endRefusal_eq_none_iff b hsupplied generation).1 hpasses⟩
        · rintro (⟨_, heq, -⟩ | ⟨b, _, _, heq, hsupplied, hpasses⟩)
          · cases heq
          · cases heq
            rw [bankOf_val]
            exact ⟨bank_le b, hsupplied, (endRefusal_eq_none_iff b hsupplied generation).2 hpasses⟩
      | _ => simp [holdsHead, computes, validates]
    exact ⟨fun h => takeTurns_of_held hcontrol (hheld.2 h), fun h =>
      takeTurns_of_free hcontrol (Bool.eq_false_iff.2 (mt hheld.1 h))⟩
  · rw [exec_of_arrival h hs.1, controlArrives_of_empty (s := heardFeed s) hs.2]
    rfl

end

end Sys2Proof.Machine

namespace Sys2Proof.Machine

open Sys2Proof.Safety

section
variable {s : State}

/-! ### Outcomes of store operations (R102 to R104, R112 to R114) -/

theorem updateBufferOf_of_found {id : Nat} {i : Fin 32} (h : s.bufferOf id = some i) (f : SegmentBuffer → SegmentBuffer) :
    s.updateBufferOf id f = { s with buffers := s.buffers.set i (f (s.buffer i)) } := by
  simp only [State.updateBufferOf, h]
  rfl

theorem writeStored_of_writing {id : Nat} {i : Fin 32} (hstate : (s.entry id).state = .writing)
    (hbuffer : s.bufferOf id = some i) : writeStored id s = takeUpHeld (refreshStall
      { s.setEntry id { s.entry id with state := .stored } with buffers := s.buffers.set i {}, storeFull := false }) := by
  rw [writeStored, if_pos hstate]
  dsimp only
  rw [updateBufferOf_of_found (s := s.moveEntry id .stored) (i := i) hbuffer]
  rfl

section
variable {id : Nat} {f : Figures} {o : Opening} (hstate : (s.entry id).state = .writing)
  (ho : (s.entry id).opening = some o) (hf : (s.entry id).figures = some f)
include hstate ho hf

theorem writeFails_again (cause : FailCause) (h : f.writeAttempts + 1 < 3) : writeFails id cause s
    = { s.setEntry id { s.entry id with figures := some { f with writeAttempts := f.writeAttempts + 1 } } with
      writeQueue := s.writeQueue ++ [id] } := by
  simp only [writeFails, hstate, ho, hf, Config.attemptLimit, if_pos h]
  rfl

theorem writeFails_finally {i : Fin 32} (hbuffer : s.bufferOf id = some i) (cause : FailCause)
    (h : 3 ≤ f.writeAttempts + 1) : writeFails id cause s
    = raise .segWriteFailed (some id) (s.entry id).edition cause.code o.key.day
      { s.setEntry id { s.entry id with
          state := .writeFailed, figures := some { f with writeAttempts := f.writeAttempts + 1 } } with
        buffers := s.buffers.set i { s.buffer i with state := .failed } } := by
  have hkept (e : CatalogEntry) : (s.setEntry id e).updateBufferOf id (fun b => { b with state := .failed })
      = { s.setEntry id e with buffers := s.buffers.set i { s.buffer i with state := .failed } } :=
    updateBufferOf_of_found (s := s.setEntry id e) (i := i) hbuffer _
  simp only [writeFails, hstate, ho, hf, Config.attemptLimit, if_neg (Nat.not_lt.2 h), hkept]

end

theorem deleteDone_of_deleting {id : Nat} (hstate : (s.entry id).state = .deleting) :
    deleteDone id s = takeUpHeld (freeEntry id s) := if_pos hstate

section
variable {id : Nat} {f : Figures} (hstate : (s.entry id).state = .deleting) (hf : (s.entry id).figures = some f)
include hstate hf

theorem deleteFails_again (cause : DeleteFailure) (h : f.deleteAttempts + 1 < 3) : deleteFails id cause s
    = { s.setEntry id { s.entry id with
          state := .stored, figures := some { f with deleteAttempts := f.deleteAttempts + 1 } } with
        sweeper := { s.sweeper with counts :=
          { s.sweeper.counts with failed := min max32 (s.sweeper.counts.failed + 1) } } } := by
  simp only [deleteFails, hstate, hf, Config.attemptLimit, if_pos h]
  rfl

theorem deleteFails_finally (cause : DeleteFailure) (h : 3 ≤ f.deleteAttempts + 1) : deleteFails id cause s
    = { raise .segDeleteFailed (some id) (s.entry id).edition cause.code f.expiryDay (s.setEntry id { s.entry id with
          state := .deleteFailed, figures := some { f with deleteAttempts := f.deleteAttempts + 1 } }) with
        sweeper := { s.sweeper with counts :=
          { s.sweeper.counts with failed := min max32 (s.sweeper.counts.failed + 1) } } } := by
  simp only [deleteFails, hstate, hf, Config.attemptLimit, if_neg (Nat.not_lt.2 h)]
  have hcounted (x : State) (hx : x.sweeper = s.sweeper) : countDeleteFailure x = { x with
      sweeper := { s.sweeper with counts :=
        { s.sweeper.counts with failed := min max32 (s.sweeper.counts.failed + 1) } } } := by
    rw [countDeleteFailure, hx]
    rfl
  exact hcounted _ (raise_sweeper ..)

end

/-! ### The outcome of a read (R112, R167, R168) -/

/-- The state with another verifier. -/
def State.withVerifier (s : State) (v : Verifier) : State := { s with verifier := v }

/-- R168: a RUNNING verifier rests. -/
def restedVerifier (s : State) (v : Verifier) : Verifier :=
  if v.phase = .running then { v with phase := .resting, restExpiry := some (s.after s.params.verifyRest) } else v

theorem restVerifier_eq (s : State) : restVerifier s = s.withVerifier (restedVerifier s s.verifier) := by
  unfold restVerifier restedVerifier
  cases hphase : s.verifier.phase <;> rfl

theorem raise_withVerifier (k : ReportKind) (u : Option Nat) (a b c : Nat) (v : Verifier) (s : State) :
    raise k u a b c (s.withVerifier v) = (raise k u a b c s).withVerifier v := by
  unfold State.withVerifier raise raiseOn
  dsimp only
  split <;> rfl

/-- An entry VERIFYING, as it returns to STORED (R112). -/
theorem endVerification_of_verifying {id : Nat} {f : Figures} (hstate : (s.entry id).state = .verifying)
    (hf : (s.entry id).figures = some f) (result : Option VerifyResult) : endVerification id result s
      = s.setEntry id { s.entry id with state := .stored, figures := some { f with verify := result.getD f.verify } } := by
  rw [endVerification, if_pos hstate, CatalogEntry.mapFigures, hf]
  rfl

theorem restVerifier_raise (k : ReportKind) (u : Option Nat) (a b c : Nat) (v : Verifier) (s : State) :
    restVerifier (raise k u a b c (s.withVerifier v)) = (raise k u a b c s).withVerifier (restedVerifier s v) := by
  have hafter (n : Nat) : ((raise k u a b c s).withVerifier v).after n = s.after n := by
    simp only [State.after, State.withVerifier, raise_runTime]
  have hrested : restedVerifier ((raise k u a b c s).withVerifier v) v = restedVerifier s v := by
    unfold restedVerifier
    rw [hafter]
    simp only [State.withVerifier, raise_params]
  rw [restVerifier_eq, raise_withVerifier]
  exact congrArg (raise k u a b c s).withVerifier hrested

section
variable {id : Nat} {f : Figures} (hstate : (s.entry id).state = .verifying) (hf : (s.entry id).figures = some f)
include hstate hf

theorem verificationResult_of_damaged {reason : DamageReason} (whole : Nat) :
    verificationResult id { result := .damaged reason, whole := whole } s
      = (raise .segDamaged (some id) (s.entry id).edition reason.reportCode whole (s.setEntry id
          { s.entry id with state := .stored, figures := some { f with verify := .damaged reason } })).withVerifier
        (restedVerifier s { s.verifier with counts := s.verifier.counts.addResult (.damaged reason) }) := by
  simp only [verificationResult, endVerification_of_verifying hstate hf]
  exact restVerifier_raise _ _ _ _ _ _ (s.setEntry id _)

theorem verificationResult_of_sound {c : Checked} (hsound : c.result = .fullOk ∨ c.result = .checkOnlyOk) :
    verificationResult id c s = (s.setEntry id
        { s.entry id with state := .stored, figures := some { f with verify := c.result } }).withVerifier
      (restedVerifier s { s.verifier with counts := s.verifier.counts.addResult c.result }) := by
  obtain h | h := hsound <;>
  · simp only [verificationResult, endVerification_of_verifying hstate hf, h]
    exact restVerifier_eq _

end

theorem verificationFails_eq {id : Nat} (hstate : (s.entry id).state = .verifying) (cause : FailCause) :
    verificationFails id cause s = (raise .segDamaged (some id) (s.entry id).edition 6 cause.code (s.setEntry id
        { s.entry id with state := .stored })).withVerifier
      (restedVerifier s { s.verifier with counts :=
        { s.verifier.counts with failed := min max32 (s.verifier.counts.failed + 1) } }) := by
  have hfigures : (s.entry id).mapFigures (fun f => { f with verify := (none : Option VerifyResult).getD f.verify })
      = s.entry id := by
    rw [CatalogEntry.mapFigures]
    cases s.entry id with
    | mk edition state opening figures => cases figures <;> rfl
  rw [verificationFails, endVerification, if_pos hstate, hfigures]
  exact restVerifier_raise _ _ _ _ _ _ (s.setEntry id _)

end

end Sys2Proof.Machine

namespace Sys2Proof.Machine

open Sys2Proof.Safety

section
variable {s : State}

/-! ### The answers on the Store link (R128 to R131) -/

theorem exec_storeAck (hup : s.store.up = true) (t : Fin 8) (id edition : Nat) (status : AckStatus) :
    exec (.storeAck t id edition status) s = .next (settle (ackArrives t id edition status (heardStore s))) := by
  rw [← receiveGood_store_of_up hup]
  rfl

/-- R129: an acknowledgement that matches its tag. -/
theorem exec_storeAck_of_matched (hup : s.store.up = true) {t : Fin 8} {op : Outstanding} (hop : s.tag t = some op)
    (status : AckStatus) : exec (.storeAck t op.segmentId op.edition status) s
      = .next (settle (ackOutcome op status { heardStore s with tags := s.tags.set t none })) := by
  have hop : (heardStore s).tag t = some op := hop
  rw [exec_storeAck hup]
  simp only [ackArrives, hop, and_self, if_true]
  rfl

theorem exec_readData (hup : s.store.up = true) {bytes : List Byte} (hshort : bytes.length ≤ 16384) (t : Fin 8) (last : Bool) :
    exec (.readData t last bytes) s = .next (settle (dataArrives t last bytes (heardStore s))) := by
  have hexec : exec (.readData t last bytes) s = .next (settle (dataArrives t last bytes (receiveGood .store s))) :=
    if_neg (Nat.not_lt.2 hshort)
  rw [hexec, receiveGood_store_of_up hup]

theorem tag_setTag_self (t : Fin 8) (x : Option Outstanding) : (s.setTag t x).tag t = x := by
  simp [State.tag, State.setTag]

theorem setTag_setTag (t : Fin 8) (x y : Option Outstanding) : (s.setTag t x).setTag t y = s.setTag t y := by
  simp [State.setTag]

theorem finishRead_appendRead (t : Fin 8) (op : Outstanding) (bytes : List Byte) :
    finishRead t (appendRead t op bytes s) = verifyImage op.segmentId ((s.verifier.readBuffer ++ bytes).take 65536)
      (op.overlong || decide (65536 < (s.verifier.readBuffer ++ bytes).length))
      { s with tags := s.tags.set t none, verifier := { s.verifier with readBuffer := [] } } := by
  have htag : (appendRead t op bytes s).tag t = some { op with
      overlong := op.overlong || decide (65536 < (s.verifier.readBuffer ++ bytes).length) } :=
    tag_setTag_self (s := s) t _
  have hcleared : clearReadBuffer ((appendRead t op bytes s).setTag t none)
      = { s with tags := s.tags.set t none, verifier := { s.verifier with readBuffer := [] } } := by
    have h := congrArg State.tags (setTag_setTag (s := s) t (some { op with
      overlong := op.overlong || decide (65536 < (s.verifier.readBuffer ++ bytes).length) }) none)
    have h : ((appendRead t op bytes s).setTag t none).tags = s.tags.set t none := h
    rw [clearReadBuffer, State.setTag]
    change ({ s with tags := ((appendRead t op bytes s).setTag t none).tags, verifier := _ } : State) = _
    rw [h]
    rfl
  simp only [finishRead, htag, hcleared]
  rfl

/-- R131: a READ DATA for the read on its tag. -/
theorem dataArrives_of_read {t : Fin 8} {op : Outstanding} (hop : s.tag t = some op) (hread : op.operation = .read)
    (last : Bool) (bytes : List Byte) : dataArrives t last bytes s
      = if last then finishRead t (appendRead t op bytes s) else appendRead t op bytes s := by
  simp only [dataArrives, hop, hread]

theorem raise_clearReadBuffer (k : ReportKind) (u : Option Nat) (a b c : Nat) (id : Nat) (e : CatalogEntry) (v : Verifier) :
    (raise k u a b c ((clearReadBuffer s).setEntry id e)).withVerifier v
      = (raise k u a b c (s.setEntry id e)).withVerifier v := by
  have hcleared : (clearReadBuffer s).setEntry id e
      = (s.setEntry id e).withVerifier { s.verifier with readBuffer := [] } := rfl
  rw [hcleared, raise_withVerifier]
  rfl

/-! ### The timers (R104, R128, R138, R168, R181) -/

theorem tagExpires_of_reached {t : Fin 8} {op : Outstanding} (hop : s.tag t = some op) (h : s.reached op.expiry = true) :
    tagExpires t s = timeoutOutcome op { s with tags := s.tags.set t none } := by
  simp only [tagExpires, hop, h, if_true]
  rfl

theorem tagExpires_of_early {t : Fin 8} {op : Outstanding} (hop : s.tag t = some op) (h : s.reached op.expiry = false) :
    tagExpires t s = s := by
  simp only [tagExpires, hop, h, Bool.false_eq_true, if_false]

theorem tagExpires_of_free {t : Fin 8} (h : s.tag t = none) : tagExpires t s = s := by
  simp only [tagExpires, h]

theorem fullWaitEnds_of_none {id : Nat} (h : ∀ w ∈ s.fullWaits, w.segmentId ≠ id) : fullWaitEnds id s = s := by
  have hnone : s.fullWaits.find? (fun w => decide (w.segmentId = id)) = none := by simpa using h
  simp only [fullWaitEnds, hnone]

theorem find?_fullWait {earlier later : List FullWait} {w : FullWait} (hothers : ∀ x ∈ earlier, x.segmentId ≠ w.segmentId) :
    (earlier ++ w :: later).find? (fun x => decide (x.segmentId = w.segmentId)) = some w := by
  have hnone : earlier.find? (fun x => decide (x.segmentId = w.segmentId)) = none := by simpa using hothers
  simp [List.find?_append, hnone]

theorem filter_fullWait {earlier later : List FullWait} {w : FullWait}
    (hothers : ∀ x ∈ earlier ++ later, x.segmentId ≠ w.segmentId) :
    (earlier ++ w :: later).filter (fun x => decide (x.segmentId ≠ w.segmentId)) = earlier ++ later := by
  have hkept : (earlier ++ later).filter (fun x => decide (x.segmentId ≠ w.segmentId)) = earlier ++ later :=
    List.filter_eq_self.2 fun x hx => decide_eq_true (hothers x hx)
  rw [← hkept]
  simp

theorem restOver_iff (phase : WalkPhase) (expiry : Option Nat) :
    s.restOver phase expiry = true ↔ phase = .resting ∧ ∃ t, expiry = some t ∧ s.reached t = true := by
  cases expiry <;> simp [State.restOver]

theorem restOver_of_not_resting {phase : WalkPhase} {expiry : Option Nat} (h : phase ≠ .resting ∨ expiry = none) :
    s.restOver phase expiry = false := by
  refine Bool.eq_false_iff.2 fun hover => ?_
  obtain ⟨hphase, t, ht, -⟩ := (restOver_iff phase expiry).1 hover
  obtain h | h := h
  · exact h hphase
  · simp [ht] at h

theorem restOver_of_resting {phase : WalkPhase} {t : Nat} (h : phase = .resting) : s.restOver phase (some t) = s.reached t := by
  simp [State.restOver, h]

/-- R178: an expiry `n` ms ahead is reached when `n` ms have passed, across a wrap of the run time. -/
theorem reached_iff {n passed : Nat} (hn : n < 2147483648) (hpassed : passed < n + 2147483648) :
    (({ s with runTime := (s.runTime + passed) % 4294967296 } : State).reached ((s.runTime + n) % 4294967296) = true)
      ↔ n ≤ passed := by
  rw [State.reached, decide_eq_true_eq, State.since]
  change ((s.runTime + passed) % 4294967296 + 4294967296 - (s.runTime + n) % 4294967296) % 4294967296 < 2147483648 ↔ _
  omega

end

section

/-- Settles O57: the operation, then the status. -/
theorem storeAcknowledgementsEndOperations : Obligations.StoreAcknowledgementsEndOperations := by
  intro s t op hup hop id e w ended
  have hended (status : AckStatus) {x : State} (h : ackOutcome op status w = x) : ended status x :=
    h ▸ exec_storeAck_of_matched hup hop status
  refine ⟨fun hwrite hstate f o i hf ho hi => ⟨hended _ ?_, hended _ ?_, fun status hstatus => ?_⟩,
    fun hdelete hstate => ⟨fun status hstatus => hended _ ?_, fun f status code hf hstatus => ?_⟩,
    fun hread hstate f hf => ⟨hended _ ?_, fun status hstatus => hended _ ?_⟩⟩
  · simp only [ackOutcome, hwrite]
    exact writeStored_of_writing (s := w) hstate hi
  · simp only [ackOutcome, hwrite]
    rfl
  · have hfails : ackOutcome op status w = writeFails id .error w := by
      obtain rfl | rfl := hstatus <;> simp only [ackOutcome, hwrite] <;> rfl
    exact ⟨fun h => hended _ (hfails.trans (writeFails_again (s := w) hstate ho hf .error h)),
      fun h => hended _ (hfails.trans (writeFails_finally (s := w) hstate ho hf hi .error h))⟩
  · have hdone : ackOutcome op status w = deleteDone id w := by
      obtain rfl | rfl := hstatus <;> simp only [ackOutcome, hdelete] <;> rfl
    exact hdone.trans (deleteDone_of_deleting (s := w) hstate)
  · obtain ⟨cause, hcode, hfails⟩ : ∃ cause : DeleteFailure, cause.code = code ∧ ackOutcome op status w = deleteFails id cause w := by
      obtain ⟨rfl, rfl⟩ | ⟨rfl, rfl⟩ := hstatus
      · exact ⟨.error, rfl, by simp only [ackOutcome, hdelete]; rfl⟩
      · exact ⟨.full, rfl, by simp only [ackOutcome, hdelete]; rfl⟩
    subst hcode
    exact ⟨fun h => hended _ (hfails.trans (deleteFails_again (s := w) hstate hf cause h)),
      fun h => hended _ (hfails.trans (deleteFails_finally (s := w) hstate hf cause h))⟩
  · simp only [ackOutcome, hread]
    refine (verificationResult_of_damaged (s := clearReadBuffer w) hstate hf 0).trans ?_
    exact raise_clearReadBuffer ..
  · have hfails : ackOutcome op status w = verificationFails id .error (clearReadBuffer w) := by
      cases status with
      | notFound => exact absurd rfl hstatus
      | ok | full | error => simp only [ackOutcome, hread]; rfl
    refine (hfails.trans (verificationFails_eq (s := clearReadBuffer w) hstate .error)).trans ?_
    exact raise_clearReadBuffer ..

/-- Settles O58. -/
theorem storeDataAndStrays : Obligations.StoreDataAndStrays := by
  intro s t hup stray
  refine ⟨fun id edition status => ⟨fun hfree => ?_, fun op hop hother => ?_⟩, fun last bytes => ⟨fun hlong => if_pos hlong,
    fun hshort => ⟨fun hfree => ?_, fun op hop => ⟨fun hother => ?_, fun hread => ⟨fun hlast => ?_, fun hlast => ?_⟩⟩⟩⟩⟩
  · have hfree : (heardStore s).tag t = none := hfree
    rw [exec_storeAck hup]
    simp only [ackArrives, hfree]
    rfl
  · have hop : (heardStore s).tag t = some op := hop
    rw [exec_storeAck hup]
    simp only [ackArrives, hop, if_neg (not_and_or.2 hother)]
    rfl
  · have hfree : (heardStore s).tag t = none := hfree
    rw [exec_readData hup hshort]
    simp only [dataArrives, hfree]
    rfl
  · have hop : (heardStore s).tag t = some op := hop
    rw [exec_readData hup hshort]
    simp only [dataArrives, hop]
    cases hoperation : op.operation with
    | read => exact absurd hoperation hother
    | write => rfl
    | delete => rfl
  · have hop : (heardStore s).tag t = some op := hop
    subst hlast
    rw [exec_readData hup hshort, dataArrives_of_read hop hread]
    rfl
  · have hop : (heardStore s).tag t = some op := hop
    subst hlast
    rw [exec_readData hup hshort, dataArrives_of_read hop hread]
    exact congrArg (fun x => Host.Outcome.next (settle x)) (finishRead_appendRead (s := heardStore s) t op bytes)

/-- Settles O59: the same outcomes as an ERROR's, with the cause TIMEOUT. -/
theorem tagTimeoutFailsOperation : Obligations.TagTimeoutFailsOperation := by
  intro s t
  have hexec {x : State} (h : tagExpires t s = x) : exec (.tagTimeout t) s = .next (settle x) := h ▸ rfl
  refine ⟨fun hfree => hexec (tagExpires_of_free hfree), fun op hop => ⟨fun hearly => hexec (tagExpires_of_early hop hearly),
    fun hreached => ?_⟩⟩
  intro id e w ended
  have hended {x : State} (h : timeoutOutcome op w = x) : ended x := hexec ((tagExpires_of_reached hop hreached).trans h)
  refine ⟨fun hwrite hstate f o i hf ho hi => ?_, fun hdelete hstate f hf => ?_, fun hread hstate => ?_⟩
  · have hfails : timeoutOutcome op w = writeFails id .timeout w := by simp only [timeoutOutcome, hwrite]; rfl
    exact ⟨fun h => hended (hfails.trans (writeFails_again (s := w) hstate ho hf .timeout h)),
      fun h => hended (hfails.trans (writeFails_finally (s := w) hstate ho hf hi .timeout h))⟩
  · have hfails : timeoutOutcome op w = deleteFails id .timeout w := by simp only [timeoutOutcome, hdelete]; rfl
    exact ⟨fun h => hended (hfails.trans (deleteFails_again (s := w) hstate hf .timeout h)),
      fun h => hended (hfails.trans (deleteFails_finally (s := w) hstate hf .timeout h))⟩
  · intro v
    have hfails : timeoutOutcome op w = verificationFails id .timeout (clearReadBuffer w) := by
      simp only [timeoutOutcome, hread]
      rfl
    refine hended ((hfails.trans (verificationFails_eq (s := clearReadBuffer w) hstate .timeout)).trans ?_)
    exact raise_clearReadBuffer ..

/-- Settles O60. -/
theorem timersExpire : Obligations.TimersExpire := by
  intro s
  have hover {phase : WalkPhase} {t : Nat} {expiry : Option Nat} (hphase : phase = .resting) (ht : expiry = some t) :
      s.restOver phase expiry = s.reached t := ht ▸ restOver_of_resting hphase
  refine ⟨fun id h => ?_, fun earlier w later hwaits hothers => ⟨fun hearly => ?_, fun hreached => ?_⟩,
    fun t hphase ht => ⟨fun h => if_pos ((hover hphase ht).trans h), fun h => if_neg (by simp [hover hphase ht, h])⟩,
    fun h => if_neg (by simp [restOver_of_not_resting h]),
    fun t hphase ht => ⟨fun h => if_pos ((hover hphase ht).trans h), fun h => if_neg (by simp [hover hphase ht, h])⟩,
    fun h => if_neg (by simp [restOver_of_not_resting h]), fun t ht => ?_, fun hnone => ?_,
    fun n passed hn hpassed => reached_iff hn hpassed⟩
  · exact congrArg (fun x => Host.Outcome.next (settle x)) (fullWaitEnds_of_none h)
  · have hfound : s.fullWaits.find? (fun x => decide (x.segmentId = w.segmentId)) = some w :=
      hwaits ▸ find?_fullWait fun x hx => hothers x (List.mem_append_left _ hx)
    refine congrArg (fun x => Host.Outcome.next (settle x)) ?_
    simp only [fullWaitEnds, hfound, hearly, Bool.false_eq_true, if_false]
  · have hfound : s.fullWaits.find? (fun x => decide (x.segmentId = w.segmentId)) = some w :=
      hwaits ▸ find?_fullWait fun x hx => hothers x (List.mem_append_left _ hx)
    have hleft : s.fullWaits.filter (fun x => decide (x.segmentId ≠ w.segmentId)) = earlier ++ later :=
      hwaits ▸ filter_fullWait hothers
    refine congrArg (fun x => Host.Outcome.next (settle x)) ?_
    simp only [fullWaitEnds, hfound, hreached, if_true, hleft]
  · have hholdoff : s.holdoffOver = s.reached t := by simp only [State.holdoffOver, ht]
    exact ⟨fun h => if_pos (hholdoff.trans h), fun h => if_neg (by simp [hholdoff, h])⟩
  · exact if_neg (by simp [State.holdoffOver, hnone])

end

end Sys2Proof.Machine

namespace Sys2Proof.Machine

open Sys2Proof.Safety

section
variable {s : State}

/-! ### The next record of a buffer, or its return (R28, R26, R139, R168) -/

theorem Sweeper.returnFromRest_eq (w : Sweeper) : w.returnFromRest
    = if w.phase = .extendedRest then { w with phase := .running, burstCount := 0 } else w := by
  unfold Sweeper.returnFromRest
  cases hphase : w.phase <;> rfl

theorem Verifier.returnFromRest_eq (v : Verifier) : v.returnFromRest
    = if v.phase = .extendedRest then { v with phase := .running } else v := by
  unfold Verifier.returnFromRest
  cases hphase : v.phase <;> rfl

/-- The state after lane `l` has its buffer `i` back on the link side and has left the paused set. -/
def returned (s : State) (l : Fin 16) (i : BufId) : State :=
  { s with lanes := s.lanes.set l { (s.lane l).setBuf i { owner := .link, records := [] } with paused := false } }

theorem returnBuffer_of_running {l : Fin 16} (h : (s.lane l).paused = false) (i : BufId) :
    returnBuffer l i s = returned s l i := by
  have hlane : (s.lane l).setBuf i {} = { (s.lane l).setBuf i {} with paused := false } := by
    have hp : ((s.lane l).setBuf i {}).paused = false := by rw [Lane.setBuf_paused, h]
    rw [← hp]
  rw [returnBuffer, h]
  exact congrArg (s.setLane l) hlane

theorem returned_anyPaused (l : Fin 16) (i : BufId) :
    (returned s l i).anyPaused = true ↔ ∃ o, o ≠ l ∧ (s.lane o).paused = true := by
  have hlane (o : Fin 16) : (returned s l i).lane o = if l = o
      then { (s.lane l).setBuf i { owner := .link, records := [] } with paused := false } else s.lane o :=
    State.lane_setLane s l o _
  simp only [State.anyPaused, List.any_eq_true, List.mem_finRange, true_and, hlane]
  refine exists_congr fun o => ?_
  by_cases h : l = o
  · simp [h]
  · simp [h, Ne.symm h]

theorem anyPaused_sentIfUp (fs : List FeedFrame) (s : State) : (sentIfUp fs s).anyPaused = s.anyPaused := by
  simp only [State.anyPaused, State.lane, sentIfUp_lanes]

theorem resumeLane_returned (l : Fin 16) (i : BufId) (s : State) : resumeLane l (s.setLane l ((s.lane l).setBuf i {}))
    = if (returned s l i).anyPaused then sentIfUp [.laneResume l] (returned s l i)
      else { sentIfUp [.laneResume l] (returned s l i) with
        sweeper := (sentIfUp [.laneResume l] (returned s l i)).sweeper.returnFromRest
        verifier := (sentIfUp [.laneResume l] (returned s l i)).verifier.returnFromRest } := by
  have hleft : (s.setLane l ((s.lane l).setBuf i {})).setLane l
      { (s.setLane l ((s.lane l).setBuf i {})).lane l with paused := false } = returned s l i := by
    rw [setLane_setLane, State.lane_setLane, if_pos rfl]
    rfl
  unfold resumeLane
  simp only [hleft, sendFeed_eq_sentIfUp, anyPaused_sentIfUp]

theorem returnBuffer_of_paused {l : Fin 16} (h : (s.lane l).paused = true) (i : BufId) :
    returnBuffer l i s = resumeLane l (s.setLane l ((s.lane l).setBuf i {})) := by
  rw [returnBuffer, h]
  rfl

theorem sentIfUp_one_frame (f : FeedFrame) (s : State) :
    sentIfUp [f] s = { s with feedTx := (sentIfUp [f] s).feedTx, feed := (sentIfUp [f] s).feed } := sendFeed_frame s f

/-- The parser IDLE, its last lane kept. -/
def idled (s : State) : State := { s with parser := { s.parser with phase := .idle } }

theorem idled_sentIfUp (f : FeedFrame) (s : State) : idled (sentIfUp [f] s) = sentIfUp [f] (idled s) := by
  have hup : (idled s).feed.up = s.feed.up := rfl
  unfold sentIfUp
  rw [hup]
  split <;> rfl

theorem nextRecord_of_more {l : Fin 16} {i : BufId} {position : Nat}
    (h : position + 1 < ((s.lane l).buf i).records.length) :
    nextRecord l i position s = { s with parser := { s.parser with phase := .parsing l i (position + 1) } } := if_pos h

theorem nextRecord_of_last {l : Fin 16} {i : BufId} {position : Nat}
    (h : ((s.lane l).buf i).records.length ≤ position + 1) :
    nextRecord l i position s = startBuffer (drainLane l (idled (returnBuffer l i s))) := if_neg (Nat.not_lt.2 h)

/-! ### One record (R29 to R32) -/

theorem mapContext_of_some {l : Fin 16} {c : FileContext} (h : (s.lane l).context = some c) (f : FileContext → FileContext) :
    s.mapContext l f = s.setLane l { s.lane l with context := some (f c) } := by
  simp only [State.mapContext, Lane.mapContext, h]
  rfl

theorem stepSequence_eq (c : FileContext) (sequence : Nat) : c.stepSequence sequence = { c with
    lastSequence := some sequence
    sequenceGaps := match c.lastSequence with
      | none => c.sequenceGaps
      | some last => if sequence = (last + 1) % 4294967296 then c.sequenceGaps else min max32 (c.sequenceGaps + 1) } := rfl

theorem filterInsert_of_same {x : State} (hclock : x.clock = s.clock) (hfilter : x.filter = s.filter) (r : CallRecord)
    (day : Nat) : filterInsert r day x
      = if s.clock.inWindow day then { x with filter := filterWith s.clock s.filter r day } else x := by
  rw [← hclock, ← hfilter]
  rfl

theorem insertionEvicts_iff (r : CallRecord) (day : Nat) : insertionEvicts r day s = true
    ↔ s.clock.inWindow day = true ∧ (chooseWay s.clock s.filter (bucketOf r)).2 = true := by
  simp [insertionEvicts]

theorem lane_of_outsideEncoder {t : State} (h : outsideEncoder t = outsideEncoder s) (l : Fin 16) : t.lane l = s.lane l := by
  have hlanes := congrArg State.lanes h
  have hlanes : t.lanes = s.lanes := hlanes
  rw [State.lane, hlanes]
  rfl

theorem acceptRecord_of_rejected {l : Fin 16} {c : FileContext} (hc : (s.lane l).context = some c) {v : Verdict}
    (hv : v.reason ≠ none) (switch : Nat) (r : CallRecord) : acceptRecord l switch r v s
      = addToDay v.day switch .rejected 1 (s.setLane l { s.lane l with context := some (c.countRejected r) }) := by
  obtain ⟨reason, hreason⟩ := Option.ne_none_iff_exists'.1 hv
  simp only [acceptRecord, hreason, mapContext_of_some hc]

theorem acceptRecord_of_valid {l : Fin 16} {c : FileContext} (hc : (s.lane l).context = some c) {v : Verdict}
    (hv : v.reason = none) (switch : Nat) (r : CallRecord) {evicted : State}
    (hevicted : (if s.clock.inWindow v.day = true ∧ (chooseWay s.clock s.filter (bucketOf r)).2 = true
      then addToDay v.day r.switchId .evictions 1
        (filterInsert r v.day (s.setLane l { s.lane l with context := some (c.countStored r v.day) }))
      else filterInsert r v.day (s.setLane l { s.lane l with context := some (c.countStored r v.day) })) = evicted) :
    acceptRecord l switch r v s = countStored v.day switch r.duration r.charge evicted := by
  have hevicts : insertionEvicts r v.day (s.setLane l { s.lane l with context := some (c.countStored r v.day) }) = true
      ↔ s.clock.inWindow v.day = true ∧ (chooseWay s.clock s.filter (bucketOf r)).2 = true := insertionEvicts_iff r v.day
  subst hevicted
  simp only [acceptRecord, hv, mapContext_of_some hc, hevicts]

/-- R29 steps 2 to 4: what becomes of a validated record. -/
theorem recordTaken_takeRecord {l : Fin 16} {c : FileContext} (hc : (s.lane l).context = some c) (i : BufId) (position : Nat)
    (r : CallRecord) (v : Verdict) : RecordTaken s l i position c r v (fun t => takeRecord l i position r v s = t) := by
  unfold RecordTaken
  intro counted gaps withContext
  refine ⟨fun hvalid hhit => ?_, fun hoffer => ?_⟩
  · simp only [takeRecord, hc, hvalid, Option.isNone_none, hhit, Bool.and_self, if_true]
    rw [duplicateRecord, mapContext_of_some hc]
    rfl
  · have hmiss : ¬ ((v.reason.isNone && filterHit s.clock s.filter r) = true) := by
      obtain h | h := hoffer <;> simp [h]
    have houtside {s' : State} (h : (offerRecord c r v s).state = s') : outsideEncoder s' = outsideEncoder s :=
      h ▸ outsideEncoder_offerRecord c r v s
    refine ⟨fun s' hrefused => ?_, fun s' haccepted => ⟨fun hv => ?_, fun hv => ?_⟩⟩
    · simp only [takeRecord, hc, if_neg hmiss, hrefused]
      rfl
    · have hc' : (s'.lane l).context = some c := by
        rw [lane_of_outsideEncoder (houtside (by rw [haccepted]; rfl)), hc]
      simp only [takeRecord, hc, if_neg hmiss, haccepted]
      rw [acceptRecord_of_rejected hc' hv]
      rfl
    · have hout : outsideEncoder s' = outsideEncoder s := houtside (by rw [haccepted]; rfl)
      have hc' : (s'.lane l).context = some c := by rw [lane_of_outsideEncoder hout, hc]
      have hclock := congrArg State.clock hout
      have hclock : s'.clock = s.clock := hclock
      have hfilter := congrArg State.filter hout
      have hfilter : s'.filter = s.filter := hfilter
      intro stored inserted evicted
      have hstored : s'.setLane l { s'.lane l with context := some (c.countStored r v.day) } = stored := by
        rw [FileContext.countStored, stepSequence_eq]
        rfl
      have hinserted : filterInsert r v.day (s'.setLane l { s'.lane l with context := some (c.countStored r v.day) })
          = inserted := by
        rw [hstored]
        exact filterInsert_of_same (x := stored) hclock hfilter r v.day
      simp only [takeRecord, hc, if_neg hmiss, haccepted]
      rw [acceptRecord_of_valid hc' hv c.switch r (evicted := evicted) (by rw [hinserted, hclock, hfilter])]
      rfl

theorem parseNext_of_not_parsing (h : ∀ l i position, s.parser.phase ≠ .parsing l i position) : parseNext s = s := by
  unfold parseNext
  split
  case h_1 l i position hphase => exact absurd hphase (h l i position)
  all_goals rfl

theorem parseNext_of_parsing {l : Fin 16} {i : BufId} {position : Nat} {c : FileContext} {r : CallRecord}
    (hphase : s.parser.phase = .parsing l i position) (hc : (s.lane l).context = some c)
    (hr : ((s.lane l).buf i).records[position]? = some r) :
    parseNext s = takeRecord l i position r (validate s.clock (s.bank c.bank) c.switch r)
      (s.setLane l { s.lane l with
        context := some (c.noteDay (validate s.clock (s.bank c.bank) c.switch r).day) }) := by
  simp only [parseNext, hphase, hc, hr, mapContext_of_some hc]

theorem takeUpHeld_of_waiting (h : s.stall ≠ .runningFree ∨ ∀ l i position r v, s.parser.phase ≠ .stalled l i position r v) :
    takeUpHeld s = s := by
  unfold takeUpHeld
  split
  case h_1 l i position r v hstall hphase =>
    obtain h | h := h
    · exact absurd hstall h
    · exact absurd hphase (h l i position r v)
  case h_2 => rfl

theorem takeUpHeld_of_over {l : Fin 16} {i : BufId} {position : Nat} {r : CallRecord} {v : Verdict}
    (hstall : s.stall = .runningFree) (hphase : s.parser.phase = .stalled l i position r v) :
    takeUpHeld s = takeRecord l i position r v s := by
  simp only [takeUpHeld, hstall, hphase]

end

section

/-- Settles O18: the event, the taking up of a held record, and what follows in the buffer. -/
theorem parseRecordCounts : Obligations.ParseRecordCounts := by
  refine ⟨fun s => ⟨fun h => ?_, fun l i position c r hphase hc hr => ?_⟩, fun s => ⟨takeUpHeld_of_waiting,
    fun l i position c r v hstall hphase hc => ?_⟩, fun s l i position => ?_⟩
  · exact congrArg (fun x => Host.Outcome.next (settle x)) (parseNext_of_not_parsing h)
  · intro v noted
    have hexec {t : State} (h : takeRecord l i position r v
        (s.setLane l { s.lane l with context := some noted }) = t) : exec .parseRecord s = .next (settle t) :=
      congrArg (fun x => Host.Outcome.next (settle x)) ((parseNext_of_parsing hphase hc hr).trans h)
    have hcontext : ((s.setLane l { s.lane l with context := some noted }).lane l).context = some noted := by
      rw [State.lane_setLane, if_pos rfl]
    obtain ⟨hduplicate, hoffered⟩ := recordTaken_takeRecord hcontext i position r v
    refine ⟨fun hvalid hhit => hexec (hduplicate hvalid hhit), fun hoffer => ?_⟩
    obtain ⟨hrefused, haccepted⟩ := hoffered hoffer
    refine ⟨fun s' h => hexec (hrefused s' h), fun s' h => ?_⟩
    obtain ⟨hrejected, hstored⟩ := haccepted s' h
    exact ⟨fun hv => hexec (hrejected hv), fun hv => hexec (hstored hv)⟩
  · rw [takeUpHeld_of_over hstall hphase]
    exact recordTaken_takeRecord hc i position r v
  · intro x
    refine ⟨nextRecord_of_more, fun hlast => ?_⟩
    intro back resumed finishes
    have hfinish {y : State} (h : idled (returnBuffer l i s) = y) : finishes y := by
      rw [← h]
      exact nextRecord_of_last hlast
    have hback : idled (returned s l i) = back := rfl
    have hsent : idled (sentIfUp [.laneResume l] (returned s l i)) = resumed := idled_sentIfUp (.laneResume l) (returned s l i)
    refine ⟨fun hrunning => hfinish ?_, fun hpaused hother => hfinish ?_, fun hpaused halone => hfinish ?_⟩
    · rw [returnBuffer_of_running hrunning, hback]
    · rw [returnBuffer_of_paused hpaused, resumeLane_returned, if_pos ((returned_anyPaused l i).2 hother), hsent]
    · have hempty : ¬ (returned s l i).anyPaused = true := by
        rw [returned_anyPaused]
        rintro ⟨o, hne, ho⟩
        simp [halone o hne] at ho
      have hwalkers : (sentIfUp [.laneResume l] (returned s l i)).sweeper = s.sweeper
          ∧ (sentIfUp [.laneResume l] (returned s l i)).verifier = s.verifier := by
        rw [sentIfUp_one_frame]
        exact ⟨rfl, rfl⟩
      obtain ⟨hsweeper, hverifier⟩ := hwalkers
      rw [returnBuffer_of_paused hpaused, resumeLane_returned, if_neg hempty, hsweeper, hverifier,
        Sweeper.returnFromRest_eq, Verifier.returnFromRest_eq, ← hsent]
      rfl

end

end Sys2Proof.Machine

namespace Sys2Proof.Machine

open Sys2Proof.Safety

section
variable {s : State}

/-! ### The encoder (R92 to R95) -/

theorem freeBuffer_eq_some {i : Fin 32} (hfree : (s.buffer i).state = .free)
    (hlow : ∀ j < i, (s.buffer j).state ≠ .free) : s.freeBuffer = some i := by
  refine List.find?_eq_some_iff_getElem.mpr ⟨by simp [hfree], i.val, by simp, by simp, fun j hj => ?_⟩
  have hne := hlow ⟨j, by omega⟩ hj
  simpa using hne

theorem freeBuffer_eq_none (h : ∀ i, (s.buffer i).state ≠ .free) : s.freeBuffer = none := by
  refine List.find?_eq_none.mpr fun i _ => ?_
  simpa using h i

theorem relievePressure_of_room (h : s.openSegments.length < 16) : relievePressure s = s := by
  unfold relievePressure
  split
  · rfl
  · exact if_neg (Nat.not_le.2 h)

theorem relievePressure_of_full {head : OpenSegment} {rest : List OpenSegment} (hlist : s.openSegments = head :: rest)
    (h : s.openSegments.length = 16) : relievePressure s = sealSegment head s := by
  unfold relievePressure
  rw [hlist]
  exact if_pos (by rw [← hlist, h])

/-- A seal takes an entry out of the list. -/
theorem sealSegment_room {g : OpenSegment} (hg : g ∈ s.openSegments) (h : s.openSegments.length ≤ 16) :
    (sealSegment g s).openSegments.length < 16 := (length_filter_lt_of_mem hg).trans_le h

/-- The catalog side of an opening (R93 step 3): the id leaves the free-id list, and its entry becomes OPEN. -/
def entered (k : SegmentKey) (id : Nat) (i : Fin 32) (rest : List Nat) (s : State) : State :=
  ({ s with freeIds := rest }).setEntry id { edition := (newSegment k id i s).edition, state := .opened
                                             opening := some { key := k, late := (newSegment k id i s).late } }

theorem takeResources_eq (k : SegmentKey) (id : Nat) (i : Fin 32) (rest : List Nat) (s : State) :
    takeResources k id i rest s = { entered k id i rest s with
      buffers := s.buffers.set i { state := .filling, segmentId := id, bytes := [] }
      banks := s.banks.set k.bank { s.bank k.bank with references := (s.bank k.bank).references + 1 } } := rfl

/-- R93 step 3: the segment opened, with its first record. -/
theorem appendRecord_takeResources (k : SegmentKey) (id : Nat) (i : Fin 32) (rest : List Nat) (fileSwitch : Nat)
    (r : CallRecord) (v : Verdict) (bytes : List Byte) (s : State) :
    appendRecord (newSegment k id i s) fileSwitch r v bytes (takeResources k id i rest s) = { entered k id i rest s with
      buffers := s.buffers.set i { state := .filling, segmentId := id, bytes }
      banks := s.banks.set k.bank { s.bank k.bank with references := (s.bank k.bank).references + 1 }
      openSegments := s.openSegments.filter (fun x => decide (x.segmentId ≠ id))
        ++ [{ newSegment k id i s with
          context := (newSegment k id i s).context.append r bytes, switches := recordSwitches fileSwitch r v [] }] } := by
  have hlisted : (entered k id i rest s).openSegments = s.openSegments := rfl
  have hbuffer : (newSegment k id i s).buffer = i := rfl
  have hid : (newSegment k id i s).segmentId = id := rfl
  have hswitches : (newSegment k id i s).switches = [] := rfl
  rw [takeResources_eq]
  generalize entered k id i rest s = x at hlisted
  simp only [appendRecord, State.buffer, State.setBuffer, hbuffer, hid, hswitches, hlisted, Fin.getElem_fin,
    Vector.getElem_set_self, Vector.set_set, List.nil_append]

theorem offerNew_congr {t : State} (h : relievePressure t = relievePressure s) (k : SegmentKey) (fileSwitch : Nat)
    (r : CallRecord) (v : Verdict) : offerNew k fileSwitch r v t = offerNew k fileSwitch r v s := by
  simp only [offerNew, h]

theorem stallNow_of_no_id (h : s.freeIds = []) : s.stallNow = .stalled .noId := by simp [State.stallNow, h]

theorem noteCatalogFull_freeIds (k : SegmentKey) (s : State) : (noteCatalogFull k s).freeIds = s.freeIds := by
  unfold noteCatalogFull
  split
  · exact raise_freeIds ..
  · rfl

/-- R93 steps 2 and 3, R94, R95: an opening in a list with room. -/
theorem segmentOpened_offerNew (hroom : s.openSegments.length < 16) (k : SegmentKey) (fileSwitch : Nat) (r : CallRecord)
    (v : Verdict) : SegmentOpened s k fileSwitch r v (fun o => offerNew k fileSwitch r v s = o) := by
  have hrelieved := relievePressure_of_room hroom
  refine ⟨fun id rest i hids hfree hlow => ?_, fun hids => ?_, fun hids hfull => ?_⟩
  · simp only [offerNew, hrelieved, hids, freeBuffer_eq_some hfree hlow]
    rw [appendRecord_takeResources]
    rfl
  · have hrefused : offerNew k fileSwitch r v s = .refused (stallEncoder k s) := by
      simp only [offerNew, hrelieved, hids]
    have hnow : (noteCatalogFull k s).stallNow = .stalled .noId := stallNow_of_no_id ((noteCatalogFull_freeIds k s).trans hids)
    rw [hrefused, stallEncoder]
    dsimp only
    rw [hnow]
    cases hflag : s.catalogFull with
    | true =>
      have hnoted : noteCatalogFull k s = s := by simp [noteCatalogFull, hflag]
      rw [hnoted]
      rfl
    | false =>
      have hnoted : noteCatalogFull k s = raise .catalogFull (some k.day) k.cls (s.bufferCount .free)
          (s.stateCounts[3] + s.stateCounts[7]) { s with catalogFull := true } := by
        simp [noteCatalogFull, hflag, hids, EntryState.code]
      rw [hnoted]
      rfl
  · obtain ⟨id, rest, hcons⟩ := List.exists_cons_of_ne_nil hids
    have hnone := freeBuffer_eq_none hfull
    have hnoted : noteCatalogFull k s = s := by simp [noteCatalogFull, hcons]
    have hnow : s.stallNow = .stalled .noBuffer := by simp [State.stallNow, hcons, hnone]
    simp only [offerNew, hrelieved, hcons, hnone, stallEncoder, hnoted, hnow]

theorem offerRecord_of_open {c : FileContext} {r : CallRecord} {v : Verdict} {g : OpenSegment}
    (hg : s.openSegment (keyOf c v) = some g) : offerRecord c r v s
      = if g.context.fits (encodedFor s (keyOf c v) g.context.reference v r).length
        then .accepted (appendRecord g c.switch r v (encodedFor s (keyOf c v) g.context.reference v r) s)
        else offerNew (keyOf c v) c.switch r v (sealSegment g s) := by
  simp only [offerRecord, hg]

theorem offerRecord_of_new {c : FileContext} {v : Verdict} (hnone : s.openSegment (keyOf c v) = none) (r : CallRecord) :
    offerRecord c r v s = offerNew (keyOf c v) c.switch r v s := by
  simp only [offerRecord, hnone]

end

section

/-- Settles O19: by the open segment of the key, then by the room in the list. -/
theorem encoderTakesRecord : Obligations.EncoderTakesRecord := by
  intro s c r v hbounded k opens
  obtain ⟨-, -, -, hopen⟩ := hbounded
  have hopens {x : State} (hroom : x.openSegments.length < 16) (h : offerRecord c r v s = offerNew k c.switch r v x) :
      opens x := by
    change SegmentOpened x k c.switch r v (fun o => offerRecord c r v s = o)
    rw [h]
    exact segmentOpened_offerNew hroom k c.switch r v
  refine ⟨fun g hg => ?_, fun hnone => ⟨fun hroom => hopens hroom (offerRecord_of_new hnone r), fun head rest hlist hfull => ?_⟩⟩
  · intro bytes
    have hoffer := offerRecord_of_open (r := r) hg
    have hfits : g.context.fits (encodedFor s (keyOf c v) g.context.reference v r).length = true
        ↔ g.context.recordCount ≠ 4096 ∧ g.context.bodyLength + bytes.length ≤ 65496 := by
      rw [EncodingContext.fits, Bool.and_eq_true, decide_eq_true_eq, decide_eq_true_eq]
      rfl
    refine ⟨fun h => ?_, fun h => hopens (sealSegment_room (List.mem_of_find?_eq_some hg) hopen) ?_⟩
    · rw [hoffer, if_pos (hfits.2 h)]
      rfl
    · exact hoffer.trans (if_neg (mt hfits.1 h))
  · have hroom := sealSegment_room (g := head) (by simp [hlist]) hopen
    refine hopens hroom ((offerRecord_of_new hnone r).trans (offerNew_congr ?_ k c.switch r v).symm)
    rw [relievePressure_of_room hroom, relievePressure_of_full hlist hfull]

end

end Sys2Proof.Machine

namespace Sys2Proof.Machine

open Sys2Proof.Safety

section

/-! ### Fields of a run of bytes -/

/-- A number written first is read at offset 0. -/
theorem fieldAt_toBytes {n v : Nat} (h : v < 256 ^ n) (rest : List Byte) : fieldAt (toBytes n v ++ rest) 0 n = v := by
  rw [fieldAt, List.drop_zero, List.take_left' (toBytes_length n v), ofBytes_toBytes h]

/-- Bytes before the field are passed over. -/
theorem fieldAt_append {xs : List Byte} {offset : Nat} (h : xs.length ≤ offset) (rest : List Byte) (n : Nat) :
    fieldAt (xs ++ rest) offset n = fieldAt rest (offset - xs.length) n := by
  rw [fieldAt, fieldAt, List.drop_append, List.drop_eq_nil_of_le h, List.nil_append]

theorem fieldAt_toBytes_append {m w offset : Nat} (h : m ≤ offset) (rest : List Byte) (n : Nat) :
    fieldAt (toBytes m w ++ rest) offset n = fieldAt rest (offset - m) n := by
  rw [fieldAt_append (by rwa [toBytes_length]), toBytes_length]

end

section
variable {key : SegmentKey} {id edition : Nat} {late : Bool} {c : EncodingContext}

/-! ### The segment header (R86, section 12.5) -/

theorem headerBytes_length : (headerBytes key id edition late c).length = 40 := by
  simp [headerBytes]

/-- The fields of the header at their offsets, each within its range. -/
theorem fieldAt_header (body : List Byte) :
    let image := headerBytes key id edition late c ++ body
    fieldAt image 0 2 = 0xA5C3 ∧ fieldAt image 2 1 = 1
    ∧ (key.cls < 256 → fieldAt image 3 1 = key.cls)
    ∧ (id < 16777216 → fieldAt image 4 3 = id)
    ∧ (edition < 256 → fieldAt image 7 1 = edition)
    ∧ fieldAt image 8 1 = (if late then 1 else 0)
    ∧ fieldAt image 9 1 = key.bank.val
    ∧ (key.day < 65536 → fieldAt image 10 2 = key.day)
    ∧ (key.generation < 4294967296 → fieldAt image 12 4 = key.generation)
    ∧ (c.recordCount < 4294967296 → fieldAt image 16 4 = c.recordCount)
    ∧ (c.bodyLength < 4294967296 → fieldAt image 20 4 = c.bodyLength)
    ∧ (checkOf (c.checkA, c.checkB) < 4294967296 → fieldAt image 24 4 = checkOf (c.checkA, c.checkB))
    ∧ (c.firstStart.getD 0 < 4294967296 → fieldAt image 28 4 = c.firstStart.getD 0)
    ∧ (c.lastStart.getD 0 < 4294967296 → fieldAt image 32 4 = c.lastStart.getD 0)
    ∧ (c.durationSum < 4294967296 → fieldAt image 36 4 = c.durationSum) := by
  intro image
  simp only [image, headerBytes, List.append_assoc]
  refine ⟨fieldAt_toBytes (by decide) _, ?_, fun h => ?_, fun h => ?_, fun h => ?_, ?_, ?_, fun h => ?_, fun h => ?_, fun h => ?_, fun h => ?_, fun h => ?_,
    fun h => ?_, fun h => ?_, fun h => ?_⟩ <;> simp (disch := decide) only [fieldAt_toBytes_append, Nat.reduceSub]
  · exact fieldAt_toBytes (by decide) _
  · exact fieldAt_toBytes h _
  · exact fieldAt_toBytes h _
  · exact fieldAt_toBytes h _
  · cases late <;> exact fieldAt_toBytes (by decide) _
  · exact fieldAt_toBytes (key.bank.isLt.trans (by decide)) _
  · exact fieldAt_toBytes h _
  · exact fieldAt_toBytes h _
  · exact fieldAt_toBytes h _
  · exact fieldAt_toBytes h _
  · exact fieldAt_toBytes h _
  · exact fieldAt_toBytes h _
  · exact fieldAt_toBytes h _
  · exact fieldAt_toBytes h _

end

section
variable {s : State}

/-! ### Seals (R96, R99) -/

theorem sealSegment_eq (g : OpenSegment) (s : State) : sealSegment g s =
    { s.setEntry g.segmentId { s.entry g.segmentId with
        state := .writing, figures := some (sealFigures (s.bank g.key.bank) g) } with
      buffers := s.buffers.set g.buffer { s.buffer g.buffer with
        state := .sealed
        bytes := headerBytes g.key g.segmentId g.edition g.late g.context ++ (s.buffer g.buffer).bytes }
      openSegments := s.openSegments.filter (fun x => decide (x.segmentId ≠ g.segmentId))
      writeQueue := s.writeQueue ++ [g.segmentId] } := rfl

/-- An image that passes HEADER and CHECK is decided by its records (R166). -/
theorem checkImage_of_sound {bank : Bank} {id edition : Nat} {o : Opening} {f : Figures} {image : List Byte} {overlong : Bool}
    (hheader : headerOk id edition o f image overlong = true) (hcheck : checkValue (image.drop 40) = f.checkValue) :
    checkImage bank id edition o f image overlong = if bank.holdsGeneration o.key.generation
      then checkDecoded bank.dictionary o.key.cls f (image.drop 40) else { result := .checkOnlyOk } := by
  have hvalue : ¬ checkValue (image.drop Config.headerLength) ≠ f.checkValue := not_not_intro hcheck
  rw [checkImage, if_neg (by simp [hheader]), if_neg hvalue]

theorem checkDecoded_result (dictionary : NMap (List Nat)) (cls : Nat) (f : Figures) (body : List Byte) :
    (checkDecoded dictionary cls f body).result ≠ .damaged .header
    ∧ (checkDecoded dictionary cls f body).result ≠ .damaged .check := by
  unfold checkDecoded
  dsimp only
  split
  · simp
  · split
    · simp
    · split <;> simp

theorem sealDeadline_of_none {id : Nat} (h : ∀ g ∈ s.openSegments, g.segmentId ≠ id) : sealDeadline id s = s := by
  have hnone : s.openSegments.find? (fun g => decide (g.segmentId = id)) = none := by simpa using h
  simp only [sealDeadline, hnone]

theorem find?_openSegment {earlier later : List OpenSegment} {g : OpenSegment} {id : Nat} (hg : g.segmentId = id)
    (hothers : ∀ x ∈ earlier, x.segmentId ≠ id) :
    (earlier ++ g :: later).find? (fun x => decide (x.segmentId = id)) = some g := by
  have hnone : earlier.find? (fun x => decide (x.segmentId = id)) = none := by simpa using hothers
  simp [List.find?_append, hnone, hg]

theorem contextOf_append {c : EncodingContext} {body : List Byte} (h : ContextOf c body) (r : CallRecord)
    (bytes : List Byte) : ContextOf (c.append r bytes) (body ++ bytes) := by
  obtain ⟨hlength, hterms⟩ := h
  refine ⟨?_, ?_⟩
  · rw [List.length_append, ← hlength]
    rfl
  · rw [checkTerms_append, hterms]
    rfl

end

section

/-- Settles O20: the seal and its image, the contexts, and the deadline. -/
theorem sealTimeoutSealsSegment : Obligations.SealTimeoutSealsSegment := by
  refine ⟨fun s g => ?_, ⟨rfl, rfl⟩, fun c body r bytes h => contextOf_append h r bytes, fun s id => ⟨fun h => ?_,
    fun earlier g later hlist hg hothers => ⟨fun hearly => ?_, fun hreached => ?_⟩⟩⟩
  · intro c figures body image
    refine ⟨sealSegment_eq g s, fun hsound => ?_⟩
    obtain ⟨hcls, hid, hedition, hday, hgeneration, hcount, hlength, hfirst, hlast, hduration, hbody, hterms⟩ := hsound
    have hstart {t : Option Nat} (h : ∀ x ∈ t, x ≤ max32) : t.getD 0 < 4294967296 := by
      cases t with
      | none => exact Nat.succ_pos _
      | some x => exact Nat.lt_succ_of_le (h x rfl)
    have hcheck : checkValue body = checkOf (c.checkA, c.checkB) := congrArg checkOf hterms
    obtain ⟨fmarker, fformat, fcls, fid, fedition, flate, fbank, fday, fgeneration, fcount, flength, fcheck, ffirst, flast,
      fduration⟩ := fieldAt_header (key := g.key) (id := g.segmentId) (edition := g.edition) (late := g.late) (c := c) body
    have fcls := fcls (by omega)
    have fid := fid (hid.trans (by decide))
    have fedition := fedition (by omega)
    have fday := fday (Nat.lt_succ_of_le hday)
    have fcount := fcount (lt_of_le_of_lt hcount (by decide))
    have flength := flength (lt_of_le_of_lt hlength (by decide))
    have fcheck := fcheck (hcheck ▸ checkValue_lt body)
    have himage : image.length = 40 + body.length := by rw [List.length_append, headerBytes_length]
    have hdrop : image.drop 40 = body := List.drop_left' headerBytes_length
    refine ⟨himage, hdrop, fmarker, fformat, fcls, fid, fedition, flate, fbank, fday, fgeneration (Nat.lt_succ_of_le hgeneration),
      fcount, flength, fcheck.trans hcheck.symm, ffirst (hstart hfirst), flast (hstart hlast),
      fduration (Nat.lt_succ_of_le hduration), fun bank => ?_⟩
    intro checked
    have hheader : headerOk g.segmentId g.edition { key := g.key, late := g.late } figures image false = true := by
      have hwhole : image.length = 40 + fieldAt image 20 4 := by rw [himage, flength, hbody]
      have hlong : 40 ≤ image.length := himage ▸ Nat.le_add_right ..
      simp only [headerOk, Bool.and_eq_true, decide_eq_true_eq, Bool.not_false, true_and]
      exact ⟨⟨⟨⟨⟨⟨⟨⟨⟨hlong, hwhole⟩, fmarker⟩, fformat⟩, fid⟩, fedition⟩, fcls⟩, fday⟩, fcount⟩, flength⟩
    have hchecked : checked = _ := checkImage_of_sound hheader (by rw [hdrop, hcheck]; rfl)
    rw [hchecked]
    split
    · exact checkDecoded_result ..
    · simp
  · exact congrArg (fun x => Host.Outcome.next (settle x)) (sealDeadline_of_none h)
  · have hfound : s.openSegments.find? (fun x => decide (x.segmentId = id)) = some g := hlist ▸ find?_openSegment hg hothers
    refine congrArg (fun x => Host.Outcome.next (settle x)) ?_
    simp only [sealDeadline, hfound, hearly, Bool.false_eq_true, if_false]
  · have hfound : s.openSegments.find? (fun x => decide (x.segmentId = id)) = some g := hlist ▸ find?_openSegment hg hothers
    refine congrArg (fun x => Host.Outcome.next (settle x)) ?_
    simp only [sealDeadline, hfound, hreached, if_true]

end

end Sys2Proof.Machine

namespace Sys2Proof.Machine

open Sys2Proof.Safety

section

/-! ### The checks of an image (R166) -/

/-- The HEADER test, field by field. -/
theorem headerOk_iff {id edition : Nat} {o : Opening} {f : Figures} {image : List Byte} {overlong : Bool} :
    headerOk id edition o f image overlong = true ↔ overlong = false ∧ 40 ≤ image.length
      ∧ image.length = 40 + fieldAt image 20 4 ∧ fieldAt image 0 2 = 0xA5C3 ∧ fieldAt image 2 1 = 1 ∧ fieldAt image 4 3 = id
      ∧ fieldAt image 7 1 = edition ∧ fieldAt image 3 1 = o.key.cls ∧ fieldAt image 10 2 = o.key.day
      ∧ fieldAt image 16 4 = f.recordCount ∧ fieldAt image 20 4 = f.bodyLength := by
  simp only [headerOk, Bool.and_eq_true, decide_eq_true_eq, Bool.not_eq_true', and_assoc]

theorem holdsGeneration_iff {b : Bank} {g : Nat} : b.holdsGeneration g = true ↔
    b.generation = some g ∧ (b.state = .ready ∨ b.state = .active ∨ b.state = .draining) := by
  unfold Bank.holdsGeneration
  cases b.state <;> simp

section
variable {bank : Bank} {id edition : Nat} {o : Opening} {f : Figures} {image : List Byte} {overlong : Bool}

theorem checkImage_of_bad_header (h : ¬ headerOk id edition o f image overlong = true) :
    checkImage bank id edition o f image overlong = { result := .damaged .header } := by
  rw [checkImage, if_pos (by simpa using h)]

theorem checkImage_of_bad_check (hheader : headerOk id edition o f image overlong = true)
    (h : ¬ checkValue (image.drop 40) = f.checkValue) :
    checkImage bank id edition o f image overlong = { result := .damaged .check } := by
  have hvalue : checkValue (image.drop Config.headerLength) ≠ f.checkValue := h
  rw [checkImage, if_neg (by simp [hheader]), if_pos hvalue]

/-- The comparison of the decoded records with the figures, in its order. -/
theorem checkDecoded_eq (dictionary : NMap (List Nat)) (cls : Nat) (f : Figures) (body : List Byte) :
    checkDecoded dictionary cls f body =
      if (decodeBody dictionary cls body).malformed = true then
        { result := .damaged .decode, whole := (decodeBody dictionary cls body).records.length }
      else if (decodeBody dictionary cls body).records.length ≠ f.recordCount then { result := .damaged .count }
      else if ((decodeBody dictionary cls body).records.map CallRecord.duration).sum % 4294967296 ≠ f.durationSum then
        { result := .damaged .duration }
      else { result := .fullOk } := rfl

end

section
variable {s : State} {id : Nat} {o : Opening} {f : Figures}

theorem verifyImage_eq (ho : (s.entry id).opening = some o) (hf : (s.entry id).figures = some f) (image : List Byte)
    (overlong : Bool) : verifyImage id image overlong s =
      verificationResult id (checkImage (s.bank o.key.bank) id (s.entry id).edition o f image overlong) s := by
  simp only [verifyImage, ho, hf]

end

/-- Settles O28: the tests in their order, each by the one before it, and the outcome of each result. -/
theorem imageCheckedInOrder : Obligations.ImageCheckedInOrder := by
  refine ⟨fun bank id edition o f image overlong => ?_, fun s id image overlong o f => ?_⟩
  · intro body header check held decoded sum checked
    have hgood (h : header) : headerOk id edition o f image overlong = true := headerOk_iff.mpr h
    have hdecoded (hh : header) (hc : check) (hg : held) : checked = checkDecoded bank.dictionary o.key.cls f body :=
      (checkImage_of_sound (hgood hh) hc).trans (if_pos (holdsGeneration_iff.mpr hg))
    refine ⟨fun hh => checkImage_of_bad_header (fun h => hh (headerOk_iff.mp h)), fun hh hc => checkImage_of_bad_check (hgood hh) hc,
      fun hh hc hg => (checkImage_of_sound (hgood hh) hc).trans (if_neg (fun h => hg (holdsGeneration_iff.mp h))),
      fun hh hc hg => ⟨fun hm => ?_, fun hm => ?_⟩⟩
    · rw [hdecoded hh hc hg, checkDecoded_eq]
      exact if_pos hm
    · have hwhole : ¬ (decodeBody bank.dictionary o.key.cls body).malformed = true := by
        simpa using hm
      rw [hdecoded hh hc hg, checkDecoded_eq, if_neg hwhole]
      refine ⟨fun hcount => if_pos hcount, fun hcount => ?_⟩
      rw [if_neg (not_not_intro hcount)]
      exact ⟨fun hsum => if_pos hsum, fun hsum => if_neg (not_not_intro hsum)⟩
  · intro e hstate ho hf checked stored counts rested
    rw [verifyImage_eq ho hf]
    refine ⟨fun h => ?_, fun h => ?_, fun reason h => ?_⟩
    · rw [verificationResult_of_sound hstate hf (.inl h)]
      have hresult : (checkImage (s.bank o.key.bank) id (s.entry id).edition o f image overlong).result = .fullOk := h
      simp only [stored, checked, e, hresult]
      rfl
    · rw [verificationResult_of_sound hstate hf (.inr h)]
      have hresult : (checkImage (s.bank o.key.bank) id (s.entry id).edition o f image overlong).result = .checkOnlyOk := h
      simp only [stored, checked, e, hresult]
      rfl
    · have hchecked : checked = { result := .damaged reason, whole := checked.whole } := by
        rw [← h]
      intro code
      rw [show checkImage (s.bank o.key.bank) id (s.entry id).edition o f image overlong = _ from hchecked,
        verificationResult_of_damaged hstate hf]
      simp only [stored, h]
      cases reason <;> rfl

end

section

/-! ### The parts of an image (R127) -/

/-- A run of bytes cut into parts of 16,384 bytes, the last with what is left. -/
def partsOf : Nat → List Byte → List (List Byte)
  | 0, _ => []
  | fuel + 1, bytes =>
    if bytes.length ≤ 16384 then [bytes] else bytes.take 16384 :: partsOf fuel (bytes.drop 16384)

/-- What a cut of `bytes` bytes, at least one, keeps. -/
theorem partsOf_sound (fuel : Nat) (bytes : List Byte) (hpos : 1 ≤ bytes.length) (hfuel : bytes.length ≤ 16384 * fuel) :
    (partsOf fuel bytes).flatten = bytes ∧ (partsOf fuel bytes).length = (bytes.length + 16383) / 16384
    ∧ ∀ k bs, (partsOf fuel bytes)[k]? = some bs →
      1 ≤ bs.length ∧ bs.length ≤ 16384 ∧ (k + 1 < (partsOf fuel bytes).length → bs.length = 16384) := by
  induction fuel generalizing bytes with
  | zero => omega
  | succ fuel ih =>
    rw [partsOf]
    split
    next hshort =>
      refine ⟨by simp, by simp only [List.length_singleton]; omega, fun k bs hk => ?_⟩
      obtain ⟨rfl, rfl⟩ : k = 0 ∧ bytes = bs := by
        cases k <;> simp at hk ⊢
        exact hk
      exact ⟨hpos, hshort, fun h => absurd h (by simp)⟩
    next hlong =>
      have hrest : (bytes.drop 16384).length = bytes.length - 16384 := List.length_drop
      obtain ⟨hflat, hcount, hparts⟩ := ih (bytes.drop 16384) (by omega) (by omega)
      have hfirst : (bytes.take 16384).length = 16384 := List.length_take_of_le (by omega)
      refine ⟨by rw [List.flatten_cons, hflat, List.take_append_drop], by rw [List.length_cons, hcount]; omega, fun k bs hk => ?_⟩
      cases k with
      | zero =>
        obtain rfl : bytes.take 16384 = bs := by simpa using hk
        rw [hfirst]
        exact ⟨by decide, le_rfl, fun _ => rfl⟩
      | succ k =>
        obtain ⟨hone, hmax, hfull⟩ := hparts k bs (by simpa using hk)
        exact ⟨hone, hmax, fun h => hfull (by simpa using h)⟩

theorem partsOf_ne_nil (fuel : Nat) (bytes : List Byte) : partsOf (fuel + 1) bytes ≠ [] := by
  rw [partsOf]
  split <;> simp

/-- The frames of an image carry its parts in order, the last with the marker. -/
theorem partsFrom_eq (t : Fin 8) (id edition : Nat) (fuel part : Nat) (bytes : List Byte)
    (hpos : 1 ≤ bytes.length) (hfuel : bytes.length ≤ 16384 * fuel) :
    partsFrom t id edition fuel part bytes = (partsOf fuel bytes).mapIdx
      (fun k bs => .segmentWrite t id edition (part + k) (decide (k + 1 = (partsOf fuel bytes).length)) bs) := by
  induction fuel generalizing part bytes with
  | zero => rfl
  | succ fuel ih =>
    rw [partsFrom, partsOf]
    by_cases hshort : bytes.length ≤ 16384
    · rw [if_pos hshort, if_pos (show bytes.length ≤ Config.partLimit from hshort)]
      rfl
    · have hrest : (bytes.drop 16384).length = bytes.length - 16384 := List.length_drop
      have hsome : partsOf fuel (bytes.drop 16384) ≠ [] := by
        obtain _ | fuel := fuel
        · omega
        · exact partsOf_ne_nil fuel _
      have hmany : 0 < (partsOf fuel (bytes.drop 16384)).length := List.length_pos_iff.mpr hsome
      rw [if_neg hshort, if_neg (show ¬ bytes.length ≤ Config.partLimit from hshort), List.mapIdx_cons, List.length_cons]
      have hfirst : decide (0 + 1 = (partsOf fuel (bytes.drop 16384)).length + 1) = false := decide_eq_false (by omega)
      have hlater : partsFrom t id edition fuel (part + 1) (bytes.drop Config.partLimit) = _ :=
        ih (part + 1) (bytes.drop 16384) (by omega) (by omega)
      rw [hfirst, hlater]
      refine congrArg (_ :: ·) (congrArg (List.mapIdx · _) (funext fun k => funext fun bs => ?_))
      simp only [Nat.add_left_inj, Nat.add_assoc part, Nat.add_comm 1]

/-- Settles O27, with the cut `partsOf` as the parts. -/
theorem imagePartsRejoin : Obligations.ImagePartsRejoin := by
  intro t id edition image hpos hmax
  have hfuel : image.length ≤ 16384 * 4 := hmax
  obtain ⟨hflat, hcount, hparts⟩ := partsOf_sound 4 image hpos hfuel
  refine ⟨partsOf 4 image, hflat, hcount, hparts, ?_⟩
  rw [writeFrames, partsFrom_eq t id edition 4 0 image hpos hfuel]
  simp only [Nat.zero_add]

end

end Sys2Proof.Machine

namespace Sys2Proof.Machine

open Sys2Proof.Safety

section
variable {s : State}

/-! ### The FREE tag and the requesters (R125, R126) -/

theorem freeTag_of_first {k : Fin 8} (hheld : ∀ j < k, s.tag (s.lastTag + 1 + j) ≠ none)
    (hfree : s.tag (s.lastTag + 1 + k) = none) : s.freeTag = some (s.lastTag + 1 + k) := by
  have hsplit : (List.finRange 8).take k.val ++ k :: (List.finRange 8).drop (k.val + 1) = List.finRange 8 := by
    have := List.take_append_drop k.val (List.finRange 8)
    rwa [List.drop_eq_getElem_cons (by simp), List.getElem_finRange] at this
  have hnone : ((List.finRange 8).take k.val).find? (fun j => (s.tag (s.lastTag + 1 + j)).isNone) = none := by
    refine List.find?_eq_none.mpr fun j hj => ?_
    obtain ⟨n, hn, rfl⟩ := List.mem_take_iff_getElem.mp hj
    rw [List.getElem_finRange]
    have hlt : n < k.val := lt_of_lt_of_le hn (Nat.min_le_left ..)
    simpa [Option.isNone_iff_eq_none] using hheld ⟨n, hlt.trans k.isLt⟩ hlt
  have hfirst : (List.finRange 8).find? (fun j => (s.tag (s.lastTag + 1 + j)).isNone) = some k := by
    rw [← hsplit, List.find?_append, hnone, Option.none_or, List.find?_cons_of_pos (by simp [hfree])]
  rw [State.freeTag, List.find?_map, show ((fun t => (s.tag t).isNone) ∘ fun j => s.lastTag + 1 + j)
    = fun j => (s.tag (s.lastTag + 1 + j)).isNone from rfl, hfirst, Option.map_some]

theorem freeTag_of_none (h : ∀ g, s.tag g ≠ none) : s.freeTag = none := by
  refine List.find?_eq_none.mpr fun g _ => ?_
  simpa [Option.isNone_iff_eq_none] using h g

theorem freeTag_eq_none (h : s.freeTag = none) (g : Fin 8) : s.tag g ≠ none := by
  have hnone := List.find?_eq_none.mp h g (List.mem_map.mpr ⟨g - (s.lastTag + 1), List.mem_finRange _, by abel⟩)
  simpa [Option.isNone_iff_eq_none] using hnone

theorem sweeperWaits_iff : sweeperWaits s = true ↔
    s.sweeper.phase = .running ∧ s.sweeper.suspended = false ∧ s.tagsHeld .delete < 4 := by
  simp only [sweeperWaits, Bool.and_eq_true, decide_eq_true_eq, Bool.not_eq_true', and_assoc, Config.sweeperTagLimit]

theorem verifierWaits_iff : verifierWaits s = true ↔ s.verifier.phase = .running ∧ s.tagsHeld .read = 0 := by
  simp only [verifierWaits, Bool.and_eq_true, decide_eq_true_eq, Config.verifierTagLimit, Nat.lt_one_iff]

theorem sendStore_of_up (fs : List StoreFrame) {x : State} (h : x.store.up = true) : sendStore fs x = sentStore fs x :=
  sendStore_up x fs h

/-! ### One grant (R125 to R128) -/

theorem grantOne_of_no_tag (h : s.freeTag = none) : grantOne s = none := by
  unfold grantOne
  split
  · rfl
  · rw [h]

section
variable {g : Fin 8} (hup : s.store.up = true) (hfree : s.freeTag = some g)
include hup hfree

theorem grantOne_of_queue {id : Nat} {rest : List Nat} (hqueue : s.writeQueue = id :: rest) :
    grantOne s = some (sendWrite g id rest s) := by
  simp only [grantOne, hup, hfree, hqueue, Bool.not_true, Bool.false_eq_true, if_false]

variable (hqueue : s.writeQueue = [])
include hqueue

theorem grantOne_of_unasked (hsweep : ¬ sweeperWaits s = true) (hverify : ¬ verifierWaits s = true) : grantOne s = none := by
  simp only [grantOne, hup, hfree, hqueue, hsweep, hverify, Bool.not_true, Bool.false_eq_true, if_false]

theorem grantOne_of_sweeper (hsweep : sweeperWaits s = true) (hturn : verifierWaits s = true → s.turn = .sweeper) :
    grantOne s = some (sweepExamine g s) := by
  cases hverify : verifierWaits s with
  | false => simp only [grantOne, hup, hfree, hqueue, hsweep, hverify, Bool.not_true, Bool.false_eq_true, if_false]
  | true => simp only [grantOne, hup, hfree, hqueue, hsweep, hverify, hturn hverify, Bool.not_true, Bool.false_eq_true, if_false,
      if_true]

theorem grantOne_of_verifier (hverify : verifierWaits s = true) (hturn : sweeperWaits s = true → s.turn = .verifier) :
    grantOne s = some (verifyExamine g s) := by
  cases hsweep : sweeperWaits s with
  | false => simp only [grantOne, hup, hfree, hqueue, hsweep, hverify, Bool.not_true, Bool.false_eq_true, if_false]
  | true => simp only [grantOne, hup, hfree, hqueue, hsweep, hverify, hturn hsweep, Bool.not_true, Bool.false_eq_true, if_false,
      reduceCtorEq]

end

/-- When nothing more is granted: the link is DOWN, no tag is FREE, or nothing waits. -/
theorem grantOne_eq_none (h : grantOne s = none) :
    s.store.up = false ∨ (∀ tag, s.tag tag ≠ none)
      ∨ (s.writeQueue = [] ∧ sweeperWaits s = false ∧ verifierWaits s = false) := by
  cases hup : s.store.up with
  | false => exact .inl rfl
  | true =>
    cases hfree : s.freeTag with
    | none => exact .inr (.inl (freeTag_eq_none hfree))
    | some g =>
      cases hqueue : s.writeQueue with
      | cons id rest => rw [grantOne_of_queue hup hfree hqueue] at h; exact absurd h (by simp)
      | nil =>
        cases hsweep : sweeperWaits s <;> cases hverify : verifierWaits s <;>
          simp [grantOne, hup, hfree, hqueue, hsweep, hverify] at h ⊢

/-! ### Grants one after another (R125) -/

/-- With enough grants to spare, one more changes nothing. -/
theorem grantMany_of_enough {m n : Nat} (hm : grantsLeft s ≤ m) (hn : grantsLeft s ≤ n) : grantMany m s = grantMany n s := by
  induction m generalizing s n with
  | zero =>
    cases hone : grantOne s with
    | none => rw [grantMany_of_none _ hone, grantMany_of_none _ hone]
    | some t => have := grantsLeft_grantOne hone; omega
  | succ m ih =>
    cases hone : grantOne s with
    | none => rw [grantMany_of_none _ hone, grantMany_of_none _ hone]
    | some t =>
      have hless := grantsLeft_grantOne hone
      obtain ⟨n, rfl⟩ : ∃ n', n = n' + 1 := ⟨n - 1, by omega⟩
      simp only [grantMany, hone]
      exact ih (by omega) (by omega)

theorem arbitrate_of_some {t : State} (h : grantOne s = some t) : arbitrate s = arbitrate t := by
  have hbound : grantsLeft s ≤ grantBound + 1 := (grantsLeft_le s).trans (Nat.le_succ _)
  rw [arbitrate, grantMany_of_enough (grantsLeft_le s) hbound, grantMany]
  simp only [h]
  rfl

end

section
variable {s : State}

/-! ### The verifier's examination (R165) -/

/-- The end of an examination: the next entry, or VERIFY_DONE and IDLE. -/
theorem advanceVerify_eq (x : State) : advanceVerify x = if x.verifier.cursor + 1 < 262144 then
      x.withVerifier { x.verifier with cursor := x.verifier.cursor + 1 }
    else (raise .verifyDone x.clock.currentDay (countPair x.verifier.counts.examined x.verifier.counts.fullOk)
      (countPair x.verifier.counts.checkOnly x.verifier.counts.damaged)
      (countPair x.verifier.counts.busy x.verifier.counts.failed) x).withVerifier
        { x.verifier with cursor := 0, phase := .idle, restExpiry := none } := by
  unfold advanceVerify
  split
  · rfl
  · have hdone : raiseVerifyDone { x with verifier := { x.verifier with cursor := 0 } } = _ := raise_withVerifier ..
    dsimp only
    rw [hdone]
    rfl

theorem grantRead_of_up (g : Fin 8) (id : Nat) (h : s.store.up = true) : grantRead g id s =
    { sentStore [.segmentRead g id (s.entry id).edition] (grantTag g .read id (s.entry id).edition (s.moveEntry id .verifying)) with
      turn := .sweeper, verifier := { s.verifier with readBuffer := [] } } := by
  have hsent : (grantTag g .read id (s.entry id).edition (s.moveEntry id .verifying)).store.up = true := h
  rw [grantRead, sendStore_of_up _ hsent]
  rfl

theorem verifyExamine_eq {g : Fin 8} {a : VerifyAnswer} (ha : verifyTest s.params.verifyScope (s.entry s.verifier.cursor) = a) :
    verifyExamine g s = advanceVerify (if a = .granted then
      grantRead g s.verifier.cursor (s.mapVerifyCounts (fun c => c.addAnswer a)) else s.mapVerifyCounts (fun c => c.addAnswer a)) := by
  subst ha
  rfl

/-- R165: the tests of an entry, each by the state that fails it. -/
theorem verifyTest_of_claimed {e : CatalogEntry} (h : e.state = .verifying ∨ e.state = .deleting) (scope : VerifyScope) :
    verifyTest scope e = .busy := by
  obtain h | h := h <;> simp [verifyTest, h]

theorem verifyTest_of_unstored {e : CatalogEntry} (hverifying : e.state ≠ .verifying) (hdeleting : e.state ≠ .deleting)
    (hstored : e.state ≠ .stored) (scope : VerifyScope) : verifyTest scope e = .notStored := by
  cases h : e.state <;> simp_all [verifyTest]

theorem verifyTest_of_stored {e : CatalogEntry} (hstored : e.state = .stored) (scope : VerifyScope) :
    verifyTest scope e = if scope = .unverified ∧ e.verifyResult ≠ .none then .outOfScope else .granted := by
  simp only [verifyTest, hstored]

theorem verifyResult_ne_none_iff {e : CatalogEntry} : e.verifyResult ≠ .none ↔ ∃ f, e.figures = some f ∧ f.verify ≠ .none := by
  unfold CatalogEntry.verifyResult
  cases e.figures <;> simp

end

section

/-- Settles O29: the arbiter's end by the falling bound `grantsLeft`, one grant and one examination case by case. -/
theorem arbiterLeavesNothingToGrant : Obligations.ArbiterLeavesNothingToGrant := by
  intro s
  refine ⟨⟨grantOne_eq_none (grantsTaken_arbitrate s), arbitrate_frame s⟩, arbitrate_of_none, fun x h => arbitrate_of_some h,
    fun h => ?_, fun k hup hheld hfree => ?_⟩
  · obtain hdown | hheld := h
    · exact grantOne_of_down hdown
    · exact grantOne_of_no_tag (freeTag_of_none hheld)
  · intro g given held sweeps verifies
    have htag : s.freeTag = some g := freeTag_of_first hheld hfree
    have hsweeps : sweeperWaits s = true ↔ sweeps := sweeperWaits_iff
    have hverifies : verifierWaits s = true ↔ verifies := verifierWaits_iff
    refine ⟨fun id rest i hqueue hbuffer => ?_, fun hqueue => ⟨fun hs hv => ?_, fun hs hturn => ?_, fun hv hturn => ?_⟩, ?_⟩
    · have himage : s.imageOf id = (s.buffer i).bytes := by rw [State.imageOf, hbuffer]; rfl
      rw [grantOne_of_queue hup htag hqueue, sendWrite, himage]
      exact congrArg some (sendStore_of_up _ hup)
    · exact grantOne_of_unasked hup htag hqueue (hsweeps.not.mpr hs) (hverifies.not.mpr hv)
    · exact grantOne_of_sweeper hup htag hqueue (hsweeps.mpr hs) (fun hv => hturn (hverifies.mp hv))
    · exact grantOne_of_verifier hup htag hqueue (hverifies.mpr hv) (fun hs => hturn (hsweeps.mp hs))
    · intro id e c counted passes
      refine ⟨fun hclaimed => ?_, fun hverifying hdeleting hstored => ?_, ?_⟩
      · exact (verifyExamine_eq (verifyTest_of_claimed hclaimed _)).trans (advanceVerify_eq _)
      · exact (verifyExamine_eq (verifyTest_of_unstored hverifying hdeleting hstored _)).trans (advanceVerify_eq _)
      · intro outside
        have houtside : s.params.verifyScope = .unverified ∧ e.verifyResult ≠ .none ↔ outside :=
          and_congr_right fun _ => verifyResult_ne_none_iff
        refine ⟨fun hstored hout => ?_, fun hstored hin => ?_⟩
        · exact (verifyExamine_eq ((verifyTest_of_stored hstored _).trans (if_pos (houtside.mpr hout)))).trans (advanceVerify_eq _)
        · refine (verifyExamine_eq ((verifyTest_of_stored hstored _).trans (if_neg (houtside.not.mpr hin)))).trans ?_
          rw [if_pos rfl, grantRead_of_up (s := s.mapVerifyCounts _) g _ hup]
          exact advanceVerify_eq _

end

end Sys2Proof.Machine

namespace Sys2Proof.Machine

open Sys2Proof.Safety

section
variable {s : State}

/-! ### The sweeper's examination (R137, R138, R140) -/

/-- The state with another sweeper. -/
def State.withSweeper (s : State) (w : Sweeper) : State := { s with sweeper := w }

theorem raise_withSweeper (k : ReportKind) (u : Option Nat) (a b c : Nat) (w : Sweeper) (s : State) :
    raise k u a b c (s.withSweeper w) = (raise k u a b c s).withSweeper w := by
  unfold State.withSweeper raise raiseOn
  dsimp only
  split <;> rfl

/-- The sweeper past the last id: IDLE, or in another pass. -/
def sweeperAfterPass (paused another : Bool) (w : Sweeper) : Sweeper :=
  if another = false then { w with cursor := 0, phase := .idle, restExpiry := none }
  else if paused = true then
    { w with cursor := 0, anotherPass := false, counts := {}, phase := .extendedRest, restExpiry := none }
  else { w with cursor := 0, anotherPass := false, counts := {} }

theorem nextPass_eq (paused : Bool) (w : Sweeper) :
    nextPass paused { w with cursor := 0 } = sweeperAfterPass paused w.anotherPass w := by
  unfold nextPass sweeperAfterPass
  cases w.anotherPass <;> cases paused <;> rfl

theorem sweeperAfterPass_suspended (paused another : Bool) (w : Sweeper) :
    (sweeperAfterPass paused another w).suspended = w.suspended := by
  unfold sweeperAfterPass
  cases another <;> cases paused <;> rfl

/-- The end of an examination of entry `id`: the next entry, or SWEEP_DONE and what follows the pass. -/
theorem advanceSweep_eq {x : State} {id : Nat} {another : Bool} (hclock : x.clock = s.clock) (hlanes : x.lanes = s.lanes)
    (hcursor : x.sweeper.cursor = id) (hanother : x.sweeper.anotherPass = another) : advanceSweep x =
    if id + 1 < 262144 then x.withSweeper { x.sweeper with cursor := id + 1 }
    else (raise .sweepDone s.clock.currentDay (countPair x.sweeper.counts.examined x.sweeper.counts.deleted)
      (countPair x.sweeper.counts.held x.sweeper.counts.busy)
      (countPair x.sweeper.counts.notYetExpired x.sweeper.counts.failed) x).withSweeper
        (sweeperAfterPass s.anyPaused another x.sweeper) := by
  rw [← hclock, ← anyPaused_of_lanes hlanes, ← hcursor, ← hanother]
  unfold advanceSweep
  split
  · rfl
  · have hdone : raiseSweepDone { x with sweeper := { x.sweeper with cursor := 0 } } = _ := raise_withSweeper ..
    dsimp only
    rw [hdone, ← nextPass_eq]
    have hpaused (y : State) (w : Sweeper) (h : y.lanes = x.lanes) : (y.withSweeper w).anyPaused = x.anyPaused :=
      anyPaused_of_lanes (t := y.withSweeper w) h
    rw [hpaused _ _ (raise_lanes ..)]
    rfl

theorem sweepExamine_eq {g : Fin 8} {a : SweepAnswer} (ha : sweepTest s (s.entry s.sweeper.cursor) = a) :
    sweepExamine g s = advanceSweep (if a = .granted then
        grantDelete g s.sweeper.cursor (s.withSweeper { s.sweeper with counts := s.sweeper.counts.addAnswer a })
      else s.withSweeper { s.sweeper with counts := s.sweeper.counts.addAnswer a }) := by
  subst ha
  rfl

/-- The claim GRANTED to the sweeper and its SEGMENT DELETE on the link, with the sweeper that it leaves. -/
def State.deleteSent (s : State) (g : Fin 8) (w : Sweeper) : State :=
  sentStore [.segmentDelete g s.sweeper.cursor (s.entry s.sweeper.cursor).edition]
    { s.setEntry s.sweeper.cursor { s.entry s.sweeper.cursor with state := .deleting } with
      lastTag := g
      tags := s.tags.set g (some {
        operation := .delete, segmentId := s.sweeper.cursor, edition := (s.entry s.sweeper.cursor).edition
        expiry := (s.runTime + s.params.storeTimeout) % 4294967296, overlong := false })
      turn := .verifier
      sweeper := w }

/-- The sweeper after a grant: its counts, and a rest where the burst is complete (R138). -/
def sweeperAfterDelete (s : State) : Sweeper :=
  if s.params.sweepBurst ≤ s.sweeper.burstCount + 1 then
    { s.sweeper with
      counts := s.sweeper.counts.addAnswer .granted, phase := .resting, burstCount := 0
      restExpiry := some (s.after s.params.sweepRest) }
  else { s.sweeper with counts := s.sweeper.counts.addAnswer .granted, burstCount := s.sweeper.burstCount + 1 }

theorem grantDelete_of_up (g : Fin 8) (h : s.store.up = true) :
    grantDelete g s.sweeper.cursor (s.withSweeper { s.sweeper with counts := s.sweeper.counts.addAnswer .granted })
      = s.deleteSent g (sweeperAfterDelete s) := by
  generalize hcounted : s.withSweeper { s.sweeper with counts := s.sweeper.counts.addAnswer .granted } = counted
  have hup : counted.store.up = true := hcounted ▸ h
  have hsent : (grantTag g .delete s.sweeper.cursor (counted.entry s.sweeper.cursor).edition
      (counted.moveEntry s.sweeper.cursor .deleting)).store.up = true := hup
  rw [grantDelete, sendStore_of_up _ hsent, ← hcounted]
  simp only [State.deleteSent, sentStore, grantTag, State.setTag, State.moveEntry, State.setEntry, State.withSweeper,
    State.entry, State.after, sweeperAfterDelete, Sweeper.rest, Config.timeModulus]
  rfl

theorem sweepExamine_granted_eq {g : Fin 8} (hup : s.store.up = true)
    (h : sweepTest s (s.entry s.sweeper.cursor) = .granted) :
    sweepExamine g s = advanceSweep (s.deleteSent g (sweeperAfterDelete s)) := by
  rw [sweepExamine_eq h, if_pos rfl, grantDelete_of_up g hup]

/-! ### The tests of an entry (R134, R137) -/

theorem matchesEntry_iff {p : HoldSelector} {e : CatalogEntry} : p.matchesEntry e = true ↔
    ∃ o f, e.opening = some o ∧ e.figures = some f ∧ p.firstDay ≤ o.key.day ∧ o.key.day ≤ p.lastDay
      ∧ p.classes.getLsbD o.key.cls = true ∧ (p.switch = none ∨ ∃ w ∈ f.switches, p.switch = some w) := by
  unfold HoldSelector.matchesEntry HoldSelector.matches
  cases e.opening with
  | none => simp
  | some o =>
    cases e.figures with
    | none => simp
    | some f => cases p.switch <;> simp [and_assoc]

theorem isHeld_iff {e : CatalogEntry} : s.isHeld e = true ↔
    (∃ h x, s.hold h = some x ∧ x.selector.matchesEntry e = true) ∨ ∃ p ∈ s.pendingHolds, p.matchesEntry e = true := by
  have hhold (h : Fin 64) : (match s.hold h with | none => false | some x => x.selector.matchesEntry e) = true
      ↔ ∃ x, s.hold h = some x ∧ x.selector.matchesEntry e = true := by
    cases s.hold h <;> simp
  simp only [State.isHeld, Bool.or_eq_true, List.any_eq_true, List.mem_finRange, true_and]
  exact or_congr (exists_congr hhold) Iff.rfl

theorem sweepTest_of_claimed {e : CatalogEntry} (h : e.state = .verifying ∨ e.state = .deleting) : sweepTest s e = .busy := by
  obtain h | h := h <;> simp [sweepTest, h]

theorem sweepTest_of_unstored {e : CatalogEntry} (hverifying : e.state ≠ .verifying) (hdeleting : e.state ≠ .deleting)
    (hstored : e.state ≠ .stored) : sweepTest s e = .notStored := by
  cases h : e.state <;> simp_all [sweepTest]

theorem sweepTest_of_stored {e : CatalogEntry} (h : e.state = .stored) : sweepTest s e =
    if s.clock.currentDay.getD 0 ≤ e.expiryDay then .notYetExpired else if s.isHeld e then .held else .granted := by
  simp only [sweepTest, h]

/-- The entries that the sweeper may delete. -/
theorem unheld_of_sweepTest_granted {e : CatalogEntry} (h : sweepTest s e = .granted) :
    e.state = .stored ∧ e.expiryDay < s.clock.currentDay.getD 0 ∧ s.isHeld e = false := by
  by_cases hstored : e.state = .stored
  · rw [sweepTest_of_stored hstored] at h
    split at h
    · cases h
    · split at h
      · cases h
      · exact ⟨hstored, by omega, by simpa using ‹¬ s.isHeld e = true›⟩
  · unfold sweepTest at h
    cases hstate : e.state <;> simp_all

/-- The tests ask the clock, the holds and the pending holds alone. -/
theorem sweepTest_of_outsideGrants {x : State} (h : outsideGrants x = outsideGrants s) (e : CatalogEntry) :
    sweepTest x e = sweepTest s e := by
  have htest := congrArg (fun y => sweepTest y e) h
  exact htest

/-! ### What a grant does to an entry and to the frames sent -/

theorem advanceSweep_catalog (s : State) : (advanceSweep s).catalog = s.catalog := by
  unfold advanceSweep; split <;> simp [raiseSweepDone]

theorem advanceSweep_storeTx (s : State) : (advanceSweep s).storeTx = s.storeTx := by
  unfold advanceSweep; split <;> simp [raiseSweepDone]

theorem advanceVerify_catalog (s : State) : (advanceVerify s).catalog = s.catalog := by
  unfold advanceVerify; split <;> simp [raiseVerifyDone]

theorem advanceVerify_storeTx (s : State) : (advanceVerify s).storeTx = s.storeTx := by
  unfold advanceVerify; split <;> simp [raiseVerifyDone]

theorem advanceSweep_suspended (s : State) : (advanceSweep s).sweeper.suspended = s.sweeper.suspended := by
  rw [advanceSweep_eq rfl rfl rfl rfl]
  split
  · rfl
  · exact sweeperAfterPass_suspended ..

theorem sweepExamine_of_refused {g : Fin 8} (h : sweepTest s (s.entry s.sweeper.cursor) ≠ .granted) :
    (sweepExamine g s).catalog = s.catalog ∧ (sweepExamine g s).storeTx = s.storeTx
      ∧ (sweepExamine g s).sweeper.suspended = s.sweeper.suspended := by
  rw [sweepExamine_eq rfl, if_neg h]
  exact ⟨advanceSweep_catalog _, advanceSweep_storeTx _, advanceSweep_suspended _⟩

theorem sweepExamine_of_granted {g : Fin 8} (hup : s.store.up = true)
    (h : sweepTest s (s.entry s.sweeper.cursor) = .granted) :
    (sweepExamine g s).catalog = (s.moveEntry s.sweeper.cursor .deleting).catalog
      ∧ (sweepExamine g s).storeTx
        = s.storeTx ++ [.segmentDelete g s.sweeper.cursor (s.entry s.sweeper.cursor).edition]
      ∧ (sweepExamine g s).sweeper.suspended = s.sweeper.suspended := by
  rw [sweepExamine_granted_eq hup h]
  refine ⟨advanceSweep_catalog _, advanceSweep_storeTx _, (advanceSweep_suspended _).trans ?_⟩
  rw [State.deleteSent]
  dsimp only
  unfold sweeperAfterDelete
  split <;> rfl

/-- The claim GRANTED to the verifier and its SEGMENT READ on the link. -/
def State.readSent (s : State) (g : Fin 8) (c : VerifyCounts) : State :=
  { sentStore [.segmentRead g s.verifier.cursor (s.entry s.verifier.cursor).edition]
      (grantTag g .read s.verifier.cursor (s.entry s.verifier.cursor).edition (s.moveEntry s.verifier.cursor .verifying)) with
    turn := .sweeper, verifier := { s.verifier with counts := c, readBuffer := [] } }

theorem verifyExamine_granted_eq {g : Fin 8} (hup : s.store.up = true)
    (h : verifyTest s.params.verifyScope (s.entry s.verifier.cursor) = .granted) :
    verifyExamine g s = advanceVerify (s.readSent g (s.verifier.counts.addAnswer .granted)) := by
  generalize hcounted : s.mapVerifyCounts (fun c => c.addAnswer .granted) = counted
  have hcountedUp : counted.store.up = true := hcounted ▸ hup
  rw [verifyExamine_eq h, if_pos rfl, hcounted, grantRead_of_up g _ hcountedUp, ← hcounted]
  rfl

theorem verifyExamine_of_refused {g : Fin 8} (h : verifyTest s.params.verifyScope (s.entry s.verifier.cursor) ≠ .granted) :
    (verifyExamine g s).catalog = s.catalog ∧ (verifyExamine g s).storeTx = s.storeTx
      ∧ (verifyExamine g s).sweeper = s.sweeper := by
  rw [verifyExamine_eq rfl, if_neg h]
  exact ⟨advanceVerify_catalog _, advanceVerify_storeTx _, advanceVerify_sweeper _⟩

theorem verifyExamine_of_granted {g : Fin 8} (hup : s.store.up = true)
    (h : verifyTest s.params.verifyScope (s.entry s.verifier.cursor) = .granted) :
    (verifyExamine g s).catalog = (s.moveEntry s.verifier.cursor .verifying).catalog
      ∧ (verifyExamine g s).storeTx
        = s.storeTx ++ [.segmentRead g s.verifier.cursor (s.entry s.verifier.cursor).edition]
      ∧ (verifyExamine g s).sweeper = s.sweeper := by
  rw [verifyExamine_granted_eq hup h]
  refine ⟨advanceVerify_catalog _, advanceVerify_storeTx _, (advanceVerify_sweeper _).trans ?_⟩
  simp only [State.readSent, sentStore, grantTag, State.setTag_sweeper, State.moveEntry_sweeper]

/-- An entry is read from the catalog alone. -/
theorem entry_of_catalog {x : State} (h : x.catalog = s.catalog) (id : Nat) : x.entry id = s.entry id := by
  rw [State.entry, State.entry, h]

/-- An entry is in hand that the sweeper may claim: it passes the tests, and the sweeper is not SUSPENDED. -/
def MayDelete (s : State) (id : Nat) : Prop := sweepTest s (s.entry id) = .granted ∧ s.sweeper.suspended = false

/-- What the grants at one event have made of entry `id`, from `s` to `x`: it is as it was, or claimed for a read, or it
could be deleted and the SEGMENT DELETE was sent. -/
structure Claims (s : State) (id : Nat) (x : State) : Prop where
  canonical : NMap.canonical {} x.catalog = true
  outside : outsideGrants x = outsideGrants s
  suspended : x.sweeper.suspended = s.sweeper.suspended
  sent : ∃ sent, x.storeTx = s.storeTx ++ sent ∧ (x.entry id = s.entry id ∨ (x.entry id).state = .verifying
    ∨ MayDelete s id ∧ ∃ tag, .segmentDelete tag id (s.entry id).edition ∈ sent)

/-- A grant that leaves entry `id`. -/
theorem Claims.of_kept {id : Nat} {x y : State} (h : Claims s id x) (hcanonical : NMap.canonical {} y.catalog = true)
    (hentry : y.entry id = x.entry id) (houtside : outsideGrants y = outsideGrants x)
    (hsuspended : y.sweeper.suspended = x.sweeper.suspended) (hsent : ∃ fs, y.storeTx = x.storeTx ++ fs) : Claims s id y := by
  obtain ⟨hcx, hox, hsx, sent, htx, hclaim⟩ := h
  obtain ⟨fs, hfs⟩ := hsent
  refine ⟨hcanonical, houtside.trans hox, hsuspended.trans hsx, sent ++ fs, by rw [hfs, htx, List.append_assoc], ?_⟩
  rw [hentry]
  exact hclaim.imp_right (Or.imp_right (And.imp_right (Exists.imp fun _ => List.mem_append_left fs)))

section
variable {id : Nat} {x : State} (h : Claims s id x)
include h

/-- An entry claimed by the walkers' grant reads back, and the others stay. -/
theorem Claims.entry_moved {y : State} {cursor : Nat} {state : EntryState} (hy : y.catalog = (x.moveEntry cursor state).catalog)
    (n : Nat) : y.entry n = if n = cursor then { x.entry cursor with state } else x.entry n := by
  have hread : y.entry n = NMap.read {} (x.moveEntry cursor state).catalog n := by rw [State.entry, hy]
  rw [hread, State.moveEntry, State.setEntry, NMap.read_write _ _ _ _ (rising_of_canonical h.canonical)]
  rfl

theorem Claims.canonical_moved {y : State} {cursor : Nat} {state : EntryState}
    (hy : y.catalog = (x.moveEntry cursor state).catalog) : NMap.canonical {} y.catalog = true := by
  rw [hy]
  exact NMap.canonical_write _ _ _ _ h.canonical

theorem Claims.of_sweepExamine {g : Fin 8} (hup : x.store.up = true) (hunsuspended : x.sweeper.suspended = false)
    (houtside : outsideGrants (sweepExamine g x) = outsideGrants x) : Claims s id (sweepExamine g x) := by
  by_cases hanswer : sweepTest x (x.entry x.sweeper.cursor) = .granted
  · obtain ⟨hcatalog, hsent, hsuspended⟩ := sweepExamine_of_granted (g := g) hup hanswer
    have hcanonical := h.canonical_moved hcatalog
    have hmoved := h.entry_moved hcatalog id
    by_cases hid : id = x.sweeper.cursor
    · obtain ⟨hcx, hox, hsx, sent, htx, hclaim⟩ := h
      refine ⟨hcanonical, houtside.trans hox, hsuspended.trans hsx, sent ++ _,
        by rw [hsent, htx, List.append_assoc], .inr (.inr ?_)⟩
      obtain hsame | hverifying | ⟨hmay, tag, hmem⟩ := hclaim
      · rw [hid] at hsame ⊢
        rw [hsame] at hanswer ⊢
        exact ⟨⟨(sweepTest_of_outsideGrants hox _).symm.trans hanswer, hsx.symm.trans hunsuspended⟩, g, by simp⟩
      · rw [hid] at hverifying
        rw [sweepTest_of_claimed (.inl hverifying)] at hanswer
        cases hanswer
      · exact ⟨hmay, tag, List.mem_append_left _ hmem⟩
    · exact h.of_kept hcanonical (hmoved.trans (if_neg hid)) houtside hsuspended ⟨_, hsent⟩
  · obtain ⟨hcatalog, hsent, hsuspended⟩ := sweepExamine_of_refused (g := g) hanswer
    exact h.of_kept (hcatalog ▸ h.canonical) (entry_of_catalog hcatalog id) houtside hsuspended
      ⟨[], hsent.trans (List.append_nil _).symm⟩

theorem Claims.of_verifyExamine {g : Fin 8} (hup : x.store.up = true)
    (houtside : outsideGrants (verifyExamine g x) = outsideGrants x) : Claims s id (verifyExamine g x) := by
  by_cases hanswer : verifyTest x.params.verifyScope (x.entry x.verifier.cursor) = .granted
  · obtain ⟨hcatalog, hsent, hsweeper⟩ := verifyExamine_of_granted (g := g) hup hanswer
    have hcanonical := h.canonical_moved hcatalog
    have hmoved := h.entry_moved hcatalog id
    by_cases hid : id = x.verifier.cursor
    · obtain ⟨hcx, hox, hsx, sent, htx, hclaim⟩ := h
      refine ⟨hcanonical, houtside.trans hox, (congrArg _ hsweeper).trans hsx, sent ++ _,
        by rw [hsent, htx, List.append_assoc], .inr (.inl ?_)⟩
      rw [hmoved, if_pos hid]
    · exact h.of_kept hcanonical (hmoved.trans (if_neg hid)) houtside
        (congrArg _ hsweeper) ⟨_, hsent⟩
  · obtain ⟨hcatalog, hsent, hsweeper⟩ := verifyExamine_of_refused (g := g) hanswer
    exact h.of_kept (hcatalog ▸ h.canonical) (entry_of_catalog hcatalog id) houtside (congrArg _ hsweeper)
      ⟨[], hsent.trans (List.append_nil _).symm⟩

theorem Claims.of_grantOne {y : State} (hy : grantOne x = some y) : Claims s id y := by
  have houtside := outsideGrants_grantOne hy
  obtain ⟨hup, g, -, ⟨written, rest, -, rfl⟩ | ⟨-, hwaits, -, rfl⟩ | ⟨-, -, -, rfl⟩⟩ := grantOne_cases hy
  · have hsent : sendWrite g written rest x = _ := sendStore_of_up (x := grantTag g .write written _ { x with writeQueue := rest }) _ hup
    rw [hsent] at houtside ⊢
    exact h.of_kept h.canonical rfl houtside rfl ⟨_, rfl⟩
  · obtain ⟨-, hunsuspended, -⟩ := sweeperWaits_iff.mp hwaits
    exact h.of_sweepExamine hup hunsuspended houtside
  · exact h.of_verifyExamine hup houtside

end

theorem claims_arbitrate (h : NMap.canonical {} s.catalog = true) (id : Nat) : Claims s id (arbitrate s) :=
  arbitrate_induction (fun _ _ hx hy => hx.of_grantOne hy) ⟨h, rfl, rfl, [], (List.append_nil _).symm, .inl rfl⟩

end

section

/-- Settles O30: the claims of a run of grants by induction, and the sweeper's examination case by case. -/
theorem arbiterDeletesOnlyExpiredUnheld : Obligations.ArbiterDeletesOnlyExpiredUnheld := by
  refine ⟨fun s id hcanonical hdeleting hbefore => ?_, fun p e => matchesEntry_iff, fun s g hup => ?_⟩
  · obtain ⟨-, -, -, sent, hsent, hclaim⟩ := claims_arbitrate hcanonical id
    obtain hsame | hverifying | ⟨⟨htest, hsuspended⟩, tag, hmem⟩ := hclaim
    · exact absurd (hsame ▸ hdeleting) hbefore
    · rw [hverifying] at hdeleting
      cases hdeleting
    · obtain ⟨hstored, hexpired, hunheld⟩ := unheld_of_sweepTest_granted htest
      have hnone := isHeld_iff.not.mp (Bool.eq_false_iff.mp hunheld)
      refine ⟨hstored, hsuspended, hexpired, fun h x hx => ?_, fun p hp => ?_, sent, tag, hsent, hmem⟩
      · exact Bool.eq_false_iff.mpr fun hmatch => hnone (.inl ⟨h, x, hx, hmatch⟩)
      · exact Bool.eq_false_iff.mpr fun hmatch => hnone (.inr ⟨p, hp, hmatch⟩)
  · intro id e c counted passes expired held
    have hheld : s.isHeld e = true ↔ held := isHeld_iff
    have hpasses (x : State) (hx : sweepExamine g s = advanceSweep x) (hclock : x.clock = s.clock) (hlanes : x.lanes = s.lanes)
        (hcursor : x.sweeper.cursor = id) (hanother : x.sweeper.anotherPass = s.sweeper.anotherPass) : passes x :=
      hx.trans (advanceSweep_eq hclock hlanes hcursor hanother)
    have hcounted (a : SweepAnswer) (ha : a ≠ .granted) (htest : sweepTest s e = a) : passes (counted (s.sweeper.counts.addAnswer a)) :=
      hpasses _ ((sweepExamine_eq htest).trans (congrArg advanceSweep (if_neg ha))) rfl rfl rfl rfl
    refine ⟨fun hclaimed => ?_, fun hverifying hdeleting hstored => ?_, fun hstored hearly => ?_, fun hstored hexpired h => ?_,
      fun hstored hexpired h => ?_⟩
    · exact hcounted .busy (by decide) (sweepTest_of_claimed hclaimed)
    · exact hcounted .notStored (by decide) (sweepTest_of_unstored hverifying hdeleting hstored)
    · exact hcounted .notYetExpired (by decide) ((sweepTest_of_stored hstored).trans (if_pos (Nat.le_of_not_lt hearly)))
    · exact hcounted .held (by decide)
        ((sweepTest_of_stored hstored).trans ((if_neg (Nat.not_le_of_lt hexpired)).trans (if_pos (hheld.mpr h))))
    · have htest : sweepTest s e = .granted :=
        (sweepTest_of_stored hstored).trans ((if_neg (Nat.not_le_of_lt hexpired)).trans (if_neg (hheld.not.mpr h)))
      have hkept : (sweeperAfterDelete s).cursor = id ∧ (sweeperAfterDelete s).anotherPass = s.sweeper.anotherPass := by
        unfold sweeperAfterDelete
        split <;> exact ⟨rfl, rfl⟩
      obtain ⟨hcursor, hanother⟩ := hkept
      intro deleted
      have hclock : (s.deleteSent g (sweeperAfterDelete s)).clock = s.clock := by
        simp only [State.deleteSent, sentStore, State.setEntry_clock]
      have hlanes : (s.deleteSent g (sweeperAfterDelete s)).lanes = s.lanes := by
        simp only [State.deleteSent, sentStore, State.setEntry_lanes]
      exact hpasses (s.deleteSent g (sweeperAfterDelete s)) (sweepExamine_granted_eq hup htest) hclock hlanes hcursor hanother

end

end Sys2Proof.Machine

namespace Sys2Proof.Machine

open Sys2Proof.Safety

section

/-! ### Varints (R76, R77) -/

theorem unzigzag_zigzag (v : Int) : unzigzag (zigzag v) = v := by
  unfold zigzag unzigzag
  split <;> split <;> omega

/-- The zigzagged difference of two 32-bit values takes 33 bits. -/
theorem zigzag_deltaOf_lt {value reference : Nat} (hv : value < 4294967296) (hr : reference < 4294967296) :
    zigzag (deltaOf value reference) < 8589934592 := by
  unfold zigzag deltaOf
  split <;> omega

theorem varintIn_pos (fuel v : Nat) : 1 ≤ (varintIn fuel v).length := by
  cases fuel with
  | zero => simp [varintIn]
  | succ fuel =>
    rw [varintIn]
    split <;> simp

theorem varintIn_length_le {fuel v k : Nat} (h : v < 128 ^ (k + 1)) : (varintIn fuel v).length ≤ k + 1 := by
  induction fuel generalizing v k with
  | zero => simp [varintIn]
  | succ fuel ih =>
    rw [varintIn]
    split
    · simp
    · obtain _ | k := k
      · omega
      · have hrest : v / 128 < 128 ^ (k + 1) := by
          rw [Nat.div_lt_iff_lt_mul (by decide)]
          rwa [← pow_succ]
        have := ih hrest
        simpa using this

/-- A varint of no more groups than may be read is read back. -/
theorem readVarintIn_varintIn {fuel n v : Nat} (scale : Nat) (rest : List Byte) (hpos : 1 ≤ fuel) (hfuel : fuel ≤ n + 1)
    (hv : v < 128 ^ fuel) : readVarintIn fuel scale (varintIn n v ++ rest) = some (scale * v, rest) := by
  induction fuel generalizing n v scale with
  | zero => omega
  | succ fuel ih =>
    have hshort (w : Nat) (hw : w < 128) (bs : List Byte) :
        readVarintIn (fuel + 1) scale (BitVec.ofNat 8 w :: bs) = some (scale * w, bs) := by
      have hbyte : (BitVec.ofNat 8 w).toNat = w := by rw [BitVec.toNat_ofNat]; omega
      rw [readVarintIn, hbyte, if_pos hw]
    obtain _ | n := n
    · have hone : fuel = 0 := by omega
      subst hone
      have hsmall : v < 128 := by simpa using hv
      rw [varintIn, Nat.mod_eq_of_lt hsmall]
      exact hshort v hsmall rest
    · rw [varintIn]
      split
      next hsmall => exact hshort v hsmall rest
      next hbig =>
        have hbyte : (BitVec.ofNat 8 (v % 128 + 128)).toNat = v % 128 + 128 := by rw [BitVec.toNat_ofNat]; omega
        have hmore : 1 ≤ fuel := by
          by_contra hnone
          obtain rfl : fuel = 0 := by omega
          simp at hv
          omega
        have hrest : v / 128 < 128 ^ fuel := by
          rw [Nat.div_lt_iff_lt_mul (by decide)]
          rwa [← pow_succ]
        rw [List.cons_append, readVarintIn, hbyte, if_neg (by omega), ih (scale * 128) hmore (by omega) hrest]
        have hsum : scale * (v % 128 + 128 - 128) + scale * 128 * (v / 128) = scale * v := by
          rw [Nat.add_sub_cancel, mul_assoc, ← mul_add, Nat.mod_add_div]
        exact congrArg (fun x => some (x, rest)) hsum

theorem readVarint_varint {v : Nat} (hv : v < 34359738368) (rest : List Byte) : readVarint (varint v ++ rest) = some (v, rest) := by
  rw [readVarint, varint, readVarintIn_varintIn 1 rest (by decide) (by decide) hv, one_mul]

theorem readValue_varint {v : Nat} (hv : v < 4294967296) (rest : List Byte) : readValue (varint v ++ rest) = some (v, rest) := by
  rw [readValue, readVarint_varint (by omega)]
  exact if_pos (Nat.le_of_lt_succ hv)

theorem readDelta_varint {value reference : Nat} (hv : value < 4294967296) (hr : reference < 4294967296) (rest : List Byte) :
    readDelta reference (varint (zigzag (deltaOf value reference)) ++ rest) = some (value, rest) := by
  have hlt := zigzag_deltaOf_lt hv hr
  have hback : (reference : Int) + unzigzag (zigzag (deltaOf value reference)) = value := by
    rw [unzigzag_zigzag, deltaOf]
    omega
  rw [readDelta, readVarint_varint (by omega)]
  dsimp only
  rw [hback, if_pos (by omega), Int.toNat_natCast]

/-! ### Digits and the dictionary (R78 to R80) -/

theorem packDigits_length (ds : List Nat) : (packDigits ds).length = (ds.length + 1) / 2 := by
  induction ds using packDigits.induct with
  | case1 => rfl
  | case2 d => simp [packDigits]
  | case3 d e rest ih =>
    simp only [packDigits, List.length_cons, ih]
    omega

theorem readDigits_packDigits {ds : List Nat} (h : ∀ d ∈ ds, d < 16) (rest : List Byte) :
    readDigits ds.length (packDigits ds ++ rest) = some (ds, rest) := by
  induction ds using packDigits.induct with
  | case1 => rfl
  | case2 d =>
    have hd : d < 16 := h d (by simp)
    have hbyte : (BitVec.ofNat 8 (d * 16 + 15)).toNat / 16 = d := by rw [BitVec.toNat_ofNat]; omega
    simp only [packDigits, List.singleton_append, List.length_singleton, readDigits, hbyte]
  | case3 d e ds ih =>
    have hd : d < 16 := h d (by simp)
    have he : e < 16 := h e (by simp)
    have hbyte : (BitVec.ofNat 8 (d * 16 + e)).toNat = d * 16 + e := by rw [BitVec.toNat_ofNat]; omega
    have hhigh : (d * 16 + e) / 16 = d := by omega
    have hlow : (d * 16 + e) % 16 = e := by omega
    have hrest := ih fun x hx => h x (by simp [hx])
    simp only [packDigits, List.cons_append, List.length_cons, readDigits, hbyte, hhigh, hlow, hrest]

/-- The best match is an entry of the dictionary that matches. -/
theorem foldl_betterMatch {digits : List Nat} {dictionary : NMap (List Nat)} {best : Option (Nat × List Nat)}
    {found : Nat × List Nat} (h : dictionary.foldl (betterMatch digits) best = some found) :
    best = some found ∨ found ∈ dictionary ∧ entryMatches found.2 digits = true := by
  induction dictionary generalizing best with
  | nil => exact .inl h
  | cons entry rest ih =>
    obtain hbest | ⟨hmem, hmatch⟩ := ih h
    · unfold betterMatch at hbest
      split at hbest
      next hbetter =>
        obtain rfl := Option.some.inj hbest
        exact .inr ⟨List.mem_cons_self, (Bool.and_eq_true_iff.mp hbetter).1⟩
      next => exact .inl hbest
    · exact .inr ⟨List.mem_cons_of_mem _ hmem, hmatch⟩

/-- What the dictionary match of a number gives, where the dictionary is one that a bank can hold. -/
theorem dictionaryMatch_eq_some {dictionary : NMap (List Nat)} {digits : List Nat} {index : Nat} {entry : List Nat}
    (hsound : DictionarySound dictionary) (h : dictionaryMatch dictionary digits = some (index, entry)) :
    NMap.read [] dictionary index = entry ∧ 1 ≤ index ∧ index ≤ 255 ∧ 3 ≤ entry.length
      ∧ ∃ tail, digits = entry ++ tail := by
  obtain hnone | ⟨hmem, hmatch⟩ := foldl_betterMatch h
  · cases hnone
  · obtain ⟨hcanonical, hentries⟩ := hsound
    obtain ⟨hpos, hmax, hlen, -, -⟩ := hentries _ hmem
    refine ⟨?_, hpos, hmax, hlen, ?_⟩
    · rw [NMap.read, NMap.find?_of_mem (rising_of_canonical hcanonical) hmem]
      rfl
    · simp only [entryMatches, Bool.and_eq_true, List.isPrefixOf_iff_prefix] at hmatch
      obtain ⟨-, tail, htail⟩ := hmatch
      exact ⟨tail, htail.symm⟩

theorem encodeDigits_of_match {dictionary : NMap (List Nat)} {index : Nat} {entry tail : List Nat}
    (h : dictionaryMatch dictionary (entry ++ tail) = some (index, entry)) : encodeDigits dictionary (entry ++ tail)
      = BitVec.ofNat 8 index :: BitVec.ofNat 8 tail.length :: packDigits tail := by
  simp only [encodeDigits, h, List.length_append, Nat.add_sub_cancel_left, List.drop_left]

theorem encodeDigits_of_none {dictionary : NMap (List Nat)} {digits : List Nat} (h : dictionaryMatch dictionary digits = none) :
    encodeDigits dictionary digits = BitVec.ofNat 8 digits.length :: packDigits digits := by
  simp only [encodeDigits, h]

theorem encodeDigits_length {dictionary : NMap (List Nat)} {digits : List Nat} (hsound : DictionarySound dictionary)
    (hlen : digits.length ≤ 20) : 1 ≤ (encodeDigits dictionary digits).length ∧ (encodeDigits dictionary digits).length ≤ 11 := by
  cases hmatch : dictionaryMatch dictionary digits with
  | none =>
    simp only [encodeDigits_of_none hmatch, List.length_cons, packDigits_length]
    omega
  | some found =>
    obtain ⟨index, entry⟩ := found
    obtain ⟨-, -, -, hentry, tail, rfl⟩ := dictionaryMatch_eq_some hsound hmatch
    rw [List.length_append] at hlen
    simp only [encodeDigits_of_match hmatch, List.length_cons, packDigits_length]
    omega

/-- A number is read back in the form that its indicator names. -/
theorem readDigitString_encodeDigits {dictionary : NMap (List Nat)} {digits : List Nat} (hsound : DictionarySound dictionary)
    (hlen : digits.length ≤ 20) (hdigits : ∀ d ∈ digits, d < 16) (rest : List Byte) :
    readDigitString dictionary (dictionaryMatch dictionary digits).isSome (encodeDigits dictionary digits ++ rest)
      = some (digits, rest) := by
  cases hmatch : dictionaryMatch dictionary digits with
  | none =>
    have hcount : (BitVec.ofNat 8 digits.length).toNat = digits.length := by rw [BitVec.toNat_ofNat]; omega
    have hlimit : ¬ Config.digitPositions < digits.length := Nat.not_lt_of_le hlen
    simp only [encodeDigits_of_none hmatch, readDigitString, List.cons_append, Option.isSome_none, Bool.false_eq_true, if_false,
      hcount, if_neg hlimit, readDigits_packDigits hdigits]
  | some found =>
    obtain ⟨index, entry⟩ := found
    obtain ⟨hread, hpos, hmax, hentry, tail, rfl⟩ := dictionaryMatch_eq_some hsound hmatch
    rw [List.length_append] at hlen
    have hcount : (BitVec.ofNat 8 tail.length).toNat = tail.length := by rw [BitVec.toNat_ofNat]; omega
    have hindex : (BitVec.ofNat 8 index).toNat = index := by rw [BitVec.toNat_ofNat]; omega
    have hgood : ¬ (index = 0 ∨ entry = [] ∨ Config.digitPositions < entry.length + tail.length) := by
      rintro (h | h | h)
      · omega
      · simp [h] at hentry
      · exact Nat.not_lt_of_le hlen h
    have htail := readDigits_packDigits (fun d hd => hdigits d (List.mem_append_right _ hd)) rest (ds := tail)
    simp only [encodeDigits_of_match hmatch, readDigitString, List.cons_append, Option.isSome_some, if_true, hindex, hread, hcount,
      if_neg hgood, htail]

end

end Sys2Proof.Machine

namespace Sys2Proof.Machine

open Sys2Proof.Safety

section
variable {r : CallRecord}

/-! ### Well-formed records -/

theorem wellFormed_fits {n v : Nat} : WellFormed.fits n v = true ↔ v < 256 ^ n := decide_eq_true_iff

theorem wellFormed_number {n : Nat} {x : Number} :
    WellFormed.number n x = true ↔ x.count < 256 ∧ x.digits.length = n ∧ ∀ d ∈ x.digits, d < 16 := by
  simp only [WellFormed.number, Bool.and_eq_true, wellFormed_fits, decide_eq_true_eq, List.all_eq_true, and_assoc, pow_one]

/-- The ranges of a well-formed record's fields. -/
structure RecordRanges (r : CallRecord) : Prop where
  kind : r.kind < 256
  cause : r.cause < 256
  switchId : r.switchId < 512
  service : r.service < 1024
  trunk : r.trunk < 65536
  sequence : r.sequence < 4294967296
  startTime : r.startTime < 4294967296
  duration : r.duration < 4294967296
  charge : r.charge < 4294967296
  flags : r.flags < 65536
  calling : r.calling.count < 256 ∧ r.calling.digits.length = 20 ∧ ∀ d ∈ r.calling.digits, d < 16
  called : r.called.count < 256 ∧ r.called.digits.length = 20 ∧ ∀ d ∈ r.called.digits, d < 16

theorem recordRanges_of_wellFormed (h : WellFormed.record r = true) : RecordRanges r := by
  simp only [WellFormed.record, Bool.and_eq_true, wellFormed_fits, wellFormed_number, decide_eq_true_eq] at h
  obtain ⟨⟨⟨⟨⟨⟨⟨⟨⟨⟨⟨hkind, hcause⟩, hswitch⟩, hservice⟩, htrunk⟩, hsequence⟩, hstart⟩, hduration⟩, hcharge⟩, hflags⟩, hcalling⟩,
    hcalled⟩ := h
  exact ⟨hkind, hcause, hswitch, hservice, htrunk, hsequence, hstart, hduration, hcharge, hflags, hcalling, hcalled⟩

/-! ### The digits written (R80, R81) -/

theorem writtenDigits_length {n : Number} (h : n.digits.length = 20) : (writtenDigits n).length = min n.count 20 := by
  rw [writtenDigits, List.length_take, h, Nat.min_assoc]
  rfl

theorem writtenDigits_lt {n : Number} (h : ∀ d ∈ n.digits, d < 16) : ∀ d ∈ writtenDigits n, d < 16 :=
  fun d hd => h d (List.mem_of_mem_take hd)

theorem writtenDigits_length_le {n : Number} (h : n.digits.length = 20) : (writtenDigits n).length ≤ 20 := by
  rw [writtenDigits_length h]
  exact Nat.min_le_right ..

/-! ### Lengths (R82) -/

theorem unlessSet_length_le (indicator : Bool) (bytes : List Byte) : (unlessSet indicator bytes).length ≤ bytes.length := by
  cases indicator <;> simp [unlessSet]

theorem varint_pos (v : Nat) : 1 ≤ (varint v).length := varintIn_pos 9 v

theorem varint_length_le {v : Nat} (k : Nat) (h : v < 128 ^ (k + 1)) : (varint v).length ≤ k + 1 := varintIn_length_le h

/-- The fields without the reason byte: 6 bytes at least, and 48 at most beside the duration's. -/
theorem encodeFields_length {dictionary : NMap (List Nat)} {ref : Reference} (hsound : DictionarySound dictionary)
    (hr : RecordRanges r) (hsequence : ref.sequence < 4294967296) (hstart : ref.startTime < 4294967296) :
    6 ≤ (encodeFields dictionary ref r).length
      ∧ (encodeFields dictionary ref r).length ≤ 48 + (varint r.duration).length := by
  have hkind := unlessSet_length_le (indicators dictionary ref r).sameKindCause [BitVec.ofNat 8 r.kind, BitVec.ofNat 8 r.cause]
  have hswitch := unlessSet_length_le (indicators dictionary ref r).sameSwitch (toBytes 2 r.switchId)
  have hservice := unlessSet_length_le (indicators dictionary ref r).sameService (toBytes 2 r.service)
  have htrunk := unlessSet_length_le (indicators dictionary ref r).sameTrunk (toBytes 2 r.trunk)
  have hseq := unlessSet_length_le (indicators dictionary ref r).seqNext (varint (zigzag (deltaOf r.sequence ref.sequence)))
  have hflags := unlessSet_length_le (indicators dictionary ref r).sameFlags (toBytes 2 r.flags)
  have hseqMax := varint_length_le (v := zigzag (deltaOf r.sequence ref.sequence)) 4
    ((zigzag_deltaOf_lt hr.sequence hsequence).trans (by decide))
  have hstartMax := varint_length_le (v := zigzag (deltaOf r.startTime ref.startTime)) 4
    ((zigzag_deltaOf_lt hr.startTime hstart).trans (by decide))
  have hstartMin := varint_pos (zigzag (deltaOf r.startTime ref.startTime))
  have hduration := varint_pos r.duration
  have hcharge := varint_pos r.charge
  have hchargeMax := varint_length_le (v := r.charge) 4 (hr.charge.trans (by decide))
  have hcalling := encodeDigits_length hsound (writtenDigits_length_le hr.calling.2.1)
  have hcalled := encodeDigits_length hsound (writtenDigits_length_le hr.called.2.1)
  simp only [toBytes_length, List.length_cons, List.length_nil] at hkind hswitch hservice htrunk hflags
  simp only [encodeFields, List.length_cons, List.length_append]
  omega

theorem duration_of_badField (h : badField r = false) : r.duration ≤ 172800 := by
  simp only [badField, Bool.or_eq_false_iff, decide_eq_false_iff_not, Nat.not_lt, Config.durationLimit] at h
  exact h.2

theorem encodeRecord_rejected (dictionary : NMap (List Nat)) (ref : Reference) (reason : RejectReason) (r : CallRecord) :
    encodeRecord dictionary ref (some reason) r = BitVec.ofNat 8 reason.code :: encodeFields dictionary ref r := rfl

theorem encodeRecord_valid (dictionary : NMap (List Nat)) (ref : Reference) (r : CallRecord) :
    encodeRecord dictionary ref none r = encodeFields dictionary ref r := rfl

/-- Settles O23. -/
theorem encodedLengthBounded : Obligations.EncodedLengthBounded := by
  intro dictionary ref r hsound hwell hsequence hstart
  have hr := recordRanges_of_wellFormed hwell
  obtain ⟨hmin, hmax⟩ := encodeFields_length hsound hr hsequence hstart
  refine ⟨fun reason => ?_, fun hvalid => ?_⟩
  · have hduration := varint_length_le (v := r.duration) 4 (hr.duration.trans (by decide))
    rw [encodeRecord_rejected, List.length_cons]
    omega
  · have hduration := varint_length_le (v := r.duration) 2 (lt_of_le_of_lt (duration_of_badField hvalid) (by decide))
    rw [encodeRecord_valid]
    omega

end

section
variable {dictionary : NMap (List Nat)} {ref : Reference} {r : CallRecord}

/-! ### Decoding one record (R88) -/

theorem ofByte_byte (i : Indicators) : Indicators.ofByte i.byte = i := by
  have hall : ∀ a b c d e f g h : Bool, Indicators.ofByte (Indicators.byte ⟨a, b, c, d, e, f, g, h⟩) = ⟨a, b, c, d, e, f, g, h⟩ := by
    decide +kernel
  exact hall ..

theorem readNumber_toBytes {n v : Nat} (h : v < 256 ^ n) (rest : List Byte) : readNumber n (toBytes n v ++ rest) = some (v, rest) := by
  have hlong : ¬ (toBytes n v ++ rest).length < n := by simp
  rw [readNumber, if_neg hlong, List.take_left' (toBytes_length n v), List.drop_left' (toBytes_length n v), ofBytes_toBytes h]

/-- A field is read back from where it was written or left out. -/
theorem copyOr_unlessSet {α : Type} {indicator : Bool} {copied v : α} {reader : List Byte → Read α} {bytes rest : List Byte}
    (hcopied : indicator = true → copied = v) (hread : reader (bytes ++ rest) = some (v, rest)) :
    copyOr indicator copied reader (unlessSet indicator bytes ++ rest) = some (v, rest) := by
  cases indicator with
  | false => exact hread
  | true => rw [copyOr, unlessSet, if_pos rfl, if_pos rfl, hcopied rfl, List.nil_append]

theorem readKindCause_bytes (hkind : r.kind < 256) (hcause : r.cause < 256) (rest : List Byte) :
    readKindCause ([BitVec.ofNat 8 r.kind, BitVec.ofNat 8 r.cause] ++ rest) = some ((r.kind, r.cause), rest) := by
  have hk : (BitVec.ofNat 8 r.kind).toNat = r.kind := by rw [BitVec.toNat_ofNat]; omega
  have hc : (BitVec.ofNat 8 r.cause).toNat = r.cause := by rw [BitVec.toNat_ofNat]; omega
  simp only [readKindCause, List.cons_append, List.nil_append, hk, hc]

theorem readReason_reasonBytes {cls : Nat} {reason : Option RejectReason} (h : reason.isSome = true ↔ cls = 0) (rest : List Byte) :
    readReason cls (reasonBytes reason ++ rest) = some ((), rest) := by
  cases reason with
  | none =>
    have hcls : cls ≠ 0 := fun hz => absurd (h.mpr hz) (by simp)
    unfold readReason
    exact if_pos hcls
  | some x =>
    have hcls : ¬ cls ≠ 0 := not_not_intro (h.mp rfl)
    unfold readReason
    rw [if_neg hcls]
    cases x <;> rfl

/-- The decoder goes on with what a reading step answers. -/
theorem read_bind {α β : Type} {m : Option (α × List Byte)} {v : α} {rest : List Byte} (f : α × List Byte → Option β) (h : m = some (v, rest)) :
    (m >>= f) = f (v, rest) := by
  rw [h]
  rfl

/-- A record encoded against its reference is decoded against it. -/
theorem decodeRecord_encodeRecord {cls : Nat} {reason : Option RejectReason} (hsound : DictionarySound dictionary)
    (hr : RecordRanges r) (hsequence : ref.sequence < 4294967296) (hstart : ref.startTime < 4294967296)
    (hreason : reason.isSome = true ↔ cls = 0) (rest : List Byte) :
    decodeRecord dictionary cls ref (encodeRecord dictionary ref reason r ++ rest) = some (asDecoded r, rest) := by
  have hkind (bs : List Byte) := copyOr_unlessSet (indicator := (indicators dictionary ref r).sameKindCause)
    (copied := (ref.kind, ref.cause)) (rest := bs)
    (fun h => by simp only [indicators, Bool.and_eq_true, decide_eq_true_eq] at h; rw [h.1, h.2]) (readKindCause_bytes hr.kind hr.cause bs)
  have hswitch (bs : List Byte) := copyOr_unlessSet (indicator := (indicators dictionary ref r).sameSwitch) (copied := ref.switchId)
    (rest := bs) (fun h => (of_decide_eq_true h).symm) (readNumber_toBytes (n := 2) (hr.switchId.trans (by decide)) bs)
  have hservice (bs : List Byte) := copyOr_unlessSet (indicator := (indicators dictionary ref r).sameService) (copied := ref.service)
    (rest := bs) (fun h => (of_decide_eq_true h).symm) (readNumber_toBytes (n := 2) (hr.service.trans (by decide)) bs)
  have htrunk (bs : List Byte) := copyOr_unlessSet (indicator := (indicators dictionary ref r).sameTrunk) (copied := ref.trunk)
    (rest := bs) (fun h => (of_decide_eq_true h).symm) (readNumber_toBytes (n := 2) hr.trunk bs)
  have hseq (bs : List Byte) := copyOr_unlessSet (indicator := (indicators dictionary ref r).seqNext)
    (copied := (ref.sequence + 1) % 4294967296) (rest := bs) (fun h => (of_decide_eq_true h).symm)
    (readDelta_varint hr.sequence hsequence bs)
  have htime (bs : List Byte) := readDelta_varint hr.startTime hstart bs
  have hduration (bs : List Byte) := readValue_varint hr.duration bs
  have hcharge (bs : List Byte) := readValue_varint hr.charge bs
  have hflags (bs : List Byte) := copyOr_unlessSet (indicator := (indicators dictionary ref r).sameFlags) (copied := ref.flags)
    (rest := bs) (fun h => (of_decide_eq_true h).symm) (readNumber_toBytes (n := 2) hr.flags bs)
  obtain ⟨-, hcallingLength, hcallingDigits⟩ := hr.calling
  obtain ⟨-, hcalledLength, hcalledDigits⟩ := hr.called
  have hcalling (bs : List Byte) : readDigitString dictionary (indicators dictionary ref r).callingDict _ = _ :=
    readDigitString_encodeDigits hsound (writtenDigits_length_le hcallingLength) (writtenDigits_lt hcallingDigits) bs
  have hcalled (bs : List Byte) : readDigitString dictionary (indicators dictionary ref r).calledDict _ = _ :=
    readDigitString_encodeDigits hsound (writtenDigits_length_le hcalledLength) (writtenDigits_lt hcalledDigits) bs
  rw [encodeRecord, List.append_assoc, encodeFields]
  simp only [List.cons_append, List.append_assoc]
  refine (read_bind _ (readReason_reasonBytes hreason _)).trans ?_
  refine (read_bind (m := readByte _) _ rfl).trans ?_
  dsimp only
  rw [ofByte_byte]
  refine (read_bind _ (hkind _)).trans ?_
  refine (read_bind _ (hswitch _)).trans ?_
  refine (read_bind _ (hservice _)).trans ?_
  refine (read_bind _ (htrunk _)).trans ?_
  refine (read_bind _ (hseq _)).trans ?_
  refine (read_bind _ (htime _)).trans ?_
  refine (read_bind _ (hduration _)).trans ?_
  refine (read_bind _ (hcharge _)).trans ?_
  refine (read_bind _ (hflags _)).trans ?_
  refine (read_bind _ (hcalling _)).trans ?_
  refine (read_bind _ (hcalled _)).trans ?_
  dsimp only
  rw [writtenDigits_length hcallingLength, writtenDigits_length hcalledLength]
  rfl

/-! ### Decoding a body (R88) -/

theorem encodeRecord_ne_nil (dictionary : NMap (List Nat)) (ref : Reference) (reason : Option RejectReason) (r : CallRecord)
    (rest : List Byte) : encodeRecord dictionary ref reason r ++ rest ≠ [] := by
  rw [encodeRecord, encodeFields]
  simp

theorem decodeFrom_bodyFrom {cls : Nat} (hsound : DictionarySound dictionary)
    (records : List (Option RejectReason × CallRecord)) (hwell : ∀ p ∈ records, WellFormed.record p.2 = true)
    (hreasons : ∀ p ∈ records, p.1.isSome = true ↔ cls = 0) (hsequence : ref.sequence < 4294967296)
    (hstart : ref.startTime < 4294967296) {fuel : Nat} (hfuel : (bodyFrom dictionary ref records).length ≤ fuel) :
    decodeFrom dictionary cls fuel ref (bodyFrom dictionary ref records)
      = { records := records.map (fun p => asDecoded p.2), malformed := false } := by
  induction records generalizing ref fuel with
  | nil => cases fuel <;> rfl
  | cons p rest ih =>
    obtain ⟨reason, r⟩ := p
    have hr := recordRanges_of_wellFormed (hwell _ List.mem_cons_self)
    have hsome := encodeRecord_ne_nil dictionary ref reason r (bodyFrom dictionary (referenceOf r) rest)
    have hlong : (bodyFrom dictionary (referenceOf r) rest).length < (bodyFrom dictionary ref ((reason, r) :: rest)).length := by
      rw [bodyFrom, List.length_append]
      have := List.length_pos_iff.mpr (encodeRecord_ne_nil dictionary ref reason r [])
      rw [List.append_nil] at this
      omega
    obtain ⟨fuel, rfl⟩ : ∃ n, fuel = n + 1 := ⟨fuel - 1, by omega⟩
    have hmore := ih (fun p hp => hwell p (List.mem_cons_of_mem _ hp)) (fun p hp => hreasons p (List.mem_cons_of_mem _ hp))
      (ref := referenceOf r) hr.sequence hr.startTime (fuel := fuel) (by omega)
    rw [bodyFrom, decodeFrom, if_neg hsome, decodeRecord_encodeRecord hsound hr hsequence hstart (hreasons _ List.mem_cons_self)]
    have hreference : referenceOf (asDecoded r) = referenceOf r := rfl
    simp only [hreference, hmore, List.map_cons]

/-- Settles O24, by induction on the records, each decoded against the one before it. -/
theorem bodyDecodesToItsRecords : Obligations.BodyDecodesToItsRecords := fun _ _ records hsound hwell hreasons _ =>
  decodeFrom_bodyFrom hsound records hwell hreasons (by decide) (by decide) le_rfl

end

end Sys2Proof.Machine

namespace Sys2Proof.Machine

open Sys2Proof.Safety

section

/-! ### Frames in their envelope (section 12.1) -/

/-- A number written last is read at offset 0. -/
theorem fieldAt_toBytes_last {n v : Nat} (h : v < 256 ^ n) : fieldAt (toBytes n v) 0 n = v := by
  have := fieldAt_toBytes h []
  rwa [List.append_nil] at this

theorem drop_toBytes_append {m w k : Nat} (h : m ≤ k) (rest : List Byte) : (toBytes m w ++ rest).drop k = rest.drop (k - m) := by
  rw [List.drop_append, List.drop_eq_nil_of_le (by rwa [toBytes_length]), List.nil_append, toBytes_length]

/-- A frame of a payload below 65,536 bytes is taken for the command of its payload, or is malformed. -/
theorem receive_envelope {port : PortId} {kind : Nat} {payload : List Byte} (hkind : kind < 256)
    (hpayload : payload.length < 65536) :
    receive port (envelope kind payload) = (payloadCommand port kind payload).getD (.malformedFrame port) := by
  have hlength : (envelope kind payload).length = payload.length + 7 := envelope_length kind payload
  have hbody : (frameBody kind payload).length = payload.length + 7 - 4 := by simp [frameBody]; omega
  have htake : (envelope kind payload).take (payload.length + 7 - 4) = frameBody kind payload := List.take_left' hbody
  have hdrop : (envelope kind payload).drop (payload.length + 7 - 4) = toBytes 4 (checkValue (frameBody kind payload)) :=
    List.drop_left' hbody
  have hrest : (frameBody kind payload).drop 3 = payload := List.drop_left' (by simp)
  have hfield : fieldAt (envelope kind payload) 1 2 = payload.length := by
    simp only [envelope, frameBody, List.append_assoc]
    rw [fieldAt_toBytes_append (by decide), fieldAt_toBytes hpayload]
  have hfirst : fieldAt (envelope kind payload) 0 1 = kind := by
    simp only [envelope, frameBody, List.append_assoc]
    rw [fieldAt_toBytes (by simpa using hkind)]
  have hgood : ¬ (payload.length + 7 < 7 ∨ checkValue (frameBody kind payload) ≠ checkValue (frameBody kind payload)) := by simp
  simp only [receive, hlength, htake, hdrop, hrest, hfield, hfirst, ofBytes_toBytes (checkValue_lt _)]
  rw [if_neg hgood, if_neg (not_not_intro rfl)]

/-! ### Pieces of equal size -/

theorem length_flatMap_of_size {α : Type} {size : Nat} {f : α → List Byte} {items : List α}
    (hsize : ∀ a ∈ items, (f a).length = size) : (items.flatMap f).length = items.length * size := by
  rw [List.length_flatMap, List.map_congr_left hsize, List.map_const', List.sum_replicate, smul_eq_mul]

/-- Items that read back one by one read back from their pieces. -/
theorem map_pieces_flatMap {α : Type} {size : Nat} {f : α → List Byte} {g : List Byte → α} {items : List α}
    (hsize : ∀ a ∈ items, (f a).length = size) (hread : ∀ a ∈ items, g (f a) = a) :
    (pieces size items.length (items.flatMap f)).map g = items := by
  induction items with
  | nil => rfl
  | cons a rest ih =>
    have hrest := ih (fun b hb => hsize b (List.mem_cons_of_mem _ hb)) (fun b hb => hread b (List.mem_cons_of_mem _ hb))
    have ha := hsize a List.mem_cons_self
    rw [List.flatMap_cons, List.length_cons, pieces, List.take_left' ha, List.drop_left' ha, List.map_cons, hrest,
      hread a List.mem_cons_self]

/-! ### Digit positions (section 12.4) -/

theorem bytesOfDigits_length (ds : List Nat) : (bytesOfDigits ds).length = (ds.length + 1) / 2 := by
  induction ds using bytesOfDigits.induct with
  | case1 d e rest ih =>
    simp only [bytesOfDigits, List.length_cons, ih]
    omega
  | case2 d => simp [bytesOfDigits]
  | case3 => rfl

theorem digitsOfBytes_bytesOfDigits {ds : List Nat} (heven : ds.length % 2 = 0) (h : ∀ d ∈ ds, d < 16) :
    digitsOfBytes (bytesOfDigits ds) = ds := by
  induction ds using bytesOfDigits.induct with
  | case1 d e rest ih =>
    have hd : d < 16 := h d (by simp)
    have he : e < 16 := h e (by simp)
    have hbyte : (BitVec.ofNat 8 (16 * d + e)).toNat = 16 * d + e := by rw [BitVec.toNat_ofNat]; omega
    have hhigh : (16 * d + e) / 16 = d := by omega
    have hlow : (16 * d + e) % 16 = e := by omega
    have hrest := ih (by simp only [List.length_cons] at heven; omega) (fun x hx => h x (by simp [hx]))
    rw [digitsOfBytes] at hrest ⊢
    simp only [bytesOfDigits, List.flatMap_cons, hbyte, hhigh, hlow, hrest, List.cons_append, List.nil_append]
  | case2 d => simp at heven
  | case3 => rfl

/-! ### Call records (section 12.4) -/

section
variable {r : CallRecord} (hr : RecordRanges r)
include hr

theorem recordBytes_length : (recordBytes r).length = 48 := by
  simp [recordBytes, bytesOfDigits_length, hr.calling.2.1, hr.called.2.1]

/-- A record in the ranges of its fields is read back from its 48 bytes. -/
theorem recordOf_recordBytes : recordOf (recordBytes r) = r := by
  obtain ⟨hcallingCount, hcallingLength, hcallingDigits⟩ := hr.calling
  obtain ⟨hcalledCount, hcalledLength, hcalledDigits⟩ := hr.called
  have hcallingBytes : (bytesOfDigits r.calling.digits).length = 10 := by rw [bytesOfDigits_length, hcallingLength]
  have hcalledBytes : (bytesOfDigits r.called.digits).length = 10 := by rw [bytesOfDigits_length, hcalledLength]
  have hswitch := hr.switchId
  have hservice := hr.service
  have hword : r.switchId * 32768 + r.service * 32 < 256 ^ 3 := by omega
  have hswitchBack : (r.switchId * 32768 + r.service * 32) / 32768 = r.switchId := by omega
  have hserviceBack : (r.switchId * 32768 + r.service * 32) / 32 % 1024 = r.service := by omega
  obtain ⟨hkind, hcause, -, -, htrunk, hsequence, hstart, hduration, hcharge, hflags, -, -⟩ := hr
  have hcallingBack := digitsOfBytes_bytesOfDigits (by rw [hcallingLength]) hcallingDigits
  have hcalledBack := digitsOfBytes_bytesOfDigits (by rw [hcalledLength]) hcalledDigits
  have htake (xs ys : List Byte) (h : xs.length = 10) : (xs ++ ys).take 10 = xs := List.take_left' h
  have hskip (xs ys : List Byte) (h : xs.length = 10) {k : Nat} (hk : 10 ≤ k) : (xs ++ ys).drop k = ys.drop (k - 10) := by
    rw [List.drop_append, List.drop_eq_nil_of_le (h ▸ hk), List.nil_append, h]
  have hpass (xs ys : List Byte) (h : xs.length = 10) {k : Nat} (hk : 10 ≤ k) (n : Nat) :
      fieldAt (xs ++ ys) k n = fieldAt ys (k - 10) n := by rw [fieldAt_append (h ▸ hk), h]
  simp (disch := omega) only [recordBytes, List.append_assoc, recordOf, fieldAt_toBytes_append, fieldAt_toBytes, Nat.reduceSub,
    hswitchBack, hserviceBack, drop_toBytes_append, List.drop_zero, htake _ _ hcallingBytes, htake _ _ hcalledBytes, hcallingBack,
    hcalledBack, hskip _ _ hcallingBytes, hpass _ _ hcallingBytes]

end

end

end Sys2Proof.Machine

namespace Sys2Proof.Machine

open Sys2Proof.Safety

section

/-! ### File frames and Store frames read back (sections 12.2, 12.3) -/

theorem receive_of_payload {port : PortId} {kind : Nat} {payload : List Byte} {i : Instr} (hkind : kind < 256)
    (hpayload : payload.length < 65536) (h : payloadCommand port kind payload = some i) :
    receive port (envelope kind payload) = i := by
  rw [receive_envelope hkind hpayload, h, Option.getD_some]

theorem laneOf_val (l : Fin 16) : laneOf l.val = some l := dif_pos l.isLt

theorem tagOf_val (t : Fin 8) : tagOf t.val = some t := dif_pos t.isLt

theorem statusOf_statusCode (status : AckStatus) : statusOf (statusCode status) = some status := by cases status <;> rfl

theorem lane_lt_byte (l : Fin 16) : l.val < 256 ^ 1 := l.isLt.trans (by decide)

theorem tag_lt_byte (t : Fin 8) : t.val < 256 ^ 1 := t.isLt.trans (by decide)

theorem fileOpenCommand_bytes (lane : Fin 16) (continued : Bool) {switchId fileNumber : Nat} (hswitch : switchId < 512)
    (hfile : fileNumber < 4294967296) :
    fileOpenCommand (toBytes 1 lane.val ++ toBytes 2 (32768 * continued.toNat + switchId) ++ toBytes 4 fileNumber)
      = some (.fileOpen lane continued switchId fileNumber) := by
  have hlane := lane_lt_byte lane
  have hword : 32768 * continued.toNat + switchId < 256 ^ 2 := by cases continued <;> simp <;> omega
  have hflag : decide (32768 ≤ 32768 * continued.toNat + switchId) = continued := by
    cases continued <;> simp
    omega
  have hlow : (32768 * continued.toNat + switchId) % 512 = switchId := by cases continued <;> simp <;> omega
  rw [fileOpenCommand, if_pos (by simp)]
  simp (disch := omega) only [List.append_assoc, fieldAt_toBytes_append, fieldAt_toBytes, fieldAt_toBytes_last, Nat.reduceSub,
    laneOf_val, hflag, hlow, Option.map_some]

theorem recordBlockCommand_bytes (lane : Fin 16) {blockNumber : Nat} {records : List CallRecord}
    (hblock : blockNumber < 4294967296) (hsome : 1 ≤ records.length) (hmax : records.length ≤ 170)
    (hrecords : ∀ r ∈ records, RecordRanges r) :
    recordBlockCommand (toBytes 1 lane.val ++ toBytes 4 blockNumber ++ toBytes 1 records.length ++ records.flatMap recordBytes)
      = some (.recordBlock lane blockNumber records) := by
  have hlane := lane_lt_byte lane
  have hsize : (records.flatMap recordBytes).length = records.length * 48 :=
    length_flatMap_of_size fun r h => recordBytes_length (hrecords r h)
  have hread : (pieces 48 records.length (records.flatMap recordBytes)).map recordOf = records :=
    map_pieces_flatMap (fun r h => recordBytes_length (hrecords r h)) (fun r h => recordOf_recordBytes (hrecords r h))
  have hcount : fieldAt (toBytes 1 lane.val ++ toBytes 4 blockNumber ++ toBytes 1 records.length ++ records.flatMap recordBytes) 5 1
      = records.length := by
    simp (disch := omega) only [List.append_assoc, fieldAt_toBytes_append, fieldAt_toBytes, Nat.reduceSub]
  rw [recordBlockCommand, hcount, if_pos]
  · simp (disch := omega) only [List.append_assoc, fieldAt_toBytes_append, fieldAt_toBytes, Nat.reduceSub, drop_toBytes_append,
      List.drop_zero, laneOf_val, hread, Option.map_some]
  · simp only [List.length_append, toBytes_length, hsize, Config.blockRecordLimit]
    omega

theorem fileCloseCommand_bytes (lane : Fin 16) {recordCount durationSum chargeSum : Nat} (hcount : recordCount < 256 ^ 4)
    (hduration : durationSum < 256 ^ 8) (hcharge : chargeSum < 256 ^ 8) :
    fileCloseCommand (toBytes 1 lane.val ++ toBytes 4 recordCount ++ toBytes 8 durationSum ++ toBytes 8 chargeSum)
      = some (.fileClose lane recordCount durationSum chargeSum) := by
  have hlane := lane_lt_byte lane
  rw [fileCloseCommand, if_pos (by simp)]
  simp (disch := omega) only [List.append_assoc, fieldAt_toBytes_append, fieldAt_toBytes, fieldAt_toBytes_last, Nat.reduceSub,
    laneOf_val, Option.map_some]

theorem fileAbortCommand_bytes (lane : Fin 16) : fileAbortCommand (toBytes 1 lane.val) = some (.fileAbort lane) := by
  rw [fileAbortCommand, if_pos (by simp), fieldAt_toBytes_last (lane_lt_byte lane), laneOf_val, Option.map_some]

theorem storeAckCommand_bytes (tag : Fin 8) {segmentId edition : Nat} (status : AckStatus) (hid : segmentId < 256 ^ 3)
    (hedition : edition < 256 ^ 1) :
    storeAckCommand (operationBytes tag segmentId edition ++ toBytes 1 (statusCode status))
      = some (.storeAck tag segmentId edition status) := by
  have htag := tag_lt_byte tag
  have hstatus : statusCode status < 256 ^ 1 := by cases status <;> decide
  rw [storeAckCommand, if_pos (by simp [operationBytes])]
  simp (disch := omega) only [operationBytes, List.append_assoc, fieldAt_toBytes_append, fieldAt_toBytes, fieldAt_toBytes_last,
    Nat.reduceSub, tagOf_val, statusOf_statusCode]

theorem readDataCommand_bytes (tag : Fin 8) (last : Bool) {bytes : List Byte} (hbytes : bytes.length ≤ 16384) :
    readDataCommand (toBytes 1 tag.val ++ toBytes 1 (128 * last.toNat) ++ bytes) = some (.readData tag last bytes) := by
  have htag := tag_lt_byte tag
  have hmarker : 128 * last.toNat < 256 ^ 1 := by cases last <;> decide
  have hlast : decide (128 ≤ 128 * last.toNat) = last := by cases last <;> rfl
  rw [readDataCommand, if_pos]
  · simp (disch := omega) only [List.append_assoc, fieldAt_toBytes_append, fieldAt_toBytes, Nat.reduceSub, drop_toBytes_append,
      List.drop_zero, tagOf_val, hlast, Option.map_some]
  · simp only [List.length_append, toBytes_length, Config.partLimit]
    omega

/-- The frame of a file or Store command in the ranges of its operands is read back. -/
theorem receive_linkFrame {i : Instr} {port : PortId} {bytes : List Byte} (hwell : WellFormed.command i = true)
    (hframe : frameOf i = some (port, bytes))
    (hi : (∃ p, i = .linkKeep p) ∨ (∃ l c w n, i = .fileOpen l c w n) ∨ (∃ l b rs, i = .recordBlock l b rs)
      ∨ (∃ l a b c, i = .fileClose l a b c) ∨ (∃ l, i = .fileAbort l) ∨ (∃ t id e x, i = .storeAck t id e x)
      ∨ (∃ t last bs, i = .readData t last bs)) : receive port bytes = i := by
  obtain ⟨p, rfl⟩ | ⟨lane, continued, switchId, fileNumber, rfl⟩ | ⟨lane, blockNumber, records, rfl⟩
    | ⟨lane, recordCount, durationSum, chargeSum, rfl⟩ | ⟨lane, rfl⟩ | ⟨tag, segmentId, edition, status, rfl⟩
    | ⟨tag, last, payload, rfl⟩ := hi
  all_goals obtain ⟨rfl, rfl⟩ := Prod.mk.inj (Option.some.inj hframe)
  · exact receive_of_payload (by decide) (by decide) (by cases p <;> rfl)
  · simp only [WellFormed.command, Bool.and_eq_true, decide_eq_true_eq, wellFormed_fits] at hwell
    obtain ⟨hswitch, hfile⟩ := hwell
    exact receive_of_payload (by decide) (by simp) (fileOpenCommand_bytes lane continued hswitch hfile)
  · simp only [WellFormed.command, WellFormed.records, Bool.and_eq_true, decide_eq_true_eq, wellFormed_fits, List.all_eq_true] at hwell
    obtain ⟨hblock, ⟨hsome, hmax⟩, hrecords⟩ := hwell
    have hmax : records.length ≤ 170 := hmax
    have hranges (r : CallRecord) (hr : r ∈ records) := recordRanges_of_wellFormed (hrecords r hr)
    have hsize : (records.flatMap recordBytes).length = records.length * 48 :=
      length_flatMap_of_size fun r h => recordBytes_length (hranges r h)
    refine receive_of_payload (by decide) ?_ (recordBlockCommand_bytes lane hblock hsome hmax hranges)
    simp only [List.length_append, toBytes_length, hsize]
    omega
  · simp only [WellFormed.command, Bool.and_eq_true, wellFormed_fits] at hwell
    obtain ⟨⟨hcount, hduration⟩, hcharge⟩ := hwell
    exact receive_of_payload (by decide) (by simp) (fileCloseCommand_bytes lane hcount hduration hcharge)
  · exact receive_of_payload (by decide) (by simp) (fileAbortCommand_bytes lane)
  · simp only [WellFormed.command, Bool.and_eq_true, wellFormed_fits] at hwell
    obtain ⟨hid, hedition⟩ := hwell
    exact receive_of_payload (by decide) (by simp [operationBytes]) (storeAckCommand_bytes tag status hid hedition)
  · have hbytes : payload.length ≤ 16384 := of_decide_eq_true hwell
    refine receive_of_payload (by decide) ?_ (readDataCommand_bytes tag last hbytes)
    simp only [List.length_append, toBytes_length]
    omega

end

section

/-! ### The tests of bad frames (R182) -/

/-- The two commands that a bad frame is taken for. -/
def isBadFrame : Instr → Bool
  | .frameCheckFailed _ | .malformedFrame _ => true
  | _ => false

section
variable {tag : Nat} {args : List Byte} {i : Instr}

theorem withLength_good {n : Nat} {j : Instr} (hi : isBadFrame i = false) (h : withLength n args i = some j) :
    isBadFrame j = false := by
  unfold withLength at h
  split at h
  · exact Option.some.inj h ▸ hi
  · cases h

theorem tableWriteCommand_good (h : tableWriteCommand tag args = some i) : isBadFrame i = false := by
  unfold tableWriteCommand at h
  split at h
  · cases h
  · exact withLength_good rfl h

theorem setCommand_good (h : setCommand tag args = some i) : isBadFrame i = false := by
  unfold setCommand at h
  dsimp only at h
  split at h
  · split at h <;> cases h <;> rfl
  · cases h

theorem queryCommand_good (h : queryCommand tag args = some i) : isBadFrame i = false := by
  unfold queryCommand at h
  dsimp only at h
  split at h
  · split at h <;> cases h <;> rfl
  · cases h

theorem resetCommand_good (h : resetCommand tag args = some i) : isBadFrame i = false := by
  unfold resetCommand at h
  split at h
  · split at h <;> cases h <;> rfl
  · cases h

theorem namedRequest_good {code : Nat} (h : namedRequest tag code args = some i) : isBadFrame i = false := by
  unfold namedRequest at h
  split at h
  case h_4 => exact tableWriteCommand_good h
  case h_17 => exact setCommand_good h
  case h_18 => exact queryCommand_good h
  case h_19 => exact resetCommand_good h
  case h_20 => cases h
  all_goals exact withLength_good rfl h

theorem controlCommand_good (code : Nat) : isBadFrame (controlCommand tag code args) = false := by
  unfold controlCommand
  cases h : namedRequest tag code args with
  | none => rfl
  | some i => exact namedRequest_good h

end

section
variable {p : List Byte}

theorem map_good {α : Type} {x : Option α} {f : α → Instr} (hf : ∀ a, isBadFrame (f a) = false) {i : Instr}
    (h : x.map f = some i) : isBadFrame i = false := by
  obtain ⟨a, -, rfl⟩ := Option.map_eq_some_iff.mp h
  exact hf a

theorem laneOf_eq_none {n : Nat} : laneOf n = none ↔ 15 < n := by
  unfold laneOf
  split <;> simp <;> omega

theorem tagOf_eq_none {n : Nat} : tagOf n = none ↔ 7 < n := by
  unfold tagOf
  split <;> simp <;> omega

theorem statusOf_eq_none {n : Nat} : statusOf n = none ↔ 3 < n := by
  obtain _ | _ | _ | _ | n := n <;> simp [statusOf]

/-- A payload whose layout has a fixed length and a field that is read before the command. -/
theorem guarded_eq_none {α β : Type} {c : Prop} [Decidable c] {x : Option α} {f : α → β} :
    (if c then x.map f else none) = none ↔ ¬ c ∨ x = none := by
  split <;> simp_all

theorem storeAckCommand_eq_none :
    storeAckCommand p = none ↔ p.length ≠ 6 ∨ tagOf (fieldAt p 0 1) = none ∨ statusOf (fieldAt p 5 1) = none := by
  unfold storeAckCommand
  cases tagOf (fieldAt p 0 1) <;> cases statusOf (fieldAt p 5 1) <;> simp

theorem storeAckCommand_good {i : Instr} (h : storeAckCommand p = some i) : isBadFrame i = false := by
  unfold storeAckCommand at h
  split at h
  · split at h <;> cases h
    rfl
  · cases h

/-- A payload is taken for no command exactly when it is malformed. -/
theorem payloadCommand_eq_none {port : PortId} {kind : Nat} :
    payloadCommand port kind p = none ↔ MalformedPayload port kind p := by
  unfold payloadCommand
  split
  case h_1 => cases port <;> simp [MalformedPayload]
  case h_2 => simp only [fileOpenCommand, guarded_eq_none, laneOf_eq_none, MalformedPayload]
  case h_3 =>
    simp only [recordBlockCommand, guarded_eq_none, laneOf_eq_none, MalformedPayload, Config.blockRecordLimit]
    omega
  case h_4 => simp only [fileCloseCommand, guarded_eq_none, laneOf_eq_none, MalformedPayload]
  case h_5 => simp only [fileAbortCommand, guarded_eq_none, laneOf_eq_none, MalformedPayload]
  case h_6 =>
    unfold controlRequestCommand
    split <;> simp_all [MalformedPayload]
  case h_7 => simp only [storeAckCommand_eq_none, tagOf_eq_none, statusOf_eq_none, MalformedPayload]
  case h_8 =>
    simp only [readDataCommand, guarded_eq_none, tagOf_eq_none, MalformedPayload, Config.partLimit]
    omega
  case h_9 =>
    unfold MalformedPayload
    split <;> simp_all

theorem payloadCommand_good {port : PortId} {kind : Nat} {i : Instr} (h : payloadCommand port kind p = some i) :
    isBadFrame i = false := by
  have hguarded {α : Type} {c : Prop} [Decidable c] {x : Option α} {f : α → Instr} (hf : ∀ a, isBadFrame (f a) = false)
      (h : (if c then x.map f else none) = some i) : isBadFrame i = false := by
    split at h
    · exact map_good hf h
    · cases h
  unfold payloadCommand at h
  split at h
  case h_1 =>
    split at h <;> cases h
    rfl
  case h_6 =>
    unfold controlRequestCommand at h
    split at h
    · cases h
    · exact Option.some.inj h ▸ controlCommand_good _
  case h_7 => exact storeAckCommand_good h
  case h_9 => cases h
  all_goals exact hguarded (fun _ => rfl) h

end

/-- Settles O25: each frame by the fields of its layout, and each test of a bad frame by what it lets through. -/
theorem linkFramesReadBack : Obligations.LinkFramesReadBack := by
  refine ⟨fun i port bytes hwell hframe hi => receive_linkFrame hwell hframe hi, fun port frame => ?_⟩
  intro body payload checked
  have hchecked : (frame.length < 7 ∨ ofBytes (frame.drop (frame.length - 4)) ≠ checkValue body) ↔ ¬ checked := by
    simp only [checked, not_and_or, Nat.not_le, ne_eq]
  have hunfold : receive port frame = if frame.length < 7 ∨ ofBytes (frame.drop (frame.length - 4)) ≠ checkValue body then
        .frameCheckFailed port
      else if fieldAt frame 1 2 ≠ payload.length then .malformedFrame port
      else (payloadCommand port (fieldAt frame 0 1) payload).getD (.malformedFrame port) := rfl
  rw [hunfold]
  by_cases hc : checked
  · rw [if_neg (fun h => hchecked.mp h hc), ← payloadCommand_eq_none]
    by_cases hlength : fieldAt frame 1 2 ≠ payload.length
    · simp [hlength, hc]
    · rw [if_neg hlength]
      cases hcommand : payloadCommand port (fieldAt frame 0 1) payload with
      | none => simp [hc]
      | some i =>
        have hgood := payloadCommand_good hcommand
        have hcheck : i ≠ .frameCheckFailed port := fun h => by rw [h] at hgood; cases hgood
        have hmalformed : i ≠ .malformedFrame port := fun h => by rw [h] at hgood; cases hgood
        simp [hcheck, hmalformed, hc, hlength]
  · rw [if_pos (hchecked.mpr hc)]
    simp [hc]

end

end Sys2Proof.Machine

namespace Sys2Proof.Machine

open Sys2Proof.Safety

section

/-! ### Switch maps (R184) -/

/-- The bits of a byte put together from bit 7 down. -/
theorem bit_of_foldl (b : Nat → Bool) {j : Nat} (hj : j < 8) :
    ((List.range 8).foldl (fun v k => v * 2 + (b k).toNat) 0) / 2 ^ (7 - j) % 2 = (b j).toNat := by
  have hrange : List.range 8 = [0, 1, 2, 3, 4, 5, 6, 7] := by decide
  have hbit (k : Nat) : (b k).toNat ≤ 1 := Bool.toNat_le _
  have h0 := hbit 0
  have h1 := hbit 1
  have h2 := hbit 2
  have h3 := hbit 3
  have h4 := hbit 4
  have h5 := hbit 5
  have h6 := hbit 6
  have h7 := hbit 7
  simp only [hrange, List.foldl_cons, List.foldl_nil]
  interval_cases j <;> simp only [Nat.reduceSub, Nat.reducePow] <;> omega

theorem foldl_bits_lt (b : Nat → Bool) (n : Nat) : (List.range n).foldl (fun v k => v * 2 + (b k).toNat) 0 < 2 ^ n := by
  induction n with
  | zero => simp
  | succ n ih =>
    have hbit : (b n).toNat ≤ 1 := Bool.toNat_le _
    rw [List.range_succ, List.foldl_append, List.foldl_cons, List.foldl_nil, pow_succ]
    omega

theorem switchMapByte_bit (switches : List Nat) (i : Nat) {j : Nat} (hj : j < 8) :
    (switchMapByte switches i).toNat / 2 ^ (7 - j) % 2 = (switches.contains (8 * i + j)).toNat := by
  have hlt := foldl_bits_lt (fun k => switches.contains (8 * i + k)) 8
  rw [switchMapByte, BitVec.toNat_ofNat, Nat.mod_eq_of_lt hlt]
  exact bit_of_foldl (fun k => switches.contains (8 * i + k)) hj

theorem mem_switchesOf {switches : List Nat} {n : Nat} : n ∈ switchesOf (switchMap switches) ↔ n < 512 ∧ n ∈ switches := by
  have hbit (hn : n < 512) : ((switchMap switches).getD (n / 8) 0).toNat / 2 ^ (7 - n % 8) % 2 = (switches.contains n).toNat := by
    have hget : (switchMap switches).getD (n / 8) 0 = switchMapByte switches (n / 8) := by
      rw [switchMap, List.getD_eq_getElem _ _ (by simp; omega), List.getElem_map, List.getElem_range]
    rw [hget, switchMapByte_bit _ _ (Nat.mod_lt _ (by decide)), Nat.div_add_mod]
  simp only [switchesOf, List.mem_filter, List.mem_range, decide_eq_true_eq]
  refine and_congr_right fun hn => ?_
  rw [hbit hn, Bool.toNat_eq_one, List.contains_iff_mem]

/-- A switch set in ascending order is read back from its map. -/
theorem switchesOf_switchMap {switches : List Nat} (hsorted : switches.Pairwise (· < ·)) (hmax : ∀ w ∈ switches, w < 512) :
    switchesOf (switchMap switches) = switches := by
  have hfiltered : (switchesOf (switchMap switches)).Pairwise (· < ·) := List.pairwise_lt_range.filter _
  exact hfiltered.eq_of_mem_iff hsorted fun n => mem_switchesOf.trans ⟨And.right, fun h => ⟨hmax n h, h⟩⟩

theorem switchMap_length (switches : List Nat) : (switchMap switches).length = 64 := by simp [switchMap]

/-! ### Loaded entries (section 12.8) -/

theorem loadEntryBytes_length (e : LoadEntry) : (loadEntryBytes e).length = 104 := by
  simp [loadEntryBytes, flagByte, switchMap_length]

theorem loadEntryOf_loadEntryBytes {e : LoadEntry} (h : WellFormed.loadEntry e = true) : loadEntryOf (loadEntryBytes e) = e := by
  simp only [WellFormed.loadEntry, WellFormed.switchSet, Bool.and_eq_true, wellFormed_fits, decide_eq_true_eq, List.all_eq_true] at h
  obtain ⟨⟨⟨⟨⟨⟨⟨⟨⟨⟨⟨⟨⟨⟨⟨hid, hedition⟩, hcls⟩, hday⟩, hbank⟩, hgeneration⟩, hcount⟩, hlength⟩, hcheck⟩, hsum⟩, hfirst⟩, hlast⟩,
    hexpiry⟩, hverify⟩, hreason⟩, hsorted, hmax⟩ := h
  have hflag : e.late.toNat < 256 ^ 1 := (Bool.toNat_le _).trans_lt (by decide)
  have hlate : decide (e.late.toNat % 2 = 1) = e.late := by cases e.late <;> rfl
  simp (disch := omega) only [loadEntryBytes, flagByte, List.append_assoc, loadEntryOf, fieldAt_toBytes_append, fieldAt_toBytes,
    Nat.reduceSub, drop_toBytes_append, List.drop_zero, hlate, switchesOf_switchMap hsorted hmax]

/-! ### Table entries (R184) -/

theorem ofWord16_toWord16 {v : Int} (hlow : -32768 ≤ v) (hhigh : v ≤ 32767) : ofWord16 (toWord16 v) = v := by
  unfold ofWord16 toWord16
  split <;> omega

theorem toWord16_lt (v : Int) : toWord16 v < 256 ^ 2 := by
  unfold toWord16
  omega

theorem switchPairOf_bytes {e : Nat × Int} (h : WellFormed.switchPair e = true) :
    switchPairOf (toBytes 1 e.1 ++ toBytes 2 (toWord16 e.2)) = e := by
  simp only [WellFormed.switchPair, Bool.and_eq_true, wellFormed_fits, decide_eq_true_eq] at h
  obtain ⟨⟨hswitch, hlow⟩, hhigh⟩ := h
  have hword := toWord16_lt e.2
  simp (disch := omega) only [switchPairOf, fieldAt_toBytes_append, fieldAt_toBytes, fieldAt_toBytes_last, Nat.reduceSub,
    ofWord16_toWord16 hlow hhigh]

theorem dictionaryNumber_length {d : Number} (h : WellFormed.number 12 d = true) :
    (toBytes 1 d.count ++ bytesOfDigits d.digits).length = 7 := by
  obtain ⟨-, hlength, -⟩ := wellFormed_number.mp h
  simp [bytesOfDigits_length, hlength]

theorem dictionaryNumberOf_bytes {d : Number} (h : WellFormed.number 12 d = true) :
    dictionaryNumberOf (toBytes 1 d.count ++ bytesOfDigits d.digits) = d := by
  obtain ⟨hcount, hlength, hdigits⟩ := wellFormed_number.mp h
  have htake : (bytesOfDigits d.digits).take 6 = bytesOfDigits d.digits :=
    List.take_of_length_le (by rw [bytesOfDigits_length, hlength])
  simp (disch := omega) only [dictionaryNumberOf, fieldAt_toBytes, drop_toBytes_append, Nat.reduceSub, List.drop_zero, htake,
    digitsOfBytes_bytesOfDigits (by rw [hlength]) hdigits]

theorem tableNamed_code (table : TableName) : tableNamed table.code = some table := by cases table <;> rfl

/-- The entries of a TABLE_WRITE are read back from their bytes. -/
theorem tableEntriesOf_bytes {xs : TableEntries} (h : WellFormed.tableEntries xs = true) :
    (tableEntryBytes xs).length = entryCount xs * tableEntrySize (tableOf xs)
      ∧ tableEntriesOf (tableOf xs) (entryCount xs) (tableEntryBytes xs) = xs := by
  have hnumbers {n : Nat} {vs : List Nat} (hvs : ∀ v ∈ vs, v < 256 ^ n) :
      (pieces n vs.length (vs.flatMap (toBytes n))).map ofBytes = vs :=
    map_pieces_flatMap (fun v _ => toBytes_length n v) (fun v hv => ofBytes_toBytes (hvs v hv))
  simp only [WellFormed.tableEntries, Bool.and_eq_true] at h
  obtain ⟨-, hentries⟩ := h
  cases xs with
  | serviceMap vs =>
    simp only [List.all_eq_true, wellFormed_fits] at hentries
    exact ⟨length_flatMap_of_size fun v _ => toBytes_length 1 v, congrArg TableEntries.serviceMap (hnumbers hentries)⟩
  | classTable vs =>
    simp only [List.all_eq_true, wellFormed_fits] at hentries
    exact ⟨length_flatMap_of_size fun v _ => toBytes_length 2 v, congrArg TableEntries.classTable (hnumbers hentries)⟩
  | switchTable es =>
    simp only [List.all_eq_true] at hentries
    have hsize (e : Nat × Int) : (toBytes 1 e.1 ++ toBytes 2 (toWord16 e.2)).length = 3 := by simp
    exact ⟨length_flatMap_of_size fun e _ => hsize e, congrArg TableEntries.switchTable
      (map_pieces_flatMap (fun e _ => hsize e) fun e he => switchPairOf_bytes (hentries e he))⟩
  | prefixDictionary ds =>
    simp only [List.all_eq_true] at hentries
    exact ⟨length_flatMap_of_size fun d hd => dictionaryNumber_length (hentries d hd), congrArg TableEntries.prefixDictionary
      (map_pieces_flatMap (fun d hd => dictionaryNumber_length (hentries d hd)) fun d hd => dictionaryNumberOf_bytes (hentries d hd))⟩

end

end Sys2Proof.Machine

namespace Sys2Proof.Machine

open Sys2Proof.Safety

section

/-! ### Control requests read back (section 12.6) -/

/-- A CONTROL REQUEST payload of two bytes or more is the request that it names, or the unknown one. -/
theorem receive_request {tag code : Nat} {args : List Byte} (htag : tag < 256) (hcode : code < 256)
    (hargs : args.length ≤ 65533) : receive .feed (envelope 0x18 (toBytes 1 tag ++ toBytes 1 code ++ args))
      = (namedRequest tag code args).getD (.unknownControlRequest tag code args) := by
  have hlength : (toBytes 1 tag ++ toBytes 1 code ++ args).length = args.length + 2 := by simp; omega
  have hcommand : payloadCommand .feed 0x18 (toBytes 1 tag ++ toBytes 1 code ++ args) = some (controlCommand tag code args) := by
    have hlong : ¬ (toBytes 1 tag ++ toBytes 1 code ++ args).length < 2 := by omega
    have hread : payloadCommand .feed 0x18 (toBytes 1 tag ++ toBytes 1 code ++ args)
        = controlRequestCommand (toBytes 1 tag ++ toBytes 1 code ++ args) := rfl
    rw [hread, controlRequestCommand, if_neg hlong]
    simp (disch := omega) only [List.append_assoc, fieldAt_toBytes_append, fieldAt_toBytes, Nat.reduceSub, drop_toBytes_append,
      List.drop_zero]
  exact receive_of_payload (by decide) (by omega) hcommand

/-- The frame of a request whose arguments name it is read back. -/
theorem receive_of_named {port : PortId} {bytes args : List Byte} {tag code : Nat} {i : Instr} (htag : tag < 256)
    (hcode : code < 256) (hargs : args.length ≤ 65533) (hnamed : namedRequest tag code args = some i)
    (hframe : requestFrame tag code args = (port, bytes)) : port = .feed ∧ receive port bytes = i := by
  obtain ⟨rfl, rfl⟩ := Prod.mk.inj hframe
  exact ⟨rfl, by rw [receive_request htag hcode hargs, hnamed, Option.getD_some]⟩

theorem withLength_of {n : Nat} {args : List Byte} (h : args.length = n) (i : Instr) : withLength n args i = some i := if_pos h

section
variable {tag : Nat}

theorem named_catalogLoad {entries : List LoadEntry} (hcount : entries.length < 256)
    (hentries : ∀ e ∈ entries, WellFormed.loadEntry e = true) :
    namedRequest tag 0x02 (toBytes 1 entries.length ++ entries.flatMap loadEntryBytes) = some (.catalogLoad tag entries) := by
  have hsize : (entries.flatMap loadEntryBytes).length = entries.length * 104 :=
    length_flatMap_of_size fun e _ => loadEntryBytes_length e
  have hread : (pieces 104 entries.length (entries.flatMap loadEntryBytes)).map loadEntryOf = entries :=
    map_pieces_flatMap (fun e _ => loadEntryBytes_length e) fun e he => loadEntryOf_loadEntryBytes (hentries e he)
  have hnamed : namedRequest tag 0x02 (toBytes 1 entries.length ++ entries.flatMap loadEntryBytes)
      = catalogLoadCommand tag (toBytes 1 entries.length ++ entries.flatMap loadEntryBytes) := rfl
  simp (disch := omega) only [hnamed, catalogLoadCommand, fieldAt_toBytes, drop_toBytes_append, Nat.reduceSub, List.drop_zero, hread]
  exact withLength_of (by rw [List.length_append, toBytes_length, hsize, Nat.mul_comm]) _

theorem startIndexOf_word {i : Option Nat} (h : WellFormed.startIndex i = true) :
    i.getD 0xFFFF < 256 ^ 2 ∧ startIndexOf (i.getD 0xFFFF) = i := by
  cases i with
  | none => exact ⟨by decide, rfl⟩
  | some i =>
    have hlt : i < 65535 := of_decide_eq_true h
    exact ⟨hlt.trans (by decide), if_neg (Nat.ne_of_lt hlt)⟩

theorem named_tableWrite {bank : Nat} {startIndex : Option Nat} {xs : TableEntries} (hbank : bank < 256 ^ 1)
    (hstart : WellFormed.startIndex startIndex = true) (hentries : WellFormed.tableEntries xs = true) :
    namedRequest tag 0x11 (toBytes 1 bank ++ tableByte xs ++ toBytes 2 (startIndex.getD 0xFFFF) ++ toBytes 1 (entryCount xs)
        ++ tableEntryBytes xs) = some (.tableWrite tag bank startIndex xs) := by
  obtain ⟨hsize, hread⟩ := tableEntriesOf_bytes hentries
  obtain ⟨hword, hindex⟩ := startIndexOf_word hstart
  have hcount : entryCount xs < 256 ^ 1 := by
    simp only [WellFormed.tableEntries, Bool.and_eq_true, wellFormed_fits] at hentries
    exact hentries.1
  have htable : (tableOf xs).code < 256 ^ 1 := by cases tableOf xs <;> decide
  generalize hargs : toBytes 1 bank ++ tableByte xs ++ toBytes 2 (startIndex.getD 0xFFFF) ++ toBytes 1 (entryCount xs)
    ++ tableEntryBytes xs = args
  have hlength : args.length = 5 + entryCount xs * tableEntrySize (tableOf xs) := by
    simp only [← hargs, tableByte, List.length_append, toBytes_length, hsize]
  have hbankField : fieldAt args 0 1 = bank := by
    simp (disch := omega) only [← hargs, tableByte, List.append_assoc, fieldAt_toBytes]
  have htableField : fieldAt args 1 1 = (tableOf xs).code := by
    simp (disch := omega) only [← hargs, tableByte, List.append_assoc, fieldAt_toBytes_append, fieldAt_toBytes, Nat.reduceSub]
  have hstartField : fieldAt args 2 2 = startIndex.getD 0xFFFF := by
    simp (disch := omega) only [← hargs, tableByte, List.append_assoc, fieldAt_toBytes_append, fieldAt_toBytes, Nat.reduceSub]
  have hcountField : fieldAt args 4 1 = entryCount xs := by
    simp (disch := omega) only [← hargs, tableByte, List.append_assoc, fieldAt_toBytes_append, fieldAt_toBytes, Nat.reduceSub]
  have hrest : args.drop 5 = tableEntryBytes xs := by
    simp (disch := omega) only [← hargs, tableByte, List.append_assoc, drop_toBytes_append, Nat.reduceSub, List.drop_zero]
  have hnamed : namedRequest tag 0x11 args = tableWriteCommand tag args := rfl
  simp only [hnamed, tableWriteCommand, hbankField, htableField, hstartField, hcountField, hrest, tableNamed_code, hindex, hread]
  exact withLength_of hlength _

/-- The parameter and value of a SET, or the kind and argument of a QUERY, are read back. -/
theorem fields_of_pair {first v : Nat} (hfirst : first < 256 ^ 1) (hv : v < 256 ^ 4) :
    (toBytes 1 first ++ toBytes 4 v).length = 5 ∧ fieldAt (toBytes 1 first ++ toBytes 4 v) 0 1 = first
      ∧ fieldAt (toBytes 1 first ++ toBytes 4 v) 1 4 = v := by
  refine ⟨by simp, fieldAt_toBytes hfirst _, ?_⟩
  rw [fieldAt_toBytes_append le_rfl]
  exact fieldAt_toBytes_last hv

/-- A SET is read by its parameter. -/
theorem named_set {parameter v : Nat} {i : Instr} (hparameter : parameter < 256 ^ 1) (hv : v < 256 ^ 4)
    (h : ∀ args : List Byte, args.length = 5 → fieldAt args 0 1 = parameter → fieldAt args 1 4 = v → setCommand tag args = some i) :
    namedRequest tag 0x60 (toBytes 1 parameter ++ toBytes 4 v) = some i := by
  obtain ⟨hlength, hfirst, hvalue⟩ := fields_of_pair hparameter hv
  exact h _ hlength hfirst hvalue

/-- A QUERY is read by its kind. -/
theorem named_query {kind v : Nat} {i : Instr} (hkind : kind < 256 ^ 1) (hv : v < 256 ^ 4)
    (h : ∀ args : List Byte, args.length = 5 → fieldAt args 0 1 = kind → fieldAt args 1 4 = v → queryCommand tag args = some i) :
    namedRequest tag 0x70 (toBytes 1 kind ++ toBytes 4 v) = some i := by
  obtain ⟨hlength, hfirst, hvalue⟩ := fields_of_pair hkind hv
  exact h _ hlength hfirst hvalue

end

/-- Every request in the ranges of its operands is read back from its frame. -/
theorem receive_requestFrame {i : Instr} {port : PortId} {bytes : List Byte} (hwell : WellFormed.command i = true)
    (hframe : frameOf i = some (port, bytes))
    (hi : ∃ tag, i = .resetWarm tag ∨ i = .resetCold tag ∨ (∃ code args, i = .unknownControlRequest tag code args)
      ∨ ∃ r, requestOf i = some (tag, r)) : port = .feed ∧ receive port bytes = i := by
  cases i
  case start | tableBegin | tableEnd | tableSelect | holdAdd | holdRelease | sweepStart | verifyStart | segmentRetry
      | segmentDiscard =>
    simp only [WellFormed.command, Bool.and_eq_true, wellFormed_fits, and_assoc] at hwell
    obtain ⟨htag, hfields⟩ := hwell
    refine receive_of_named htag (by decide) (by simp) ?_ (Option.some.inj hframe)
    simp (disch := omega) [namedRequest, withLength, fieldAt_toBytes_last, fieldAt_toBytes_append, fieldAt_toBytes]
  case tableCancel | dayClose | sweepStop | verifyStop =>
    exact receive_of_named (wellFormed_fits.mp hwell) (by decide) (by simp) rfl (Option.some.inj hframe)
  case catalogLoad tag entries =>
    simp only [WellFormed.command, WellFormed.loadEntries, Bool.and_eq_true, wellFormed_fits, decide_eq_true_eq,
      List.all_eq_true] at hwell
    obtain ⟨htag, hmax, hentries⟩ := hwell
    have hsize : (entries.flatMap loadEntryBytes).length = entries.length * 104 :=
      length_flatMap_of_size fun e _ => loadEntryBytes_length e
    refine receive_of_named htag (by decide) ?_ (named_catalogLoad (by omega) hentries) (Option.some.inj hframe)
    rw [List.length_append, toBytes_length, hsize]
    omega
  case tableWrite tag bank startIndex xs =>
    simp only [WellFormed.command, Bool.and_eq_true, wellFormed_fits] at hwell
    obtain ⟨⟨⟨htag, hbank⟩, hstart⟩, hentries⟩ := hwell
    have hsize : (tableEntryBytes xs).length ≤ entryCount xs * 7 := by
      rw [(tableEntriesOf_bytes hentries).1]
      exact Nat.mul_le_mul_left _ (by cases tableOf xs <;> decide)
    have hcount : entryCount xs < 256 ^ 1 := by
      simp only [WellFormed.tableEntries, Bool.and_eq_true, wellFormed_fits] at hentries
      exact hentries.1
    refine receive_of_named htag (by decide) ?_ (named_tableWrite hbank hstart hentries) (Option.some.inj hframe)
    simp only [List.length_append, toBytes_length, tableByte]
    omega
  case setReportHoldoff | setLateWindow | setSealTimeout | setStoreTimeout | setFullRetry | setSweepBurst | setSweepRest
      | setAutoSweep | setVerifyRest | setVerifyScope =>
    simp only [WellFormed.command, Bool.and_eq_true, wellFormed_fits] at hwell
    obtain ⟨htag, hvalue⟩ := hwell
    refine receive_of_named htag (by decide) (by simp) (named_set (by decide) hvalue fun args hlength hfirst hv => ?_)
      (Option.some.inj hframe)
    simp only [setCommand, hlength, hfirst, hv, if_true]
  case queryLane | queryRecent | queryCatalog =>
    simp only [WellFormed.command, Bool.and_eq_true, wellFormed_fits] at hwell
    obtain ⟨htag, hvalue⟩ := hwell
    refine receive_of_named htag (by decide) (by simp) (named_query (by decide) hvalue fun args hlength hfirst hv => ?_)
      (Option.some.inj hframe)
    simp only [queryCommand, hlength, hfirst, hv, if_true]
  case queryIdent | queryStatus | queryBanks | queryHolds | queryParams =>
    refine receive_of_named (wellFormed_fits.mp hwell) (by decide) (by simp)
      (named_query (by decide) (by decide) fun args hlength hfirst hv => ?_) (Option.some.inj hframe)
    simp only [queryCommand, hlength, hfirst, if_true]
  case queryDay tag day switchWord =>
    simp only [WellFormed.command, Bool.and_eq_true, wellFormed_fits] at hwell
    obtain ⟨⟨htag, hday⟩, hword⟩ := hwell
    have hhigh : (65536 * day + switchWord) / 65536 = day := by omega
    have hlow : (65536 * day + switchWord) % 65536 = switchWord := by omega
    refine receive_of_named htag (by decide) (by simp)
      (named_query (v := 65536 * day + switchWord) (by decide) (by omega) fun args hlength hfirst hv => ?_) (Option.some.inj hframe)
    simp only [queryCommand, hlength, hfirst, hv, hhigh, hlow, if_true]
  case resetWarm | resetCold =>
    exact receive_of_named (wellFormed_fits.mp hwell) (by decide) (by simp) rfl (Option.some.inj hframe)
  case unknownControlRequest tag code args =>
    simp only [WellFormed.command, WellFormed.unknownRequest, Bool.and_eq_true, wellFormed_fits, decide_eq_true_eq,
      Option.isNone_iff_eq_none] at hwell
    obtain ⟨⟨⟨htag, hcode⟩, hargs⟩, hnone⟩ := hwell
    obtain ⟨rfl, rfl⟩ := Prod.mk.inj (Option.some.inj hframe)
    exact ⟨rfl, by rw [receive_request htag hcode (by omega), hnone, Option.getD_none]⟩
  all_goals simp [requestOf] at hi

/-- Settles O26. -/
theorem controlFramesReadBack : Obligations.ControlFramesReadBack :=
  ⟨fun _ _ _ hwell hframe hi => receive_requestFrame hwell hframe hi,
    fun _ _ _ htag hcode hargs => receive_request htag hcode hargs⟩

end

end Sys2Proof.Machine

namespace Sys2Proof.Machine

open Sys2Proof.Safety

section
variable {s : State}

/-! ### The state that a warm reset finds (R183, R142, R164) -/

/-- What a good frame at the Feed port changes: the port, what is sent, and the Report Queue. -/
theorem heardAnyway_frame (s : State) : heardAnyway s = { s with
    feedTx := (heardAnyway s).feedTx, feed := (heardAnyway s).feed, reports := (heardAnyway s).reports } := by
  unfold heardAnyway
  split
  · rw [flushReports_frame]
    unfold sentFeedAll
    split <;> rfl
  · rfl

/-- The sweeper out of its pass (R142). -/
def stoppedSweeper (w : Sweeper) : Sweeper :=
  if w.phase = .idle ∨ w.phase = .stopped then w else { w with phase := .stopped, restExpiry := none }

/-- The verifier out of its pass (R164). -/
def stoppedVerifier (v : Verifier) : Verifier :=
  if v.phase = .idle ∨ v.phase = .stopped then v else { v with phase := .stopped, restExpiry := none }

theorem stopSweep_eq (s : State) : stopSweep s = { s with sweeper := stoppedSweeper s.sweeper } := by
  unfold stopSweep stoppedSweeper
  cases h : s.sweeper.phase <;> rfl

theorem stopVerify_eq (s : State) : stopVerify s = { s with verifier := stoppedVerifier s.verifier } := by
  unfold stopVerify stoppedVerifier
  cases h : s.verifier.phase <;> rfl

theorem stoppedSweeper_phase (w : Sweeper) : (stoppedSweeper w).phase = .idle ∨ (stoppedSweeper w).phase = .stopped := by
  unfold stoppedSweeper
  split
  · assumption
  · exact .inr rfl

theorem stoppedVerifier_phase (v : Verifier) : (stoppedVerifier v).phase = .idle ∨ (stoppedVerifier v).phase = .stopped := by
  unfold stoppedVerifier
  split
  · assumption
  · exact .inr rfl

/-! ### The lanes' buffers pass back (R37 step 3) -/

theorem sentIfUp_setLane (fs : List FeedFrame) (l : Fin 16) (x : Lane) (s : State) :
    sentIfUp fs (s.setLane l x) = (sentIfUp fs s).setLane l x := by
  unfold sentIfUp sentFeedAll sentFeed State.setLane
  dsimp only
  split
  · split <;> rfl
  · rfl

/-- Neither walker has yielded to a paused lane. -/
def NoneYielded (s : State) : Prop := s.sweeper.phase ≠ .extendedRest ∧ s.verifier.phase ≠ .extendedRest

theorem returnLane_eq (h : NoneYielded s) (l : Fin 16) : returnLane s l
    = sentIfUp (if (s.lane l).paused = true then [.laneResume l] else []) (s.setLane l (s.lane l).emptied) := by
  unfold returnLane
  dsimp only
  by_cases hp : (s.lane l).paused = true
  · rw [if_pos hp, if_pos hp]
    unfold resumeLane
    rw [State.lane_setLane, if_pos rfl, setLane_setLane, sendFeed_eq_sentIfUp]
    generalize hsent : sentIfUp [.laneResume l] (s.setLane l (s.lane l).emptied) = sent
    have hsweeper : sent.sweeper.returnFromRest = sent.sweeper := by
      have hkept : sent.sweeper = s.sweeper := by rw [← hsent, sentIfUp_one_frame]; rfl
      rw [Sweeper.returnFromRest_eq, hkept, if_neg h.1]
    have hverifier : sent.verifier.returnFromRest = sent.verifier := by
      have hkept : sent.verifier = s.verifier := by rw [← hsent, sentIfUp_one_frame]; rfl
      rw [Verifier.returnFromRest_eq, hkept, if_neg h.2]
    have hemptied : sentIfUp [.laneResume l] (s.setLane l { ({ s.lane l with bufA := {}, bufB := {} } : Lane) with paused := false })
        = sent := hsent
    dsimp only
    rw [hemptied]
    split
    · rfl
    · rw [hsweeper, hverifier]
  · rw [if_neg hp, if_neg hp, sentIfUp_nil, Lane.emptied]
    have hpaused : (s.lane l).paused = false := by simpa using hp
    rw [hpaused]

theorem noneYielded_sent (h : NoneYielded s) (fs : List FeedFrame) (l : Fin 16) (x : Lane) :
    NoneYielded (sentIfUp fs (s.setLane l x)) := by
  have hsweeper : (sentIfUp fs (s.setLane l x)).sweeper = s.sweeper := by unfold sentIfUp sentFeedAll; split; split <;> rfl; rfl
  have hverifier : (sentIfUp fs (s.setLane l x)).verifier = s.verifier := by unfold sentIfUp sentFeedAll; split; split <;> rfl; rfl
  exact ⟨hsweeper ▸ h.1, hverifier ▸ h.2⟩

/-- The lanes pass back one by one, each resumed where it was paused. -/
theorem foldl_returnLane {ls : List (Fin 16)} (hls : ls.Nodup) (h : NoneYielded s) : ls.foldl returnLane s
    = sentIfUp ((ls.filter fun l => (s.lane l).paused).map .laneResume)
      (ls.foldl (fun x l => x.setLane l (x.lane l).emptied) s) := by
  have hcommute (fs : List FeedFrame) (ms : List (Fin 16)) (x : State) :
      ms.foldl (fun x l => x.setLane l (x.lane l).emptied) (sentIfUp fs x)
        = sentIfUp fs (ms.foldl (fun x l => x.setLane l (x.lane l).emptied) x) := by
    induction ms generalizing x with
    | nil => rfl
    | cons m ms ih =>
      have hlane : (sentIfUp fs x).lane m = x.lane m := by simp only [State.lane, sentIfUp_lanes]
      rw [List.foldl_cons, hlane, ← sentIfUp_setLane, ih, List.foldl_cons]
  induction ls generalizing s with
  | nil => exact (sentIfUp_nil s).symm
  | cons l ls ih =>
    obtain ⟨hl, hls⟩ := List.nodup_cons.mp hls
    have hlater : ls.filter (fun m => ((sentIfUp (if (s.lane l).paused = true then [.laneResume l] else [])
        (s.setLane l (s.lane l).emptied)).lane m).paused) = ls.filter fun m => (s.lane m).paused := by
      refine List.filter_congr fun m hm => ?_
      have hne : l ≠ m := fun e => hl (e ▸ hm)
      have hlane : (sentIfUp (if (s.lane l).paused = true then [.laneResume l] else []) (s.setLane l (s.lane l).emptied)).lane m
          = (s.setLane l (s.lane l).emptied).lane m := by simp only [State.lane, sentIfUp_lanes]
      rw [hlane, State.lane_setLane, if_neg hne]
    rw [List.foldl_cons, returnLane_eq h, ih hls (noneYielded_sent h ..), hlater, hcommute, ← sentIfUp_append, List.foldl_cons]
    by_cases hp : (s.lane l).paused = true
    · rw [if_pos hp, List.filter_cons_of_pos (p := fun m => (s.lane m).paused) hp]
      rfl
    · rw [if_neg hp, List.filter_cons_of_neg (p := fun m => (s.lane m).paused) hp]
      rfl

/-- R37 step 3: every lane has both its buffers on the link side and has left the paused set. -/
theorem returnLanes_eq (h : NoneYielded s) : (List.finRange 16).foldl returnLane s
    = sentIfUp ((pausedLanes s).map .laneResume) { s with lanes := s.lanes.map Lane.emptied } := by
  rw [foldl_returnLane (List.nodup_finRange 16) h, foldl_setLane_all]
  rfl

/-! ### The files end (R37 step 4) -/

/-- The file of a lane as it ends: its trailer dropped. -/
def endingFile (x : State) (l : Fin 16) : Option (Fin 16 × FileContext) :=
  (x.lane l).context.map fun c => (l, { c with trailer := none })

theorem foldl_abortLane {ls : List (Fin 16)} (hls : ls.Nodup) (x : State) : ls.foldl abortLane x
    = (ls.filterMap (endingFile x)).foldl (fun y p => abortFile p.1 p.2 y) x := by
  induction ls generalizing x with
  | nil => rfl
  | cons l ls ih =>
    obtain ⟨hl, hls⟩ := List.nodup_cons.mp hls
    rw [List.foldl_cons, ih hls]
    cases hc : (x.lane l).context with
    | none =>
      have hkept : abortLane x l = x := by simp only [abortLane, hc]
      rw [hkept, List.filterMap_cons_none (by simp [endingFile, hc])]
    | some c =>
      have hended : abortLane x l = abortFile l { c with trailer := none } x := by simp only [abortLane, hc]
      have hlater : ls.filterMap (endingFile (abortFile l { c with trailer := none } x)) = ls.filterMap (endingFile x) := by
        refine List.filterMap_congr fun m hm => ?_
        have hne : l ≠ m := fun e => hl (e ▸ hm)
        rw [endingFile, endingFile, lane_abortFile, if_neg hne]
      rw [hended, hlater, List.filterMap_cons_some (b := (l, { c with trailer := none })) (by simp [endingFile, hc]), List.foldl_cons]

/-! ### The open segments are sealed (R98) -/

theorem sealWhere_all (s : State) : sealWhere (fun _ => true) s = s.openSegments.foldl (fun x g => sealSegment g x) s := by
  rw [sealWhere, List.filter_true]

theorem foldl_sealSegment_withParser (gs : List OpenSegment) (p : Parser) (x : State) :
    gs.foldl (fun x g => sealSegment g x) { x with parser := p } = { gs.foldl (fun x g => sealSegment g x) x with parser := p } := by
  induction gs generalizing x with
  | nil => rfl
  | cons g gs ih => exact ih (sealSegment g x)

end

end Sys2Proof.Machine

namespace Sys2Proof.Machine

open Sys2Proof.Safety

section

/-! ### The states of a warm reset, one after another (R176) -/

/-- The walkers stopped and the control queue emptied. -/
def warmStopped (s : State) : State :=
  { heardAnyway s with
    control := [], sweeper := stoppedSweeper s.sweeper, verifier := stoppedVerifier s.verifier }

/-- One lost addition for each discarded record. -/
def warmCounted (s : State) : State := (discards s).foldl (lostFor s) (warmStopped s)

/-- A file whose pending records are lost. -/
def allLost (c : FileContext) : FileContext := { c with pending := 0, lost := c.lost + c.pending }

/-- A lane with its buffers empty and its records lost. -/
def warmLane (x : Lane) : Lane := { x with context := x.context.map allLost, bufA := {}, bufB := {}, paused := false }

/-- The lanes emptied, and the paused ones resumed. -/
def warmEmptied (s : State) : State :=
  sentIfUp ((pausedLanes s).map .laneResume) { warmCounted s with lanes := s.lanes.map warmLane }

/-- The files that end, in ascending lane number. -/
def warmFiles (s : State) : List (Fin 16 × FileContext) :=
  (List.finRange 16).filterMap fun l => (s.lane l).context.map fun c => (l, { allLost c with trailer := none })

/-- A file ends as ABORTED and leaves its lane and its bank. -/
def fileAborts (x : State) (p : Fin 16 × FileContext) : State :=
  fileLeft x p.1 p.2 .aborted (raise .fileAborted (some p.1.val) p.2.switch p.2.fileNumber p.2.lost x)

/-- The files ended. -/
def warmEnded (s : State) : State := (warmFiles s).foldl fileAborts (warmEmptied s)

/-- The open segments sealed. -/
def warmSealed (s : State) : State := (warmEnded s).openSegments.foldl (fun x g => sealSegment g x) (warmEnded s)

/-- The ingest ended and DONE sent, before the grants and the bundles. -/
def warmDone (tag : Nat) (s : State) : State :=
  sentIfUp [.response tag 0x7F .done (.removed s.control.length)]
    { warmSealed s with stall := .runningFree, parser := { s.parser with phase := .idle } }

end

section
variable {s : State}

/-! ### A warm reset goes through them -/

theorem warmStopped_lanes (s : State) : (warmStopped s).lanes = s.lanes := by
  have h := congrArg State.lanes (heardAnyway_frame s)
  exact h

theorem warmStopped_parser (s : State) : (warmStopped s).parser = s.parser := by
  have h := congrArg State.parser (heardAnyway_frame s)
  exact h

theorem stopWalkers_eq (s : State) : stopVerify (stopSweep { heardAnyway s with control := [] }) = warmStopped s := by
  have hsweeper := congrArg State.sweeper (heardAnyway_frame s)
  have hsweeper : (heardAnyway s).sweeper = s.sweeper := hsweeper
  have hverifier := congrArg State.verifier (heardAnyway_frame s)
  have hverifier : (heardAnyway s).verifier = s.verifier := hverifier
  rw [stopSweep_eq, stopVerify_eq, warmStopped, ← hsweeper, ← hverifier]

theorem discards_congr {t : State} (hlanes : t.lanes = s.lanes) (hparser : t.parser = s.parser) : discards t = discards s := by
  simp only [discards, State.lane, hlanes, hparser]
  rfl

theorem lostFor_congr {t : State} (hlanes : t.lanes = s.lanes) : lostFor t = lostFor s := by
  funext x l
  simp only [lostFor, State.lane, hlanes]

/-- An addition changes the Day Table, the unplaced totals and the Report Queue. -/
theorem addToCurrentDay_frame (switch : Nat) (a : Accumulator) (n : Nat) (x : State) : addToCurrentDay switch a n x = { x with
    days := (addToCurrentDay switch a n x).days, unplaced := (addToCurrentDay switch a n x).unplaced
    reports := (addToCurrentDay switch a n x).reports } := by
  unfold addToCurrentDay
  split
  · rfl
  · exact addToDay_frame ..

theorem lostFor_frame (s x : State) (l : Fin 16) : lostFor s x l = { x with
    days := (lostFor s x l).days, unplaced := (lostFor s x l).unplaced, reports := (lostFor s x l).reports } := by
  unfold lostFor
  split
  · rfl
  · exact addToCurrentDay_frame ..

theorem foldl_lostFor_frame (s : State) (ls : List (Fin 16)) (x : State) : ls.foldl (lostFor s) x = { x with
    days := (ls.foldl (lostFor s) x).days, unplaced := (ls.foldl (lostFor s) x).unplaced
    reports := (ls.foldl (lostFor s) x).reports } := by
  induction ls generalizing x with
  | nil => rfl
  | cons l ls ih => rw [List.foldl_cons, ih, lostFor_frame]

theorem warmCounted_frame (s : State) : warmCounted s = { warmStopped s with
    days := (warmCounted s).days, unplaced := (warmCounted s).unplaced, reports := (warmCounted s).reports } :=
  foldl_lostFor_frame s (discards s) (warmStopped s)

/-- What the lanes hold after the records are discarded and the buffers have passed back: every pending record is lost. -/
theorem lanes_emptied (h : RecordsConserved s) :
    (Vector.ofFn fun l => (s.lane l).mapContext (FileContext.lose ((discards s).count l))).map Lane.emptied
      = s.lanes.map warmLane := by
  obtain ⟨haccounts, -, -⟩ := h
  refine Vector.ext fun i hi => ?_
  obtain ⟨ha, hb, hnone, hfile⟩ := haccounts ⟨i, hi⟩
  have hlane : s.lanes[i] = s.lane ⟨i, hi⟩ := rfl
  simp only [Vector.getElem_map, Vector.getElem_ofFn, hlane, Lane.mapContext, Lane.emptied, warmLane]
  cases hc : (s.lane ⟨i, hi⟩).context with
  | none => rfl
  | some c =>
    obtain ⟨-, -, hpending⟩ := hfile c hc
    have hcount : (discards s).count ⟨i, hi⟩ = c.pending := (count_discards _ ha hb).trans hpending.symm
    simp only [Option.map_some, hcount, FileContext.lose, allLost, Nat.sub_self]

/-! ### What stays while the files end -/

theorem sentIfUp_frame (fs : List FeedFrame) (s : State) :
    sentIfUp fs s = { s with feedTx := (sentIfUp fs s).feedTx, feed := (sentIfUp fs s).feed } := by
  unfold sentIfUp sentFeedAll
  split
  · split <;> rfl
  · rfl

/-- The state with the fields blanked out that change when a file ends as ABORTED: the lanes, Recent Files, and what a
bank's retirement changes. -/
def outsideAborts (s : State) : State :=
  { outsideRetire s with lanes := Vector.replicate 16 {}, recent := [], selection := s.selection }

theorem outsideAborts_fileAborts (x : State) (p : Fin 16 × FileContext) : outsideAborts (fileAborts x p) = outsideAborts x := by
  have hraised : outsideAborts (raise .fileAborted (some p.1.val) p.2.switch p.2.fileNumber p.2.lost x) = outsideAborts x := by
    unfold raise raiseOn
    split <;> rfl
  have hunbound (b : Fin 4) (y : State) : outsideAborts (unbindFile b y) = outsideAborts y := by
    unfold outsideAborts
    rw [outsideRetire_unbindFile, unbindFile_selection]
  exact (hunbound _ _).trans hraised

theorem outsideAborts_foldl (ps : List (Fin 16 × FileContext)) (x : State) : outsideAborts (ps.foldl fileAborts x) = outsideAborts x := by
  induction ps generalizing x with
  | nil => rfl
  | cons p ps ih => exact (ih _).trans (outsideAborts_fileAborts x p)

theorem warmEmptied_frame (s : State) : warmEmptied s = { warmCounted s with
    lanes := s.lanes.map warmLane, feedTx := (warmEmptied s).feedTx, feed := (warmEmptied s).feed } :=
  sentIfUp_frame _ _

/-- Everything that ends the ingest leaves these as `warmCounted` has them. -/
theorem outsideAborts_warmEnded (s : State) : outsideAborts (warmEnded s) = outsideAborts { warmCounted s with
    feedTx := (warmEmptied s).feedTx, feed := (warmEmptied s).feed } := by
  rw [warmEnded, outsideAborts_foldl, warmEmptied_frame]
  rfl

theorem warmEnded_parser (s : State) : (warmEnded s).parser = s.parser := by
  have hended := congrArg State.parser (outsideAborts_warmEnded s)
  have hended : (warmEnded s).parser = (warmCounted s).parser := hended
  have hcounted := congrArg State.parser (warmCounted_frame s)
  have hcounted : (warmCounted s).parser = (warmStopped s).parser := hcounted
  rw [hended, hcounted, warmStopped_parser]

theorem lane_warmEmptied (s : State) (l : Fin 16) : (warmEmptied s).lane l = warmLane (s.lane l) := by
  simp [warmEmptied, State.lane, sentIfUp_lanes]

/-! ### The warm reset at the lanes -/

theorem foldl_abortLane_warm (s : State) : (List.finRange 16).foldl abortLane (warmEmptied s) = warmEnded s := by
  have hfiles : (List.finRange 16).filterMap (endingFile (warmEmptied s)) = warmFiles s := by
    refine List.filterMap_congr fun l _ => ?_
    rw [endingFile, lane_warmEmptied, warmLane]
    simp only [Option.map_map]
    rfl
  have hstep : (fun (y : State) (p : Fin 16 × FileContext) => abortFile p.1 p.2 y) = fileAborts :=
    funext fun y => funext fun p => abortFile_eq p.1 p.2 y
  rw [foldl_abortLane (List.nodup_finRange 16), hfiles, hstep, warmEnded]

/-- The state after the records are discarded, the buffers still with the parser. -/
def warmLost (s : State) : State :=
  { warmCounted s with lanes := Vector.ofFn fun l => (s.lane l).mapContext (FileContext.lose ((discards s).count l)) }

theorem discarded_warmStopped (s : State) : discarded (discards (warmStopped s)) (warmStopped s) = warmLost s := by
  rw [discards_congr (warmStopped_lanes s) (warmStopped_parser s), discarded, lostFor_congr (warmStopped_lanes s)]
  simp only [State.lane, warmStopped_lanes]
  rfl

theorem noneYielded_warmLost (s : State) : NoneYielded (warmLost s) := by
  have hsweeper := congrArg State.sweeper (warmCounted_frame s)
  have hsweeper : (warmLost s).sweeper = stoppedSweeper s.sweeper := hsweeper
  have hverifier := congrArg State.verifier (warmCounted_frame s)
  have hverifier : (warmLost s).verifier = stoppedVerifier s.verifier := hverifier
  refine ⟨?_, ?_⟩
  · rw [hsweeper]
    obtain hp | hp := stoppedSweeper_phase s.sweeper <;> simp [hp]
  · rw [hverifier]
    obtain hp | hp := stoppedVerifier_phase s.verifier <;> simp [hp]

theorem foldl_returnLane_warm (h : RecordsConserved s) : (List.finRange 16).foldl returnLane (warmLost s) = warmEmptied s := by
  have hlane (l : Fin 16) : (warmLost s).lane l = (s.lane l).mapContext (FileContext.lose ((discards s).count l)) := by
    simp [State.lane, warmLost]
  have hpaused : pausedLanes (warmLost s) = pausedLanes s := by
    refine List.filter_congr fun l _ => ?_
    rw [hlane]
    rfl
  rw [returnLanes_eq (noneYielded_warmLost s), hpaused, warmEmptied, ← lanes_emptied h]
  rfl

theorem warmLanes_eq (h : RecordsConserved s) : warmLanes (warmStopped s)
    = { warmEnded s with parser := { s.parser with phase := .idle } } := by
  unfold warmLanes
  dsimp only
  rw [discard_all, discarded_warmStopped, foldl_returnLane_warm h, foldl_abortLane_warm, warmEnded_parser]

/-- RESET WARM before the grants and the bundles. -/
theorem warmReset_eq (h : RecordsConserved s) (tag : Nat) : warmReset tag (heardAnyway s) = warmDone tag s := by
  have hcontrol := congrArg State.control (heardAnyway_frame s)
  have hcontrol : (heardAnyway s).control = s.control := hcontrol
  unfold warmReset warmBlocks warmEncoder
  dsimp only
  rw [stopWalkers_eq, warmLanes_eq h, hcontrol, sealWhere_all, foldl_sealSegment_withParser]
  rfl

end

end Sys2Proof.Machine

namespace Sys2Proof.Machine

open Sys2Proof.Safety

section
variable {s : State}

/-! ### The files that end, all together (R37 step 4, R38, R57, R58) -/

theorem lane_fileAborts (x : State) (p : Fin 16 × FileContext) (l : Fin 16) : (fileAborts x p).lane l
    = if l = p.1 then { x.lane p.1 with state := .idle, context := none } else x.lane l := fileLeft_lane x p.1 l p.2 .aborted _

theorem lane_foldl_fileAborts (ps : List (Fin 16 × FileContext)) (x : State) (l : Fin 16) : (ps.foldl fileAborts x).lane l
    = if l ∈ ps.map Prod.fst then { x.lane l with state := .idle, context := none } else x.lane l := by
  induction ps generalizing x with
  | nil => simp
  | cons p ps ih =>
    rw [List.foldl_cons, ih]
    by_cases h : l = p.1
    · subst h
      rw [(lane_fileAborts x p p.1).trans (if_pos rfl)]
      simp
    · rw [(lane_fileAborts x p l).trans (if_neg h)]
      simp only [List.map_cons, List.mem_cons, h, false_or]

/-- Recent Files keeps the newest 64 (R38). -/
def newest64 (entries : List RecentEntry) : List RecentEntry := entries.drop (entries.length - 64)

theorem newest64_append (older newer : List RecentEntry) : newest64 (newest64 older ++ newer) = newest64 (older ++ newer) := by
  have hsplit : newest64 older ++ newer = (older ++ newer).drop (older.length - 64) := by
    rw [newest64, List.drop_append_of_le_length (Nat.sub_le ..)]
  have hlength : older.length - 64 + ((older ++ newer).length - (older.length - 64) - 64) = (older ++ newer).length - 64 := by
    rw [List.length_append]
    omega
  rw [hsplit]
  unfold newest64
  rw [List.drop_drop, List.length_drop, hlength]

theorem fileAborts_recent (x : State) (p : Fin 16 × FileContext) (h : x.recent.length ≤ 64) :
    (fileAborts x p).recent = newest64 (x.recent ++ [{ context := p.2, outcome := .aborted }]) := by
  have hentered : (fileAborts x p).recent
      = (if 64 ≤ x.recent.length then x.recent.drop 1 else x.recent) ++ [{ context := p.2, outcome := .aborted }] := by
    rw [fileAborts, fileLeft, recent_unbindFile]
  rw [hentered, newest64, List.drop_append_of_le_length (by simp)]
  split
  next hfull =>
    have hlength : (x.recent ++ [({ context := p.2, outcome := .aborted } : RecentEntry)]).length - 64 = 1 := by
      simp only [List.length_append, List.length_singleton]
      omega
    rw [hlength]
  next hroom =>
    have hlength : (x.recent ++ [({ context := p.2, outcome := .aborted } : RecentEntry)]).length - 64 = 0 := by
      simp only [List.length_append, List.length_singleton]
      omega
    rw [hlength, List.drop_zero]

theorem newest64_length (entries : List RecentEntry) : (newest64 entries).length ≤ 64 := by
  rw [newest64, List.length_drop]
  omega

theorem recent_foldl_fileAborts (ps : List (Fin 16 × FileContext)) (x : State) (h : x.recent.length ≤ 64) :
    (ps.foldl fileAborts x).recent = newest64 (x.recent ++ ps.map fun p => { context := p.2, outcome := .aborted }) := by
  induction ps generalizing x with
  | nil =>
    have hzero : x.recent.length - 64 = 0 := by omega
    simp [newest64, hzero]
  | cons p ps ih =>
    have hrecent := fileAborts_recent x p h
    rw [List.foldl_cons, ih _ (hrecent ▸ newest64_length _), hrecent, newest64_append, List.map_cons, List.append_assoc,
      List.singleton_append]

theorem bankAfter_zero (b : Bank) : bankAfter 0 b = b := by
  simp [bankAfter]

theorem bankAfter_succ (n : Nat) (b : Bank) : bankAfter n (bankAfter 1 b) = bankAfter (n + 1) b := by
  have hstate : (bankAfter n (bankAfter 1 b)).state = (bankAfter (n + 1) b).state := by
    unfold bankAfter
    dsimp only
    by_cases hdraining : b.state = .draining
    · by_cases hlast : b.boundFiles ≤ 1
      · have hall : b.boundFiles ≤ n + 1 := by omega
        simp [hdraining, hlast, hall]
      · have hmore : 0 < n ∧ b.boundFiles ≤ n + 1 ↔ b.boundFiles ≤ n + 1 := by omega
        simp [hdraining, hlast, hmore]
    · simp [hdraining]
  have hbound : (bankAfter n (bankAfter 1 b)).boundFiles = (bankAfter (n + 1) b).boundFiles := by
    simp only [bankAfter]
    omega
  simp only [bankAfter] at hstate hbound ⊢
  rw [hstate, hbound]

theorem bankAfter_one_of_last {b : Bank} (hstate : b.state = .draining) (hbound : b.boundFiles ≤ 1) :
    bankAfter 1 b = { b with boundFiles := b.boundFiles - 1, state := .ready } := by
  rw [bankAfter, if_pos ⟨hstate, Nat.one_pos, hbound⟩]

theorem bankAfter_one_of_bound {b : Bank} (h : b.state ≠ .draining ∨ 1 < b.boundFiles) :
    bankAfter 1 b = { b with boundFiles := b.boundFiles - 1 } := by
  have hno : ¬ (b.state = .draining ∧ 0 < 1 ∧ b.boundFiles ≤ 1) := by
    rintro ⟨hstate, -, hbound⟩
    obtain h | h := h
    · exact h hstate
    · omega
  rw [bankAfter, if_neg hno]

/-- A file leaves its bank (R57, R58). -/
theorem bank_unbindFile (b c : Fin 4) (x : State) :
    (unbindFile c x).bank b = if c = b then bankAfter 1 (x.bank b) else x.bank b := by
  by_cases hlast : (x.bank c).state = .draining ∧ (x.bank c).boundFiles ≤ 1
  · obtain ⟨hstate, hbound⟩ := hlast
    rw [unbindFile_of_last hstate hbound, bank_retireBank, State.bank_setBank, State.bank_setBank, if_pos rfl]
    by_cases h : c = b
    · subst h
      rw [if_pos rfl, if_pos rfl, bankAfter_one_of_last hstate hbound]
    · rw [if_neg h, if_neg h, if_neg h]
  · have hkept : (x.bank c).state ≠ .draining ∨ 1 < (x.bank c).boundFiles := by
      rw [not_and_or, Nat.not_le] at hlast
      exact hlast
    rw [unbindFile_of_bound hkept, State.bank_setBank]
    by_cases h : c = b
    · subst h
      rw [if_pos rfl, if_pos rfl, bankAfter_one_of_bound hkept]
    · rw [if_neg h, if_neg h]

theorem bank_fileAborts (x : State) (p : Fin 16 × FileContext) (b : Fin 4) :
    (fileAborts x p).bank b = if p.2.bank = b then bankAfter 1 (x.bank b) else x.bank b := by
  have hraised (c : Fin 4) : (raise .fileAborted (some p.1.val) p.2.switch p.2.fileNumber p.2.lost x).bank c = x.bank c := bank_raise ..
  have hleft := bank_unbindFile b p.2.bank { raise .fileAborted (some p.1.val) p.2.switch p.2.fileNumber p.2.lost x with
    recent := (if 64 ≤ x.recent.length then x.recent.drop 1 else x.recent) ++ [{ context := p.2, outcome := .aborted }]
    lanes := x.lanes.set p.1 { x.lane p.1 with state := .idle, context := none } }
  have hleft : (fileAborts x p).bank b = if p.2.bank = b
      then bankAfter 1 ((raise .fileAborted (some p.1.val) p.2.switch p.2.fileNumber p.2.lost x).bank b)
      else (raise .fileAborted (some p.1.val) p.2.switch p.2.fileNumber p.2.lost x).bank b := hleft
  rw [hleft, hraised]

theorem bank_foldl_fileAborts (ps : List (Fin 16 × FileContext)) (x : State) (b : Fin 4) :
    (ps.foldl fileAborts x).bank b = bankAfter (ps.countP fun p => decide (p.2.bank = b)) (x.bank b) := by
  induction ps generalizing x with
  | nil => exact (bankAfter_zero _).symm
  | cons p ps ih =>
    rw [List.foldl_cons, ih, bank_fileAborts, List.countP_cons]
    by_cases h : p.2.bank = b
    · rw [if_pos h, if_pos (decide_eq_true h), bankAfter_succ]
    · rw [if_neg h, if_neg (by simpa using h), Nat.add_zero]

/-! ### Entries of no open segment (R98, R99) -/

/-- What the sealing of segments open in `s` keeps: the entries of the others. -/
structure OnlySealed (s x : State) : Prop where
  canonical : NMap.canonical {} x.catalog = true
  segments : ∀ g ∈ x.openSegments, g ∈ s.openSegments
  entry : ∀ id, (∀ g ∈ s.openSegments, g.segmentId ≠ id) → x.entry id = s.entry id

theorem OnlySealed.of_same {x y : State} (h : OnlySealed s x) (hcatalog : y.catalog = x.catalog)
    (hsegments : y.openSegments = x.openSegments) : OnlySealed s y :=
  ⟨hcatalog ▸ h.canonical, hsegments ▸ h.segments, fun id hid => (entry_of_catalog hcatalog id).trans (h.entry id hid)⟩

theorem OnlySealed.sealSegment {x : State} (h : OnlySealed s x) {g : OpenSegment} (hg : g ∈ s.openSegments) :
    OnlySealed s (sealSegment g x) := by
  refine ⟨?_, fun k hk => h.segments k (List.mem_of_mem_filter hk), fun id hid => ?_⟩
  · exact NMap.canonical_write _ _ _ _ h.canonical
  · have hread : (Sys2Proof.Machine.sealSegment g x).entry id = if id = g.segmentId then _ else x.entry id :=
      NMap.read_write _ _ _ _ (rising_of_canonical h.canonical)
    rw [hread, if_neg (hid g hg).symm, h.entry id hid]

theorem OnlySealed.foldl_sealSegment {gs : List OpenSegment} {x : State} (h : OnlySealed s x)
    (hgs : ∀ g ∈ gs, g ∈ s.openSegments) : OnlySealed s (gs.foldl (fun y g => Sys2Proof.Machine.sealSegment g y) x) := by
  induction gs generalizing x with
  | nil => exact h
  | cons g gs ih => exact ih (h.sealSegment (hgs g List.mem_cons_self)) fun k hk => hgs k (List.mem_cons_of_mem _ hk)

theorem OnlySealed.unbindFile {x : State} (h : OnlySealed s x) (b : Fin 4) : OnlySealed s (unbindFile b x) := by
  by_cases hlast : (x.bank b).state = .draining ∧ (x.bank b).boundFiles ≤ 1
  · obtain ⟨hstate, hbound⟩ := hlast
    rw [unbindFile_of_last hstate hbound, retireBank_eq]
    have hlowered : OnlySealed s (x.setBank b { x.bank b with boundFiles := (x.bank b).boundFiles - 1 }) := h.of_same rfl rfl
    have hsealed (which : OpenSegment → Bool) := hlowered.foldl_sealSegment
      (gs := (x.setBank b { x.bank b with boundFiles := (x.bank b).boundFiles - 1 }).openSegments.filter which)
      fun g hg => h.segments g (List.mem_of_mem_filter hg)
    exact (hsealed _).of_same (raise_catalog ..) (raise_openSegments ..)
  · have hkept : (x.bank b).state ≠ .draining ∨ 1 < (x.bank b).boundFiles := by
      rw [not_and_or, Nat.not_le] at hlast
      exact hlast
    rw [unbindFile_of_bound hkept]
    exact h.of_same rfl rfl

theorem OnlySealed.foldl_fileAborts {ps : List (Fin 16 × FileContext)} {x : State} (h : OnlySealed s x) :
    OnlySealed s (ps.foldl fileAborts x) := by
  induction ps generalizing x with
  | nil => exact h
  | cons p ps ih =>
    generalize hraised : raise .fileAborted (some p.1.val) p.2.switch p.2.fileNumber p.2.lost x = raised
    have hcatalog : raised.catalog = x.catalog := hraised ▸ raise_catalog ..
    have hsegments : raised.openSegments = x.openSegments := hraised ▸ raise_openSegments ..
    have hended : fileAborts x p = Sys2Proof.Machine.unbindFile p.2.bank { raised with
        recent := (if 64 ≤ x.recent.length then x.recent.drop 1 else x.recent) ++ [{ context := p.2, outcome := .aborted }]
        lanes := x.lanes.set p.1 { x.lane p.1 with state := .idle, context := none } } := by
      rw [fileAborts, hraised]
      rfl
    refine ih ?_
    rw [hended]
    refine OnlySealed.unbindFile ?_ _
    exact h.of_same hcatalog hsegments

/-- Sealing every open segment leaves none. -/
theorem openSegments_foldl_sealSegment (gs : List OpenSegment) (x : State) :
    (gs.foldl (fun y g => sealSegment g y) x).openSegments
      = x.openSegments.filter fun k => gs.all fun g => decide (k.segmentId ≠ g.segmentId) := by
  induction gs generalizing x with
  | nil => simp
  | cons g gs ih =>
    rw [List.foldl_cons, ih, sealSegment_openSegments, List.filter_filter]
    refine List.filter_congr fun k _ => ?_
    rw [List.all_cons, Bool.and_comm]

theorem openSegments_sealAll (x : State) : (x.openSegments.foldl (fun y g => sealSegment g y) x).openSegments = [] := by
  rw [openSegments_foldl_sealSegment]
  refine List.filter_eq_nil_iff.mpr fun k hk => ?_
  rw [List.all_eq_true]
  intro hall
  exact absurd rfl (of_decide_eq_true (hall k hk))

/-! ### The grants while both walkers are out of their passes (R125) -/

/-- What the grants keep while no walker asks: the walkers, the catalog, and the OUTSTANDING tags. -/
structure OnlyWrites (s x : State) : Prop where
  sweeper : x.sweeper = s.sweeper
  verifier : x.verifier = s.verifier
  catalog : x.catalog = s.catalog
  tag : ∀ g, s.tag g ≠ none → x.tag g = s.tag g

theorem onlyWrites_arbitrate (hsweeper : s.sweeper.phase ≠ .running) (hverifier : s.verifier.phase ≠ .running) :
    OnlyWrites s (arbitrate s) := by
  refine arbitrate_induction (P := OnlyWrites s) (fun x y hx hy => ?_) ⟨rfl, rfl, rfl, fun _ _ => rfl⟩
  obtain ⟨hup, t, ht, ⟨id, rest, -, rfl⟩ | ⟨-, hwaits, -, -⟩ | ⟨-, hwaits, -, -⟩⟩ := grantOne_cases hy
  · have hsent : sendWrite t id rest x = _ :=
      sendStore_of_up _ (x := grantTag t .write id (x.entry id).edition { x with writeQueue := rest }) hup
    rw [hsent]
    refine ⟨hx.sweeper, hx.verifier, hx.catalog, fun g hg => ?_⟩
    have hne : t ≠ g := by
      rintro rfl
      have hfree := freeTag_free ht
      rw [hx.tag t hg] at hfree
      exact hg hfree
    exact (State.tag_setTag { x with writeQueue := rest } t g _).trans ((if_neg hne).trans (hx.tag g hg))
  · exact absurd (hx.sweeper ▸ sweeperWaits_running hwaits) hsweeper
  · exact absurd (hx.verifier ▸ verifierWaits_running hwaits) hverifier

end

end Sys2Proof.Machine

namespace Sys2Proof.Machine

open Sys2Proof.Safety

section
variable {s : State} {tag : Nat}

/-! ### What a warm reset leaves as it was (R176) -/

/-- The state with the fields blanked out that grants and bundles can change. -/
def outsideSettle (s : State) : State := { outsideGrants s with feedTx := [], feed := {} }

theorem outsideSettle_settle (x : State) : outsideSettle (settle x) = outsideSettle x := by
  have hflushed : outsideSettle (flushReports (arbitrate x)) = outsideSettle (arbitrate x) := by
    rw [flushReports_frame]
    rfl
  have hgrants : outsideGrants (arbitrate x) = outsideGrants x :=
    arbitrate_induction (P := fun y => outsideGrants y = outsideGrants x) (fun _ _ hy h => (outsideGrants_grantOne h).trans hy) rfl
  exact hflushed.trans (congrArg (fun y : State => { y with feedTx := [], feed := {} }) hgrants)

theorem warmSealed_frame (s : State) : warmSealed s = { warmEnded s with
    buffers := (warmSealed s).buffers, openSegments := (warmSealed s).openSegments, catalog := (warmSealed s).catalog
    stateCounts := (warmSealed s).stateCounts, writeQueue := (warmSealed s).writeQueue } := by
  have h := sealWhere_frame (fun _ => true) (warmEnded s)
  rwa [sealWhere_all] at h

theorem warmDone_frame (tag : Nat) (s : State) : warmDone tag s = { warmSealed s with
    stall := .runningFree, parser := { s.parser with phase := .idle }
    feedTx := (warmDone tag s).feedTx, feed := (warmDone tag s).feed } := sentIfUp_frame _ _

/-- The state with every field blanked out that a warm reset changes in the blocks or on the links. -/
def outsideWarm (s : State) : State :=
  { outsideSettle (outsideAborts s) with parser := {}, stall := .runningFree, selection := s.selection }

/-- The fields that a warm reset leaves. -/
theorem fields_of_outsideWarm {x y : State} (h : outsideWarm x = outsideWarm y) : x.control = y.control ∧ x.days = y.days ∧ x.unplaced = y.unplaced ∧ x.device = y.device ∧ x.runTime = y.runTime
      ∧ x.params = y.params ∧ x.clock = y.clock ∧ x.selection = y.selection ∧ x.loadCounter = y.loadCounter ∧ x.filter
      = y.filter ∧ x.freeIds = y.freeIds ∧ x.holds = y.holds ∧ x.pendingHolds = y.pendingHolds ∧ x.fullWaits =
      y.fullWaits ∧ x.catalogFull = y.catalogFull ∧ x.storeFull = y.storeFull ∧ x.strayFrames = y.strayFrames :=
  ⟨(congrArg State.control h : _), (congrArg State.days h : _), (congrArg State.unplaced h : _), (congrArg State.device
    h : _), (congrArg State.runTime h : _), (congrArg State.params h : _), (congrArg State.clock h : _), (congrArg
    State.selection h : _), (congrArg State.loadCounter h : _), (congrArg State.filter h : _), (congrArg State.freeIds h
    : _), (congrArg State.holds h : _), (congrArg State.pendingHolds h : _), (congrArg State.fullWaits h : _), (congrArg
    State.catalogFull h : _), (congrArg State.storeFull h : _), (congrArg State.strayFrames h : _)⟩

theorem outsideWarm_warmCounted (s : State) : outsideWarm (warmCounted s) = outsideWarm { s with
    control := [], days := (warmCounted s).days, unplaced := (warmCounted s).unplaced } := by
  rw [warmCounted_frame]
  have hheard := congrArg (fun y : State => outsideWarm { y with
    control := [], days := (warmCounted s).days, unplaced := (warmCounted s).unplaced }) (heardAnyway_frame s)
  exact hheard

theorem outsideWarm_settle (tag : Nat) (s : State) : outsideWarm (settle (warmDone tag s)) = outsideWarm { s with
    control := [], days := (warmCounted s).days, unplaced := (warmCounted s).unplaced } := by
  have hsettled := congrArg outsideWarm (outsideSettle_settle (warmDone tag s))
  have hsettled : outsideWarm (settle (warmDone tag s)) = outsideWarm (warmDone tag s) := hsettled
  have hdone : outsideWarm (warmDone tag s) = outsideWarm (warmSealed s) := by
    rw [warmDone_frame]
    rfl
  have hsealed : outsideWarm (warmSealed s) = outsideWarm (warmEnded s) := by
    rw [warmSealed_frame]
    rfl
  have hended := congrArg outsideWarm (outsideAborts_warmEnded s)
  have hended : outsideWarm (warmEnded s) = outsideWarm (warmCounted s) := hended
  rw [hsettled, hdone, hsealed, hended, outsideWarm_warmCounted]

/-- The walkers and the tags before the grants. -/
theorem warmDone_walkers (tag : Nat) (s : State) : (warmDone tag s).sweeper = stoppedSweeper s.sweeper
    ∧ (warmDone tag s).verifier = stoppedVerifier s.verifier ∧ (warmDone tag s).tags = s.tags := by
  have hheard := congrArg State.tags (heardAnyway_frame s)
  have hcounted := warmCounted_frame s
  have hended := outsideAborts_warmEnded s
  have hsealed := warmSealed_frame s
  have hdone := warmDone_frame tag s
  refine ⟨?_, ?_, ?_⟩
  · have h1 := congrArg State.sweeper hdone
    have h2 := congrArg State.sweeper hsealed
    have h3 := congrArg State.sweeper hended
    have h4 := congrArg State.sweeper hcounted
    exact h1.trans (h2.trans (h3.trans h4))
  · have h1 := congrArg State.verifier hdone
    have h2 := congrArg State.verifier hsealed
    have h3 := congrArg State.verifier hended
    have h4 := congrArg State.verifier hcounted
    exact h1.trans (h2.trans (h3.trans h4))
  · have h1 := congrArg State.tags hdone
    have h2 := congrArg State.tags hsealed
    have h3 := congrArg State.tags hended
    have h4 := congrArg State.tags hcounted
    exact h1.trans (h2.trans (h3.trans (h4.trans hheard)))

theorem onlyWrites_warmDone (tag : Nat) (s : State) : OnlyWrites (warmDone tag s) (arbitrate (warmDone tag s)) := by
  obtain ⟨hsweeper, hverifier, -⟩ := warmDone_walkers tag s
  refine onlyWrites_arbitrate ?_ ?_
  · rw [hsweeper]
    obtain hp | hp := stoppedSweeper_phase s.sweeper <;> simp [hp]
  · rw [hverifier]
    obtain hp | hp := stoppedVerifier_phase s.verifier <;> simp [hp]

/-! ### The lanes, Recent Files, banks and entries after it -/

theorem mem_warmFiles_lane {l : Fin 16} : l ∈ (warmFiles s).map Prod.fst ↔ (s.lane l).context ≠ none := by
  simp only [warmFiles, List.map_filterMap, List.mem_filterMap, List.mem_finRange, true_and, Option.map_map]
  constructor
  · rintro ⟨m, hm⟩
    cases hc : (s.lane m).context with
    | none => simp [hc] at hm
    | some c =>
      simp only [hc, Option.map_some, Function.comp_apply, Option.some.injEq] at hm
      rw [← hm, hc]
      simp
  · intro hc
    obtain ⟨c, hc⟩ := Option.ne_none_iff_exists'.mp hc
    exact ⟨l, by simp [hc]⟩

theorem lane_warmEnded (h : RecordsConserved s) (l : Fin 16) : (warmEnded s).lane l
    = { s.lane l with state := .idle, context := none, bufA := {}, bufB := {}, paused := false } := by
  rw [warmEnded, lane_foldl_fileAborts, lane_warmEmptied]
  obtain ⟨hlanes, -, -⟩ := recordsConserved_iff.mp h
  cases hc : (s.lane l).context with
  | some c =>
    have hmem : l ∈ (warmFiles s).map Prod.fst := mem_warmFiles_lane.mpr (by simp [hc])
    rw [if_pos hmem]
    rfl
  | none =>
    have hno : l ∉ (warmFiles s).map Prod.fst := fun hmem => mem_warmFiles_lane.mp hmem hc
    obtain ⟨hidle, -⟩ := (hlanes l).noFile hc
    rw [if_neg hno, warmLane, hc, ← hidle]
    rfl

theorem warmEmptied_fields (s : State) : (warmEmptied s).recent = s.recent ∧ (warmEmptied s).banks = s.banks
    ∧ (warmEmptied s).catalog = s.catalog ∧ (warmEmptied s).openSegments = s.openSegments := by
  have hemptied := warmEmptied_frame s
  have hcounted := warmCounted_frame s
  have hheard := heardAnyway_frame s
  refine ⟨?_, ?_, ?_, ?_⟩
  · have h1 := congrArg State.recent hemptied
    have h2 := congrArg State.recent hcounted
    have h3 := congrArg State.recent hheard
    exact h1.trans (h2.trans h3)
  · have h1 := congrArg State.banks hemptied
    have h2 := congrArg State.banks hcounted
    have h3 := congrArg State.banks hheard
    exact h1.trans (h2.trans h3)
  · have h1 := congrArg State.catalog hemptied
    have h2 := congrArg State.catalog hcounted
    have h3 := congrArg State.catalog hheard
    exact h1.trans (h2.trans h3)
  · have h1 := congrArg State.openSegments hemptied
    have h2 := congrArg State.openSegments hcounted
    have h3 := congrArg State.openSegments hheard
    exact h1.trans (h2.trans h3)

theorem onlySealed_warmSealed (h : NMap.canonical {} s.catalog = true) : OnlySealed s (warmSealed s) := by
  obtain ⟨-, -, hcatalog, hsegments⟩ := warmEmptied_fields s
  have hbefore : OnlySealed s (warmEmptied s) :=
    (⟨h, fun _ hg => hg, fun _ _ => rfl⟩ : OnlySealed s s).of_same hcatalog hsegments
  have hended : OnlySealed s (warmEnded s) := hbefore.foldl_fileAborts
  exact hended.foldl_sealSegment hended.segments

/-! ### What is sent (R37 step 3, R176) -/

theorem sentIfUp_feedTx (hup : s.feed.up = true) (fs : List FeedFrame) :
    (sentIfUp fs s).feedTx = s.feedTx ++ fs ∧ (sentIfUp fs s).feed.up = true := by
  rw [sentIfUp, if_pos hup]
  cases fs with
  | nil => exact ⟨(List.append_nil _).symm, hup⟩
  | cons f fs => exact ⟨rfl, hup⟩

theorem warmDone_feedTx (hup : s.feed.up = true) (tag : Nat) : (warmDone tag s).feedTx = s.feedTx ++ (pausedLanes s).map .laneResume
      ++ [.response tag 0x7F .done (.removed s.control.length)] := by
  have hheard : heardAnyway s = heardFeed s := if_neg (by simp [hup])
  have hheardTx := congrArg State.feedTx hheard
  have hstoppedTx : (warmStopped s).feedTx = s.feedTx := hheardTx
  have hheardUp := congrArg (fun x => x.feed.up) hheard
  have hstoppedUp : (warmStopped s).feed.up = true := hheardUp.trans hup
  have hcountedTx := congrArg State.feedTx (warmCounted_frame s)
  have hcountedTx : (warmCounted s).feedTx = s.feedTx := hcountedTx.trans hstoppedTx
  have hcountedFeed := congrArg (fun x => x.feed.up) (warmCounted_frame s)
  have hcountedFeed : (warmCounted s).feed.up = true := hcountedFeed.trans hstoppedUp
  obtain ⟨hemptiedTx, hemptiedUp⟩ := sentIfUp_feedTx (s := { warmCounted s with lanes := s.lanes.map warmLane }) hcountedFeed
    ((pausedLanes s).map .laneResume)
  have hendedTx := congrArg State.feedTx (outsideAborts_warmEnded s)
  have hendedTx : (warmEnded s).feedTx = (warmEmptied s).feedTx := hendedTx
  have hendedUp := congrArg (fun x => x.feed.up) (outsideAborts_warmEnded s)
  have hendedUp : (warmEnded s).feed.up = (warmEmptied s).feed.up := hendedUp
  have hsealedTx := congrArg State.feedTx (warmSealed_frame s)
  have hsealedTx : (warmSealed s).feedTx = (warmEnded s).feedTx := hsealedTx
  have hsealedUp := congrArg (fun x => x.feed.up) (warmSealed_frame s)
  have hsealedUp : (warmSealed s).feed.up = true := hsealedUp.trans (hendedUp.trans hemptiedUp)
  obtain ⟨hdone, -⟩ := sentIfUp_feedTx
    (s := { warmSealed s with stall := .runningFree, parser := { s.parser with phase := .idle } }) hsealedUp
    [.response tag 0x7F .done (.removed s.control.length)]
  have hdone : (warmDone tag s).feedTx = (warmSealed s).feedTx ++ [.response tag 0x7F .done (.removed s.control.length)] := hdone
  have hemptiedTx : (warmEmptied s).feedTx = (warmCounted s).feedTx ++ (pausedLanes s).map .laneResume := hemptiedTx
  rw [hdone, hsealedTx, hendedTx, hemptiedTx, hcountedTx]

/-! ### The state after the grants and the bundles -/

/-- What the grants and the bundles leave is as the end of the ingest left it. -/
theorem settle_warmDone {α : Type} (f : State → α) (hf : ∀ x, f (outsideSettle x) = f x) :
    f (settle (warmDone tag s)) = f (warmDone tag s) :=
  (hf _).symm.trans ((congrArg f (outsideSettle_settle (warmDone tag s))).trans (hf _))

theorem settle_warmDone_lanes (tag : Nat) (s : State) : (settle (warmDone tag s)).lanes = (warmEnded s).lanes := by
  have hdone := congrArg State.lanes (warmDone_frame tag s)
  have hsealed := congrArg State.lanes (warmSealed_frame s)
  exact (settle_warmDone State.lanes fun _ => rfl).trans (hdone.trans hsealed)

theorem settle_warmDone_lane (h : RecordsConserved s) (tag : Nat) (l : Fin 16) : (settle (warmDone tag s)).lane l
    = { s.lane l with state := .idle, context := none, bufA := {}, bufB := {}, paused := false } := by
  have hlane : (settle (warmDone tag s)).lane l = (warmEnded s).lane l := by simp only [State.lane, settle_warmDone_lanes]
  exact hlane.trans (lane_warmEnded h l)

theorem exec_resetWarm (h : RecordsConserved s) (tag : Nat) : exec (.resetWarm tag) s = .next (settle (warmDone tag s)) := by
  rw [← warmReset_eq h, ← receiveGood_feed]
  rfl

theorem settle_warmDone_recent (h : s.recent.length ≤ 64) (tag : Nat) : (settle (warmDone tag s)).recent
    = newest64 (s.recent ++ (warmFiles s).map fun p => { context := p.2, outcome := .aborted }) := by
  obtain ⟨hrecent, -, -, -⟩ := warmEmptied_fields s
  have hdone := congrArg State.recent (warmDone_frame tag s)
  have hsealed := congrArg State.recent (warmSealed_frame s)
  have hended := recent_foldl_fileAborts (warmFiles s) (warmEmptied s) (hrecent ▸ h)
  rw [hrecent] at hended
  exact (settle_warmDone State.recent fun _ => rfl).trans (hdone.trans (hsealed.trans hended))

theorem settle_warmDone_bank (tag : Nat) (s : State) (b : Fin 4) : (settle (warmDone tag s)).bank b
    = bankAfter ((warmFiles s).countP fun p => decide (p.2.bank = b)) (s.bank b) := by
  obtain ⟨-, hbanks, -, -⟩ := warmEmptied_fields s
  have hdone := congrArg State.banks (warmDone_frame tag s)
  have hsealed := congrArg State.banks (warmSealed_frame s)
  have hsame : (settle (warmDone tag s)).banks = (warmEnded s).banks :=
    (settle_warmDone State.banks fun _ => rfl).trans (hdone.trans hsealed)
  have hended := bank_foldl_fileAborts (warmFiles s) (warmEmptied s) b
  rw [bank_of_banks hbanks] at hended
  exact (bank_of_banks hsame b).trans hended

theorem settle_warmDone_encoder (tag : Nat) (s : State) : (settle (warmDone tag s)).openSegments = []
    ∧ (settle (warmDone tag s)).stall = .runningFree
    ∧ (settle (warmDone tag s)).parser = { s.parser with phase := .idle } := by
  have hopen := congrArg State.openSegments (warmDone_frame tag s)
  have hstall := congrArg State.stall (warmDone_frame tag s)
  have hparser := congrArg State.parser (warmDone_frame tag s)
  exact ⟨(settle_warmDone State.openSegments fun _ => rfl).trans (hopen.trans (openSegments_sealAll (warmEnded s))),
    (settle_warmDone State.stall fun _ => rfl).trans hstall, (settle_warmDone State.parser fun _ => rfl).trans hparser⟩

theorem settle_warmDone_walkers (tag : Nat) (s : State) : (settle (warmDone tag s)).sweeper = stoppedSweeper s.sweeper
    ∧ (settle (warmDone tag s)).verifier = stoppedVerifier s.verifier := by
  have hwrites := onlyWrites_warmDone tag s
  obtain ⟨hsweeper, hverifier, -⟩ := warmDone_walkers tag s
  have hflushedSweeper := congrArg State.sweeper (flushReports_frame (arbitrate (warmDone tag s)))
  have hflushedVerifier := congrArg State.verifier (flushReports_frame (arbitrate (warmDone tag s)))
  exact ⟨hflushedSweeper.trans (hwrites.sweeper.trans hsweeper), hflushedVerifier.trans (hwrites.verifier.trans hverifier)⟩

theorem settle_warmDone_entry (h : NMap.canonical {} s.catalog = true) {id : Nat} (hid : ∀ g ∈ s.openSegments, g.segmentId ≠ id)
    (tag : Nat) : (settle (warmDone tag s)).entry id = s.entry id := by
  have hflushed := congrArg State.catalog (flushReports_frame (arbitrate (warmDone tag s)))
  have hdone := congrArg State.catalog (warmDone_frame tag s)
  have hcatalog : (settle (warmDone tag s)).catalog = (warmSealed s).catalog :=
    hflushed.trans ((onlyWrites_warmDone tag s).catalog.trans hdone)
  exact (entry_of_catalog hcatalog id).trans ((onlySealed_warmSealed h).entry id hid)

theorem settle_warmDone_tag {g : Fin 8} (hg : s.tag g ≠ none) (tag : Nat) : (settle (warmDone tag s)).tag g = s.tag g := by
  obtain ⟨-, -, htags⟩ := warmDone_walkers tag s
  have htag {x y : State} (hxy : x.tags = y.tags) : x.tag g = y.tag g := by simp only [State.tag, hxy]
  have hflushed := congrArg State.tags (flushReports_frame (arbitrate (warmDone tag s)))
  have hflushed : (settle (warmDone tag s)).tags = (arbitrate (warmDone tag s)).tags := hflushed
  have hbefore : (warmDone tag s).tag g = s.tag g := htag htags
  exact (htag hflushed).trans (((onlyWrites_warmDone tag s).tag g (hbefore ▸ hg)).trans hbefore)

theorem settle_warmDone_feedTx (hup : s.feed.up = true) (tag : Nat) : ∃ bundles : List (List Report),
    (settle (warmDone tag s)).feedTx = s.feedTx ++ (pausedLanes s).map .laneResume
      ++ [.response tag 0x7F .done (.removed s.control.length)] ++ bundles.map .bundle := by
  obtain ⟨bundles, hbundles, -⟩ := exists_bundles (arbitrate (warmDone tag s))
  have hgrants := congrArg State.feedTx (arbitrate_frame (warmDone tag s))
  have hgrants : (arbitrate (warmDone tag s)).feedTx = (warmDone tag s).feedTx := hgrants
  refine ⟨bundles, hbundles.trans ?_⟩
  rw [hgrants, warmDone_feedTx hup]

/-- Settles O6: the reset is `warmDone` with the grants and the bundles after it, each part by what its steps leave. -/
theorem warmResetEndsIngest : Obligations.WarmResetEndsIngest := by
  intro s tag hconserved hbounded h stopped counted emptied files ended sealed t
  have ht : t = settle (warmDone tag s) := rfl
  have hcounted : counted = warmCounted s := rfl
  have hfiles : files = warmFiles s := rfl
  have hsweeper : stopped.sweeper = stoppedSweeper s.sweeper := rfl
  have hverifier : stopped.verifier = stoppedVerifier s.verifier := rfl
  obtain ⟨-, hrecent, -, -⟩ := hbounded
  obtain ⟨hcontrol, hkept⟩ := fields_of_outsideWarm (outsideWarm_settle tag s)
  obtain ⟨hopen, hstall, hparser⟩ := settle_warmDone_encoder tag s
  obtain ⟨hstoppedSweeper, hstoppedVerifier⟩ := settle_warmDone_walkers tag s
  rw [ht, hcounted, hfiles, hsweeper, hverifier]
  refine ⟨exec_resetWarm hconserved tag, hcontrol, hopen, hstall, hparser, settle_warmDone_lane hconserved tag,
    settle_warmDone_recent hrecent tag, hstoppedSweeper, hstoppedVerifier, settle_warmDone_bank tag s,
    fun hcanonical id hid => settle_warmDone_entry hcanonical hid tag, fun g hg => settle_warmDone_tag hg tag, ?_⟩
  obtain ⟨hdays, hunplaced, hdevice, hrunTime, hparams, hclock, hselection, hcounter, hfilter, hfree, hholds, hpending, hfull,
    hcatalogFull, hstoreFull, hstray⟩ := hkept
  exact ⟨hdays, hunplaced, hdevice, hrunTime, hparams, hclock, hselection, hcounter, hfilter, hfree, hholds, hpending, hfull,
    hcatalogFull, hstoreFull, hstray, fun hup => settle_warmDone_feedTx hup tag⟩

end

end Sys2Proof.Machine
